-- ==== Sys2Proof/Word.lean ====
section
/-!
DEFINITION. The words of the machine: bytes, 32-bit words, and the place of a register field.
-/

namespace Sys2Proof

/-- A 32-bit word: a register, a Jenmel instruction, a general register. -/
abbrev Word := BitVec 32

/-- A byte of memory. -/
abbrev Byte := BitVec 8

/-- A field of a mapped register: the register's address and the field's bits [hi:lo] (R11). -/
structure Ref where
  addr : Nat
  hi : Nat
  lo : Nat
  deriving DecidableEq, Repr

end Sys2Proof
end

