-- ==== Sys2Proof/Syntax.lean ====
section
/-!
DEFINITION. The commands of the block: one constructor of `Instr` per row of spec/opcode_table.json, with the row's
operands. An index that the part does not have cannot be written down. A command that is an engine's step or an event
carries what the outside world decides in it: a level, a sample, a measured value, an outcome.
-/

namespace Sys2Proof

/-- Where a Jenmel instruction issues: the core (0 to 7 RCn, 8 and 9 SC0 and SC1, 10 the Warden), whether it stands in
slot 1 of its bundle, and the word in the bundle's other slot (R53); the word 0 is NOP (R58). `err` names the words of
64 bits of an SRAM, by address, in which the code of R41 finds an error when the bundle reads them, and whether it
corrects it. -/
structure Issue where
  core : Fin 11
  slot : Bool
  mate : Word
  err : List (Nat × Bool)
  deriving DecidableEq, Repr

/-- The fields of the RRR and X formats beside major and function (R57, R106). -/
structure Rrr where
  d : BitVec 5
  s1 : BitVec 5
  s2 : BitVec 5
  g : BitVec 4
  deriving DecidableEq, Repr

/-- The fields of the RI format (R57). -/
structure Ri where
  d : BitVec 5
  s1 : BitVec 5
  imm : BitVec 16
  deriving DecidableEq, Repr

/-- The fields of CSRW beside its mode, which the row gives (R86). -/
structure Rw where
  s1 : BitVec 5
  imm : BitVec 16
  deriving DecidableEq, Repr

/-- The fields of the M format (R57). -/
structure Mf where
  t : BitVec 5
  base : BitVec 5
  g : BitVec 4
  off : BitVec 12
  deriving DecidableEq, Repr

/-- The fields of the B format (R57); bit 25 must be 0. -/
structure Bf where
  z : BitVec 1
  g : BitVec 4
  off : BitVec 21
  deriving DecidableEq, Repr

/-- The masters of the device, in the order of the queue masks of R615: the host, SC0, SC1, RC0 to RC7. -/
inductive Master where
  | host
  | sc0
  | sc1
  | rc (n : Fin 8)
  deriving DecidableEq, Repr

/-- What is reported against an island under R38. -/
inductive FailCause where
  | lku
  | wdt
  | clock
  | brownout
  | parity
  deriving DecidableEq, Repr

/-- The two Batten events that dispatch contexts (R151). -/
inductive BattenEvent where
  | reload
  | sampling
  deriving DecidableEq, Repr

/-- A Batten output: a direct channel or a remote-leg edge scheduler. -/
inductive Chan where
  | dir (n : Fin 48)
  | rem (m : Fin 144)
  deriving DecidableEq, Repr

/-- The value registers that BATTEN_VALUE_WRITE reaches (R207). -/
inductive BattenVal where
  | period | duty | phase | sample | dtr | dtf | blank | minpw | upOn | upOff | loOn | loOff
  deriving DecidableEq, Repr

/-- A comparator stage (R252, R280): a leg comparator's normal stage, the hard stage of CMP(2n), the comparators of a
window. -/
inductive Cmp where
  | leg (c : Fin 96)
  | hard (n : Fin 48)
  | winLo (k : Fin 16)
  | winHi (k : Fin 16)
  deriving DecidableEq, Repr

/-- What a self-test runs on (R261, R263). -/
inductive TestUnit where
  | leg (n : Fin 48)
  | win (k : Fin 16)
  deriving DecidableEq, Repr

/-- The commands: one constructor per row of spec/opcode_table.json. -/
inductive Instr where
  /-- ADD (R68): Integer add of two G registers modulo 2^32. -/
  | add (x : Issue) (f : Rrr)
  /-- SUB (R68): Integer subtract of two G registers modulo 2^32. -/
  | sub (x : Issue) (f : Rrr)
  /-- AND (R68): Bitwise AND of two G registers. -/
  | and (x : Issue) (f : Rrr)
  /-- OR (R68): Bitwise OR of two G registers. -/
  | or (x : Issue) (f : Rrr)
  /-- XOR (R68): Bitwise XOR of two G registers. -/
  | xor (x : Issue) (f : Rrr)
  /-- ANDN (R68): s1 AND NOT s2. -/
  | andn (x : Issue) (f : Rrr)
  /-- SLL (R68): Logical left shift by s2[4:0]. -/
  | sll (x : Issue) (f : Rrr)
  /-- SRL (R68): Logical right shift by s2[4:0]. -/
  | srl (x : Issue) (f : Rrr)
  /-- SRA (R68): Arithmetic right shift by s2[4:0]. -/
  | sra (x : Issue) (f : Rrr)
  /-- ROR (R68): Rotate right by s2[4:0]. -/
  | ror (x : Issue) (f : Rrr)
  /-- SLT (R68): Set 1 if s1 < s2 signed. -/
  | slt (x : Issue) (f : Rrr)
  /-- SLTU (R68): Set 1 if s1 < s2 unsigned. -/
  | sltu (x : Issue) (f : Rrr)
  /-- MIN (R68): Signed minimum. -/
  | min (x : Issue) (f : Rrr)
  /-- MAX (R68): Signed maximum. -/
  | max (x : Issue) (f : Rrr)
  /-- MINU (R68): Unsigned minimum. -/
  | minu (x : Issue) (f : Rrr)
  /-- MAXU (R68): Unsigned maximum. -/
  | maxu (x : Issue) (f : Rrr)
  /-- ADDS (R65): Saturating add, sets QS on saturation. -/
  | adds (x : Issue) (f : Rrr)
  /-- SUBS (R65): Saturating subtract, sets QS on saturation. -/
  | subs (x : Issue) (f : Rrr)
  /-- ABS (R68): Saturating absolute value. -/
  | abs (x : Issue) (f : Rrr)
  /-- CLZ (R68): Count leading zeros. -/
  | clz (x : Issue) (f : Rrr)
  /-- POPC (R68): Count ones. -/
  | popc (x : Issue) (f : Rrr)
  /-- ADDI (R68): Add sign-extended immediate. -/
  | addi (x : Issue) (f : Ri)
  /-- ANDI (R68): AND with zero-extended immediate. -/
  | andi (x : Issue) (f : Ri)
  /-- ORI (R68): OR with zero-extended immediate. -/
  | ori (x : Issue) (f : Ri)
  /-- XORI (R68): XOR with zero-extended immediate. -/
  | xori (x : Issue) (f : Ri)
  /-- SLTI (R68): Set if less than immediate, signed. -/
  | slti (x : Issue) (f : Ri)
  /-- SLTIU (R68): Set if less than immediate, unsigned. -/
  | sltiu (x : Issue) (f : Ri)
  /-- LUI (R68): Load immediate into upper 16 bits. -/
  | lui (x : Issue) (f : Ri)
  /-- SHI (R68): Shift or rotate by immediate. -/
  | shi (x : Issue) (f : Ri)
  /-- CMPI (R68): Compare with immediate into a predicate. -/
  | cmpi (x : Issue) (f : Ri)
  /-- CEQ (R70): Predicate = s1 equals s2. -/
  | ceq (x : Issue) (f : Rrr)
  /-- CNE (R70): Predicate = s1 differs from s2. -/
  | cne (x : Issue) (f : Rrr)
  /-- CLT (R70): Predicate = s1 < s2 signed. -/
  | clt (x : Issue) (f : Rrr)
  /-- CGE (R70): Predicate = s1 >= s2 signed. -/
  | cge (x : Issue) (f : Rrr)
  /-- CLTU (R70): Predicate = s1 < s2 unsigned. -/
  | cltu (x : Issue) (f : Rrr)
  /-- CGEU (R70): Predicate = s1 >= s2 unsigned. -/
  | cgeu (x : Issue) (f : Rrr)
  /-- PAND (R70): Predicate AND. -/
  | pand (x : Issue) (f : Rrr)
  /-- POR (R70): Predicate OR. -/
  | por (x : Issue) (f : Rrr)
  /-- PXOR (R70): Predicate XOR. -/
  | pxor (x : Issue) (f : Rrr)
  /-- PANDN (R70): Predicate AND NOT. -/
  | pandn (x : Issue) (f : Rrr)
  /-- PRD (R70): Read K7 to K0 into a G register. -/
  | prd (x : Issue) (f : Rrr)
  /-- PWR (R71): Write K1 to K7 from a G register. -/
  | pwr (x : Issue) (f : Rrr)
  /-- MUL (R68): Low 32 bits of a product. -/
  | mul (x : Issue) (f : Rrr)
  /-- MULD (R72): Signed 64-bit product into a register pair. -/
  | muld (x : Issue) (f : Rrr)
  /-- MULDU (R72): Unsigned 64-bit product into a register pair. -/
  | muldu (x : Issue) (f : Rrr)
  /-- MULDM (R72): Signed by unsigned 64-bit product into a pair. -/
  | muldm (x : Issue) (f : Rrr)
  /-- DIV (R72): Signed division with defined results for zero and overflow. -/
  | div (x : Issue) (f : Rrr)
  /-- DIVU (R72): Unsigned division. -/
  | divu (x : Issue) (f : Rrr)
  /-- REM (R72): Signed remainder. -/
  | rem (x : Issue) (f : Rrr)
  /-- REMU (R72): Unsigned remainder. -/
  | remu (x : Issue) (f : Rrr)
  /-- QMUL (R65): Q1.31 multiply, rounded and saturated. -/
  | qmul (x : Issue) (f : Rrr)
  /-- QMUL2 (R65): Two Q1.15 multiplies, rounded and saturated. -/
  | qmul2 (x : Issue) (f : Rrr)
  /-- LDB (R73): Load sign-extended byte. -/
  | ldb (x : Issue) (f : Mf)
  /-- LDBU (R73): Load zero-extended byte. -/
  | ldbu (x : Issue) (f : Mf)
  /-- LDH (R73): Load sign-extended halfword. -/
  | ldh (x : Issue) (f : Mf)
  /-- LDHU (R73): Load zero-extended halfword. -/
  | ldhu (x : Issue) (f : Mf)
  /-- LDW (R73): Load a word, locally or across the fabric. -/
  | ldw (x : Issue) (f : Mf)
  /-- LDD (R73): Load 64 bits into a register pair. -/
  | ldd (x : Issue) (f : Mf)
  /-- LDF (R73): Load a word into an F register. -/
  | ldf (x : Issue) (f : Mf)
  /-- STB (R73): Store a byte. -/
  | stb (x : Issue) (f : Mf)
  /-- STH (R73): Store a halfword. -/
  | sth (x : Issue) (f : Mf)
  /-- STW (R73): Store a word. -/
  | stw (x : Issue) (f : Mf)
  /-- STD (R73): Store a register pair; scrubs a marked SRAM word. -/
  | std (x : Issue) (f : Mf)
  /-- STF (R73): Store an F register. -/
  | stf (x : Issue) (f : Mf)
  /-- ATXCH (R77): Atomic exchange. -/
  | atxch (x : Issue) (f : Rrr)
  /-- ATADD (R77): Atomic add. -/
  | atadd (x : Issue) (f : Rrr)
  /-- ATAND (R77): Atomic AND. -/
  | atand (x : Issue) (f : Rrr)
  /-- ATOR (R77): Atomic OR. -/
  | ator (x : Issue) (f : Rrr)
  /-- ATXOR (R77): Atomic XOR. -/
  | atxor (x : Issue) (f : Rrr)
  /-- ATMAX (R77): Atomic signed maximum. -/
  | atmax (x : Issue) (f : Rrr)
  /-- ATMIN (R77): Atomic signed minimum. -/
  | atmin (x : Issue) (f : Rrr)
  /-- ATCAS (R77): Atomic compare and swap. -/
  | atcas (x : Issue) (f : Rrr)
  /-- ATADDS (R77): Atomic saturating add. -/
  | atadds (x : Issue) (f : Rrr)
  /-- ATRING (R77): Atomic ring-index increment. -/
  | atring (x : Issue) (f : Rrr)
  /-- MAC (R78): Accumulator multiply-accumulate. -/
  | mac (x : Issue) (f : Rrr)
  /-- MSU (R78): Accumulator multiply-subtract. -/
  | msu (x : Issue) (f : Rrr)
  /-- MACZ (R78): Accumulator set to a product. -/
  | macz (x : Issue) (f : Rrr)
  /-- MAC2 (R78): Dual halfword multiply-accumulate. -/
  | mac2 (x : Issue) (f : Rrr)
  /-- MSU2 (R78): Dual halfword multiply-subtract. -/
  | msu2 (x : Issue) (f : Rrr)
  /-- ACCLD (R78): Load a Q1.31 value into an accumulator. -/
  | accld (x : Issue) (f : Rrr)
  /-- ACCR (R78): Round and saturate an accumulator into a G register. -/
  | accr (x : Issue) (f : Rrr)
  /-- ACCRL (R78): Read accumulator bits 31:0. -/
  | accrl (x : Issue) (f : Rrr)
  /-- ACCRH (R78): Read accumulator bits 63:32. -/
  | accrh (x : Issue) (f : Rrr)
  /-- ACCRG (R78): Read accumulator guard bits. -/
  | accrg (x : Issue) (f : Rrr)
  /-- ACCWL (R78): Write accumulator bits 31:0. -/
  | accwl (x : Issue) (f : Rrr)
  /-- ACCWH (R78): Write accumulator bits 63:32. -/
  | accwh (x : Issue) (f : Rrr)
  /-- ACCWG (R78): Write accumulator guard bits. -/
  | accwg (x : Issue) (f : Rrr)
  /-- ACCADD (R78): Add two accumulators. -/
  | accadd (x : Issue) (f : Rrr)
  /-- ACCSUB (R78): Subtract two accumulators. -/
  | accsub (x : Issue) (f : Rrr)
  /-- ACCMV (R78): Copy an accumulator. -/
  | accmv (x : Issue) (f : Rrr)
  /-- ACCSH (R78): Shift an accumulator by an immediate. -/
  | accsh (x : Issue) (f : Rrr)
  /-- ACCCLR (R78): Clear an accumulator. -/
  | accclr (x : Issue) (f : Rrr)
  /-- FADD (R80): Float add. -/
  | fadd (x : Issue) (f : Rrr)
  /-- FSUB (R80): Float subtract. -/
  | fsub (x : Issue) (f : Rrr)
  /-- FMUL (R80): Float multiply. -/
  | fmul (x : Issue) (f : Rrr)
  /-- FDIV (R80): Float divide. -/
  | fdiv (x : Issue) (f : Rrr)
  /-- FSQRT (R80): Float square root. -/
  | fsqrt (x : Issue) (f : Rrr)
  /-- FMA (R80): Fused multiply-add. -/
  | fma (x : Issue) (f : Rrr)
  /-- FMS (R80): Fused multiply-subtract. -/
  | fms (x : Issue) (f : Rrr)
  /-- FMIN (R80): minimumNumber. -/
  | fmin (x : Issue) (f : Rrr)
  /-- FMAX (R80): maximumNumber. -/
  | fmax (x : Issue) (f : Rrr)
  /-- FABS (R80): Clear the sign. -/
  | fabs (x : Issue) (f : Rrr)
  /-- FNEG (R80): Invert the sign. -/
  | fneg (x : Issue) (f : Rrr)
  /-- FMOV (R80): Copy a float register. -/
  | fmov (x : Issue) (f : Rrr)
  /-- FCVTSW (R80): Integer to float. -/
  | fcvtsw (x : Issue) (f : Rrr)
  /-- FCVTWS (R80): Float to saturated integer. -/
  | fcvtws (x : Issue) (f : Rrr)
  /-- FCVTQS (R80): Float to saturated Q1.31. -/
  | fcvtqs (x : Issue) (f : Rrr)
  /-- FCVTSQ (R80): Q1.31 to float. -/
  | fcvtsq (x : Issue) (f : Rrr)
  /-- FMVGF (R80): Move float bits to a G register. -/
  | fmvgf (x : Issue) (f : Rrr)
  /-- FMVFG (R80): Move G bits to a float register. -/
  | fmvfg (x : Issue) (f : Rrr)
  /-- FEQ (R80): Quiet float equality into a predicate. -/
  | feq (x : Issue) (f : Rrr)
  /-- FLT (R80): Float less-than into a predicate. -/
  | flt (x : Issue) (f : Rrr)
  /-- FLE (R80): Float less-or-equal into a predicate. -/
  | fle (x : Issue) (f : Rrr)
  /-- FUN (R80): Predicate set if either operand is NaN. -/
  | fun (x : Issue) (f : Rrr)
  /-- BR (R81): Guarded relative branch. -/
  | br (x : Issue) (f : Bf)
  /-- CALL (R81): Guarded relative call writing G31. -/
  | call (x : Issue) (f : Bf)
  /-- JR (R81): Jump to the address in s1. -/
  | jr (x : Issue) (f : Rrr)
  /-- JALR (R81): Jump to s1 and write the return address to d. -/
  | jalr (x : Issue) (f : Rrr)
  /-- QPUSH (R83): Push a message from a buffer into a queue. -/
  | qpush (x : Issue) (f : Rrr)
  /-- QPOP (R83): Pop the head message of a queue into a buffer. -/
  | qpop (x : Issue) (f : Rrr)
  /-- QSTAT (R84): Return occupied and free entry counts of a queue. -/
  | qstat (x : Issue) (f : Rrr)
  /-- NOP (R85): No operation. -/
  | nop (x : Issue) (f : Rrr)
  /-- FENCE (R85): Wait for earlier memory operations, then refetch. -/
  | fence (x : Issue) (f : Rrr)
  /-- WAIT (R85): Stop issue until an interrupt is pending. -/
  | waitInt (x : Issue) (f : Rrr)
  /-- SYSCALL (R85): Raise the SYSCALL exception with a code. -/
  | syscall (x : Issue) (f : Rrr)
  /-- HRET (R96): Return from an exception handler. -/
  | hret (x : Issue) (f : Rrr)
  /-- CSRR (R86): Read a CSR. -/
  | csrr (x : Issue) (f : Ri)
  /-- CSRW_WRITE (R86): Write a CSR (mode 0). -/
  | csrwWrite (x : Issue) (f : Rw)
  /-- CSRW_SET (R86): Set bits of a CSR (mode 1). -/
  | csrwSet (x : Issue) (f : Rw)
  /-- CSRW_CLEAR (R86): Clear bits of a CSR (mode 2). -/
  | csrwClear (x : Issue) (f : Rw)
  /-- XLQ (R105): Query an address translation without faulting. -/
  | xlq (x : Issue) (f : Rrr)
  /-- XLINV (R105): Invalidate regions containing an address. -/
  | xlinv (x : Issue) (f : Rrr)
  /-- XLINVA (R105): Invalidate all translation regions. -/
  | xlinva (x : Issue) (f : Rrr)
  /-- INT (R97): A pending interrupt is taken at a bundle boundary when enabled. -/
  | takeInt (core : Fin 11)
  /-- SAMP (R114): Read a sample component, predicted or real, waiting if needed. -/
  | samp (x : Issue) (f : Rrr)
  /-- PRED (R113): Store a prediction for a sample component. -/
  | pred (x : Issue) (f : Rrr)
  /-- SPEC (R111): Take a checkpoint and begin a run-ahead region. -/
  | spec (x : Issue) (f : Rrr)
  /-- COMMIT (R117): Wait for resolution, drain the commit buffer and end the region. -/
  | commit (x : Issue) (f : Rrr)
  /-- SQUASH (R118): Roll back a speculative region. -/
  | squash (x : Issue) (f : Rrr)
  /-- YIELD (R119): Commit if needed and end the dispatch. -/
  | yield (x : Issue) (f : Rrr)
  /-- PWMW (R123): Stage one PWM write in the commit buffer. -/
  | pwmw (x : Issue) (f : Rrr)
  /-- TRACE (R126): Write a 32-bit value to a trace node. -/
  | trace (x : Issue) (f : Rrr)
  /-- TRACED (R126): Write a 64-bit value to a trace node. -/
  | traced (x : Issue) (f : Rrr)
  /-- OPEN (R127): Open a loop context. -/
  | openCtx (x : Issue) (f : Rrr)
  /-- CLOSE (R127): Close a loop context. -/
  | closeCtx (x : Issue) (f : Rrr)
  /-- CTXQ (R129): Query the state of a context. -/
  | ctxq (x : Issue) (f : Rrr)
  /-- CLARKE (R130): Two-phase Clarke transform. -/
  | clarke (x : Issue) (f : Rrr)
  /-- CLARKE3 (R130): Three-phase Clarke transform. -/
  | clarke3 (x : Issue) (f : Rrr)
  /-- PARK (R130): Park transform. -/
  | park (x : Issue) (f : Rrr)
  /-- IPARK (R130): Inverse Park transform. -/
  | ipark (x : Issue) (f : Rrr)
  /-- SINCOS (R131): Sine and cosine of a turn-fraction angle. -/
  | sincos (x : Issue) (f : Rrr)
  /-- SYMCOMP (R132): Positive and negative sequence components. -/
  | symcomp (x : Issue) (f : Rrr)
  /-- PLLSTEP (R134): Advance a phase-locked loop record one step. -/
  | pllstep (x : Issue) (f : Rrr)
  /-- PROF (R135): Advance a jerk-limited ramp record one step. -/
  | prof (x : Issue) (f : Rrr)
  /-- SAT (R137): Clamp to a signed bit width. -/
  | sat (x : Issue) (f : Rrr)
  /-- LIMIT (R137): Clamp between lower and upper bounds. -/
  | limit (x : Issue) (f : Rrr)
  /-- RSQRT (R138): Approximate reciprocal square root. -/
  | rsqrt (x : Issue) (f : Rrr)
  /-- FABRIC_TRANSFER (R32): A handshake transfer completes in the receiving island. -/
  | fabricTransfer (src : Fin 16) (dst : Fin 16) (parityError : Bool)
  /-- ISLAND_FAILED (R38): A failure report isolates the island within 16 PD3 cycles and records it. -/
  | islandFailed (pd : Fin 16) (cause : FailCause)
  /-- ISLAND_CLOCK_STOP (R650): An island whose clock stops holds its state. -/
  | islandClockStop (pd : Fin 16)
  /-- ISLAND_CLOCK_RESTART (R650): An island whose clock restarts before reset resumes from held state. -/
  | islandClockRestart (pd : Fin 16) (stopped : Word)
  /-- ISLAND_RECOVERY (R651): An isolated island is reset and released once its supply or clock returns. -/
  | islandRecovery (pd : Fin 16)
  /-- DISPATCH_EVENT (R154): A Batten event reaches a core's scheduler and readies contexts. -/
  | dispatchEvent (n : Fin 8) (ch : Chan) (evt : BattenEvent)
  /-- DISPATCH (R153): The scheduler starts the highest-priority ready context when the core is idle. -/
  | dispatch (n : Fin 8) (err : List (Nat × Bool))
  /-- SAMPLE_VECTOR_ARRIVAL (R156): A sample vector completes in the Rafter island and is compared with predictions. -/
  | sampleVectorArrival (c : Fin 256)
  /-- REEXEC_LIMIT (R161): A re-execution exceeding 280 cycles sets RLX. -/
  | reexecLimit (n : Fin 8)
  /-- VECTOR_TIMEOUT (R168): A vector not arrived VTO x 1024 cycles after the event flags feedback lost. -/
  | vectorTimeout (c : Fin 256)
  /-- FEEDBACK_LOST (R168): A detector or lane report flags a context's feedback lost or frozen. -/
  | feedbackLost (c : Fin 256)
  /-- FEEDBACK_CLEAR (R168): Eight consecutive good vectors clear the feedback flag. -/
  | feedbackClear (c : Fin 256)
  /-- HOLDN_EXPIRY (R170): The HOLDN-th event under a set flag disables the bound channels. -/
  | holdnExpiry (c : Fin 256)
  /-- YEALM_COPY_DONE (R173): A yealm copy completes and its slot becomes valid. -/
  | yealmCopyDone (c : Fin 256)
  /-- RESTORE (R174): The restore sequencer restores yealms, opens gates and re-closes contexts. -/
  | restore (n : Fin 8) (bad : List (Fin 256 × Bool))
  /-- SURVEY_REQUEST (R178): A write of SVY = 1 requests Survey mode or is refused with SVYR. -/
  | surveyRequest (n : Fin 8)
  /-- SURVEY_ENTRY (R178): The core enters Survey mode when no dispatch runs. -/
  | surveyEntry (n : Fin 8)
  /-- SURVEY_END (R178): A write of SVY = 0 ends Survey mode once the window has retired. -/
  | surveyEnd (n : Fin 8)
  /-- CTXCMD_OPEN (R189): Open a context of a core through CTXCMD. -/
  | ctxcmdOpen (n : Fin 8) (src : Master) (c : Byte)
  /-- CTXCMD_CLOSE (R189): Close a context of a core through CTXCMD. -/
  | ctxcmdClose (n : Fin 8) (src : Master) (c : Byte)
  /-- UTIL_WINDOW (R188): A 65,536-cycle window ends and BUSY is updated. -/
  | utilWindow (n : Fin 8) (busy : Nat)
  /-- CALIBRATION_DONE (R194): Start-up delay-line calibration ends and CALDONE is set. -/
  | calibrationDone (lock : Bool) (taps : BitVec 7)
  /-- BACKGROUND_CALIBRATION (R195): The replica line is re-measured every 2^20 ticks. -/
  | backgroundCalibration (lock : Bool) (taps : BitVec 7)
  /-- EPOCH_VISIBLE (R204): An epoch becomes visible in the shadow registers of its channels. -/
  | epochVisible (src : Fin 9) (late : List Byte)
  /-- RELOAD (R203): At a period start the channel copies pending shadows to active and raises the reload event. -/
  | reload (n : Fin 48)
  /-- SAMPLING_TRIGGER (R208): The sampling trigger fires at S plus SAMPLE. -/
  | samplingTrigger (ch : Chan)
  /-- RELEASE_CYCLE (R216): A remote scheduler freezes its period times LEAD before the period. -/
  | releaseCycle (m : Fin 144)
  /-- EDGE_SEQUENCE (R200): A scheduled LPULSE transition is carried out with LEN low around it. -/
  | edgeSequence (n : Fin 48)
  /-- PCM_TERMINATION (R209): The shunt comparator ends the active PCM pulse. -/
  | pcmTermination (n : Fin 48) (off : Nat)
  /-- BLANKING_END (R210): A blanking window ends; an active normal output then counts as becoming active. -/
  | blankingEnd (n : Fin 48) (straddle : Bool)
  /-- SYNC_EDGE (R213): An RSYNC or SYNCIN edge slips the next period by the clamped error. -/
  | syncEdge (n : Fin 48) (edge : Nat)
  /-- SLOST (R213): No sync edge in 256 periods sets SLOST. -/
  | slost (n : Fin 48)
  /-- CHANNEL_ENABLE (R219): A write of EN = 1 arms a channel or is refused with ENR. -/
  | channelEnable (ch : Chan)
  /-- CHANNEL_DISABLE (R219): A write of EN = 0 disables a channel and starts its stop. -/
  | channelDisable (ch : Chan)
  /-- STOP_COMPLETE (R221): STOPPING ends when LEN and LPULSE are both low. -/
  | stopComplete (ch : Chan)
  /-- PULSE_INHIBIT (R47): The reset controller asserts INH on outputs bound to a recovering island. -/
  | pulseInhibit (pd : Fin 16)
  /-- INH_RELEASE_MARK (R219): The reset controller marks INH for release; channels start at next reload. -/
  | inhReleaseMark (ch : Chan)
  /-- BATTEN_DISALL (R234): GO disables every channel and scheduler. -/
  | battenDisall
  /-- BATTEN_VALUE_WRITE (R207): A direct write sets shadow and active value registers of an OFF channel. -/
  | battenValueWrite (ch : Chan) (reg : BattenVal) (v : Word)
  /-- BATTEN_CLOCK_LOSS (R223): Flashing finds the PD12 clock stopped and removes every enable. -/
  | battenClockLoss
  /-- EDGE_CROSSING (R240): An edge-comparator crossing classifies a switching transition. -/
  | edgeCrossing (n : Fin 48) (off : Nat)
  /-- NOEDGE (R240): No crossing within TSWMAX sets NOEDGE. -/
  | noedge (n : Fin 48)
  /-- NORMAL_FRAME (R245): A strength-line cycle starts and sends a normal frame. -/
  | normalFrame (j : Fin 6)
  /-- ACK_WINDOW_END (R245): The acknowledge window ends and codes take effect. -/
  | ackWindowEnd (j : Fin 6) (slots : BitVec 16)
  /-- URGENT_FRAME (R251): An urgent frame orders code 0 for legs in HOLDING. -/
  | urgentFrame (j : Fin 6)
  /-- SOFT_TURN_OFF (R257): SOFTDLY after the urgent frame LEN and LPULSE fall and SOFTOFF starts. -/
  | softTurnOff (n : Fin 48)
  /-- SOFTHOLD_EXPIRY (R257): SOFTHOLD expires and the leg enters LATCHED. -/
  | softholdExpiry (n : Fin 48)
  /-- TRIP_LATCH (R253): A comparator output sets a trip latch, stamped and recorded. -/
  | tripLatch
  /-- GATE_RE (R257): Re-enable command for one leg. -/
  | gateRe (n : Fin 48)
  /-- GROUP_RE (R266): Re-enable every leg of a group. -/
  | groupRe (g : Fin 16)
  /-- SELFTEST_SHUNT_NORMAL (R261): Start a self-test of the shunt comparator's normal stage. -/
  | selftestShuntNormal (n : Fin 48)
  /-- SELFTEST_SHUNT_HARD (R261): Start a self-test of the shunt comparator's hard stage. -/
  | selftestShuntHard (n : Fin 48)
  /-- SELFTEST_EDGE (R261): Start a self-test of the edge comparator. -/
  | selftestEdge (n : Fin 48)
  /-- WIN_SELFTEST (R263): Start a window comparator self-test. -/
  | winSelftest (k : Fin 16)
  /-- SELFTEST_DONE (R262): A sweep ends, records UPC and DNC, sets STD or STE. -/
  | selftestDone (u : TestUnit) (upc : BitVec 10) (dnc : BitVec 10)
  /-- DEAD_CLOCK (R269): Four failed MCK periods make the clock dead. -/
  | deadClock (k : Fin 8) (backs : List (Bool × Bool))
  /-- DEAD_CLOCK_END (R269): Four good periods end the dead clock. -/
  | deadClockEnd (k : Fin 8) (backs : List (Bool × Bool))
  /-- FILTER_SETTLED (R274): Filter 0 settles and STL reads 1. -/
  | filterSettled (n : Fin 24) (rise : Word) (bits : List Bool)
  /-- MONITOR_OUTPUT (R273): Filter 1 forms a decimated output and checks MLIM. -/
  | monitorOutput (n : Fin 24) (rise : Word) (bits : List Bool)
  /-- SAMPLE_REQUEST (R276): A scheduler request for vector components reaches PD13. -/
  | sampleRequest (c : Fin 256)
  /-- VECTOR_PART_PRESENT (R276): PD13 presents the selected components to the fabric. -/
  | vectorPartPresent (core : Fin 8)
  /-- STUCK_PATTERN (R278): STUCKN repeating bits report a stuck pattern. -/
  | stuckPattern (n : Fin 32) (rise : Word) (bits : List Bool)
  /-- STUCK_PATTERN_END (R278): A bit breaking the repetition ends the stuck pattern. -/
  | stuckPatternEnd (n : Fin 32) (rise : Word) (bits : List Bool)
  /-- FROZEN_VALUE (R278): FRZK near-equal outputs report a frozen value. -/
  | frozenValue (n : Fin 24) (rise : Word) (bits : List Bool)
  /-- FROZEN_VALUE_END (R278): An output outside FRZBAND ends the frozen value. -/
  | frozenValueEnd (n : Fin 24) (rise : Word) (bits : List Bool)
  /-- COMPARATOR_OUTPUT_CHANGE (R283): A comparator output changes as its input leaves its band. -/
  | comparatorOutputChange (c : Cmp) (nv : Nat)
  /-- COMPARATOR_SETTLED (R282): Settling after enable or mode change ends and the comparator resolves. -/
  | comparatorSettled (c : Cmp) (nv : Nat)
  /-- DAC_CODE_WRITE (R284): A threshold code write takes effect or becomes the ramp base. -/
  | dacCodeWrite (c : Cmp) (code : BitVec 10) (late : Bool)
  /-- RAMP_START (R285): A reload marker starts the comparator ramp from its base. -/
  | rampStart (c : Fin 96)
  /-- WINDOW_FLT_QUAL (R289): A LEVEL window output active for QUAL cycles raises FLT. -/
  | windowFltQual (w : Fin 16)
  /-- SWING_TIMEOUT (R289): No threshold swing within SWTO raises FLT. -/
  | swingTimeout (w : Fin 16)
  /-- HADC_GO (R299): Start a housekeeping conversion. -/
  | hadcGo
  /-- HADC_STOP (R299): End any housekeeping conversion. -/
  | hadcStop
  /-- HADC_STARTUP_END (R295): The 48 us start-up delay ends and conversion begins. -/
  | hadcStartupEnd
  /-- HADC_RESULT (R295): A conversion result is written to HADC_DATA. -/
  | hadcResult (nv : Nat)
  /-- HADC_DATA_READ (R297): Reading HADC_DATA clears VALID. -/
  | hadcDataRead
  /-- REPORT_ESTIMATE (R311): A phasor report estimate becomes available and is pushed. -/
  | reportEstimate (n : Fin 8)
  /-- INTERNAL_ESTIMATE (R315): A half-cycle estimate updates ROCOF, frequency and vector-shift flags. -/
  | internalEstimate (n : Fin 8)
  /-- HARMONIC_WINDOW (R316): A harmonic window's results become available. -/
  | harmonicWindow (n : Fin 8)
  /-- PERTURBATION_WINDOW (R336): Window estimates fa and fb give a response and update RCNT. -/
  | perturbationWindow (n : Fin 8)
  /-- PERTURBATION_WORD_WRITE (R337): The unit writes the perturbation word for the next window. -/
  | perturbationWordWrite (n : Fin 8)
  /-- PU_RESTART (R317): A phasor unit restarts after release, enable, reconfiguration or time step. -/
  | puRestart (n : Fin 8)
  /-- SEQ_START (R322): Host START command to the connection sequencer. -/
  | seqStart
  /-- SEQ_STOP (R322): Host STOP command; cease and go to INHIBITED. -/
  | seqStop
  /-- SEQ_PSET (R322): Host PSET command sets the active-power target. -/
  | seqPset
  /-- SEQ_QSET (R322): Host QSET command sets the reactive target. -/
  | seqQset
  /-- SEQ_MODE (R322): Host MODE command requests a GFL/GFM hand-over. -/
  | seqMode
  /-- SEQ_STATUS (R322): Host STATUS command returns the sequencer state. -/
  | seqStatus
  /-- VPLUS_INVALID_TIMEOUT (R320): V+ invalid for 100 ms makes the sequencer cease. -/
  | vplusInvalidTimeout
  /-- GRID_FLAG_SEEN (R320): The sequencer acts on ISL, ROCL, VSL or FL: cease or hand over. -/
  | gridFlagSeen
  /-- GRID_RETURN (R320): GRETN non-responding windows in ISLAND hand back to GFL. -/
  | gridReturn
  /-- RECONT_EXPIRY (R320): The RECONT timer expires and the sequencer enters SYNC. -/
  | recontExpiry
  /-- LOCK_TIMER_EXPIRY (R320): The 2 s lock timer expires and the sequencer returns to WAIT. -/
  | lockTimerExpiry
  /-- CONNECTION_WINDOW_EXIT (R320): V+ or FREQ outside its window restarts RECONT. -/
  | connectionWindowExit
  /-- PLL_LOCKED (R323): The law's PLL-locked event message is taken by the sequencer. -/
  | pllLocked
  /-- RELAY_CLOSED_READBACK (R320): Read-back shows the chain closed; channels enabled and law closed. -/
  | relayClosedReadback
  /-- RIDE_ENTERED (R327): The law's RIDE-entered event message is taken by the sequencer. -/
  | rideEntered
  /-- RIDE_LEFT (R330): The law's RIDE-left event message is taken by the sequencer. -/
  | rideLeft
  /-- ENVELOPE_VIOLATED (R330): The law's envelope-violation message makes the sequencer cease. -/
  | envelopeViolated
  /-- RAMP_COMPLETE (R320): The law's power-ramp-complete message moves RAMP to RUN. -/
  | rampComplete
  /-- CEASED_SETTLED (R320): Channels OFF and relay open move CEASED to WAIT. -/
  | ceasedSettled
  /-- HARMONIC_DERATE (R325): HTIME of harmonic exceedance lowers or raises the Id+ ceiling. -/
  | harmonicDerate
  /-- BOOST_ENABLE (R347): EN = 1 on a converter sets up its phases or is refused with CFE. -/
  | boostEnable (k : Fin 8)
  /-- BOOST_DISABLE (R353): EN = 0 disables every phase of the converter. -/
  | boostDisable (k : Fin 8)
  /-- ICMD_WRITE (R351): A current command write, deferred with BND if late. -/
  | icmdWrite (k : Fin 8) (v : Word) (late : Bool)
  /-- SHED_START (R354): The shed condition held for SHT reloads starts a shed. -/
  | shedStart (k : Fin 8)
  /-- SHED_COMPLETE (R354): The last shed step disables the phase and re-spaces. -/
  | shedComplete (k : Fin 8)
  /-- ADD_START (R356): The add condition held for ADT reloads enables a phase. -/
  | addStart (k : Fin 8)
  /-- ADD_COMPLETE (R356): The added phase reaches RUN, is counted and phases re-spaced. -/
  | addComplete (k : Fin 8)
  /-- PHASE_OPEN_FAILURE (R360): OPENN CTMAX periods remove a failed-open phase. -/
  | phaseOpenFailure (k : Fin 8) (i : Fin 6)
  /-- CROSS_CHECK_WINDOW (R361): A cross-check window compares EST with IDC and may locate a sense fault. -/
  | crossCheckWindow (k : Fin 8)
  /-- FAIL_CLEAR (R364): Writing 1 to a FAIL bit clears it only while EN = 0. -/
  | failClear (k : Fin 8) (mask : BitVec 6)
  /-- MPP_ENABLE (R365): MEN = 1 starts the MPP engine or is refused with CFE. -/
  | mppEnable (k : Fin 8)
  /-- MPP_INTERVAL_END (R366): An interval ends and the reference is stepped or a scan point taken. -/
  | mppIntervalEnd (k : Fin 8)
  /-- MPP_SCAN_GO (R368): A GO write requests a global scan. -/
  | mppScanGo (k : Fin 8)
  /-- SCMIN_EXPIRY (R368): A held scan trigger is released once SCMIN has passed. -/
  | scminExpiry (k : Fin 8)
  /-- METER_SAMPLE (R384): A decimated sample is corrected, multiplied and accumulated. -/
  | meterSample (m : Fin 2) (bnd : Bool)
  /-- BLOCK_END (R379): A 200 ms block ends and RMS, P, Q, S are computed. -/
  | blockEnd (m : Fin 2)
  /-- INTERVAL_CLOSE (R390): A metering interval closes and its record burst is posted. -/
  | intervalClose (m : Fin 2)
  /-- PULSE_START (R392): A pending crossing starts a pulse once the pin has been inactive long enough. -/
  | pulseStart (p : Fin 4)
  /-- PULSE_END (R392): A pulse of width W ends. -/
  | pulseEnd (p : Fin 4)
  /-- METER_CHECKPOINT (R396): A checkpoint is posted at each top of second. -/
  | meterCheckpoint
  /-- EWM_CHECKPOINT (R397): The early warning posts a checkpoint with EWM and clears the journal. -/
  | ewmCheckpoint
  /-- METER_RESTORE (R400): At PD15 release the accumulators are restored from checkpoint and journal. -/
  | meterRestore
  /-- METER_ENABLE (R376): EN = 1 on an instance, refused with CFE if misconfigured. -/
  | meterEnable (m : Fin 2)
  /-- METER_CLR (R387): Clear the accumulators of a disabled instance if allowed. -/
  | meterClr (m : Fin 2)
  /-- INPUT_DEMAND (R423): A safety input low for FILT enters demand. -/
  | inputDemand (warden : Bool) (i : Fin 16)
  /-- INPUT_HEALTHY (R423): A safety input high for FILT becomes healthy. -/
  | inputHealthy (warden : Bool) (i : Fin 16)
  /-- CHDLY_EXPIRY (R426): CHDLY runs out and the named chains open. -/
  | chdlyExpiry (warden : Bool) (f : Fin 8)
  /-- TEST_PULSE (R421): A test pulse source drives its low pulse. -/
  | testPulse (k : Fin 4) (follows : Bool)
  /-- TEST_WINDOW_END (R422): A test window ends and MISS and XSH are checked. -/
  | testWindowEnd (k : Fin 4) (low : BitVec 16) (around : BitVec 16)
  /-- DISC (R424): A pair inconsistent for DISC ms is a discrepancy fault. -/
  | disc (warden : Bool) (p : Fin 8)
  /-- DISAG (R412): A channel disagreement lasting 20 ms is a fault. -/
  | disag
  /-- LOCK_RECORD_RETRY (R442): The lock record burst is retried every 10 ms. -/
  | lockRecordRetry
  /-- PERMIT_LOSS (R411): A dynamic permit that stops toggling removes the output within 2 us. -/
  | permitLoss (warden : Bool)
  /-- SAFE_RCREQ_WRITE (R416): A relay-chain close request is written. -/
  | safeRcreqWrite (v : BitVec 4)
  /-- DARK_TEST (R417): A channel opens its chain switch for DARK us. -/
  | darkTest (c : Fin 4) (high : Bool)
  /-- READBACK_CHECK (R417): RBT after a command the read-back is checked; stuck faults set RCF. -/
  | readbackCheck (c : Fin 4) (rbh : Bool) (rbl : Bool)
  /-- EDM_CHECK (R417): 250 ms after a chain command the EDM input is checked. -/
  | edmCheck (c : Fin 4)
  /-- SAFE_FRAME_PUBLISH (R432): A publication sends a PDU on both ports each PERIOD, unless suppressed. -/
  | safeFramePublish (t : Fin 4)
  /-- SAFE_FRAME_RECEIVE (R433): A received PDU copy is checked and accepted, compared or discarded. -/
  | safeFrameReceive (net : Bool) (pdu : List Byte)
  /-- DUPWIN_EXPIRY (R435): No second copy within DUPWIN counts SGL. -/
  | dupwinExpiry (k : Fin 4)
  /-- SUBSCRIPTION_WATCHDOG (R436): No new SEQ for WDT ms zeros the command bits. -/
  | subscriptionWatchdog (warden : Bool) (k : Fin 4)
  /-- WARDEN_HEARTBEAT (R437): The Warden writes the heartbeat checked by Flashing. -/
  | wardenHeartbeat (v : Word)
  /-- WHB (R437): A missing heartbeat within WMAX is a fault. -/
  | whb
  /-- CLOCK_OBSERVER_FAILURE (R438): An observer finds an island clock stopped or fast. -/
  | clockObserverFailure (warden : Bool) (pd : Fin 16)
  /-- WCLK (R438): Flashing finds the Warden oscillator failed. -/
  | wclk
  /-- FCLK (R438): The Warden finds the Flashing oscillator failed. -/
  | fclk
  /-- PF_RESTORE (R439): PF is restored after 1024 clean Flashing cycles of the PD12 clock. -/
  | pfRestore
  /-- WINDOW_TEST_TIMER (R440): Every 8 h the Warden self-tests a safety window. -/
  | windowTestTimer (k : Fin 16) (upper : Bool)
  /-- SAFE_STOP (R425): SAFE_CMD.STOP puts every function in demand. -/
  | safeStop
  /-- SAFE_RESTART (R427): SAFE_CMD.RST restarts functions with RSRC = 0. -/
  | safeRestart (m : BitVec 8)
  /-- SAFE_CNTCLR (R456): Clear every subscription counter. -/
  | safeCntclr
  /-- SAFE_EDIT (R451): SAFE_CMD.EDIT enters UNCONFIRMED or is refused with PARW. -/
  | safeEdit
  /-- UNLOCK_REQUEST (R444): Purpose 0x01 starts an unlock exchange with a nonce. -/
  | unlockRequest
  /-- EDIT_REQUEST (R444): Purpose 0x02 starts an edit authorisation exchange. -/
  | editRequest
  /-- UNLOCK_RESPONSE (R444): Writing UNLRSP7 checks the HMAC. -/
  | unlockResponse (w : Word)
  /-- UNLOCK_PEND_EXPIRY (R444): The 60 s PEND authorisation expires. -/
  | unlockPendExpiry
  /-- UNLOCK_BLOCK_EXPIRY (R444): The 600 s block ends. -/
  | unlockBlockExpiry
  /-- SRST_PULSE (R445): A release of SRST_N ends a measured low time. -/
  | srstPulse (warden : Nat) (flashing : Nat) (fault : Bool)
  /-- SAFE_PAR_WRITE (R451): A write to the parameter record recomputes its CRC. -/
  | safeParWrite (k : Fin 128) (v : Word)
  /-- SAFE_CONFIRM (R452): A confirmation write stores the record or sets CNFE. -/
  | safeConfirm (v : Word)
  /-- PARAM_CRC_CHECK (R449): Each second both channels recompute the record CRC. -/
  | paramCrcCheck (warden : Bool) (differs : Bool)
  /-- PCF (R452): Channel CRCs still differing 100 ms after a write is a fault. -/
  | pcf
  /-- SAFETY_INIT (R451): At release of PD1 and PD2 the safety state is initialised. -/
  | safetyInit
  /-- LOSS_OF_REFERENCE (R464): Loss of reference starts the bypass sequence. -/
  | lossOfReference (lref : Bool)
  /-- LOSS_OF_LOCK (R464): Loss of lock starts the bypass sequence. -/
  | lossOfLock (n : Fin 4)
  /-- SYNTH_LOCK (R462): A synthesizer achieves lock. -/
  | synthLock (n : Fin 4)
  /-- SYNTH_STABLE (R462): A synthesizer becomes stable; consumers return. -/
  | synthStable (n : Fin 4)
  /-- UPD (R469): Apply the shadow dividers or refuse with CFE. -/
  | upd (n : Fin 4)
  /-- FBYP (R467): Force consumers to BYPCLK. -/
  | fbyp (n : Fin 4)
  /-- RESUME (R467): Return consumers to the synthesizer. -/
  | resume (n : Fin 4)
  /-- UPDATE_TIMEOUT (R470): Not stable 5 ms after an update sets TMO. -/
  | updateTimeout (n : Fin 4)
  /-- BYPCLK_MEASURE (R459): BYPCLK is measured against REFCLK every 10 us. -/
  | bypclkMeasure (byp : BitVec 16) (ref : BitVec 16)
  /-- TIME_STEP (R475): STEP adds an offset to the time base once per acquisition. -/
  | timeStep
  /-- UNACQ (R475): Return the time base to FREE. -/
  | unacq
  /-- TIME_SYNC (R476): SYNC = 1 confirms synchronisation. -/
  | timeSync
  /-- TSYN_HOLD_EXPIRY (R476): No SYNC within HOLD seconds clears TSYN. -/
  | tsynHoldExpiry
  /-- FOLLOWER_REFRESH (R478): PD3 refreshes each island's time-base follower. -/
  | followerRefresh
  /-- LANE_ENABLE (R489): EN = 1 on a lane, refused with CFE if not allowed. -/
  | laneEnable (n : Fin 32)
  /-- CDR_LOCK (R495): The receiver's clock recovery locks and RXLOCK reads 1. -/
  | cdrLock (n : Fin 32)
  /-- HBAD_WINDOW (R495): A 1024-block window ends and HBAD is updated. -/
  | hbadWindow (n : Fin 32) (bad : Nat)
  /-- SLIP (R495): Move the block boundary one bit later. -/
  | slip (n : Fin 32)
  /-- ALIGN (R496): Declare the block boundary found. -/
  | align (n : Fin 32)
  /-- UNALIGN (R497): Clear ALIGNED without ALOST. -/
  | unalign (n : Fin 32)
  /-- ESGO (R498): Start an eye-scan point. -/
  | esgo (n : Fin 32)
  /-- EYE_SCAN_DONE (R498): An eye-scan point ends and ESD is set. -/
  | eyeScanDone (n : Fin 32) (errs : Nat)
  /-- PURLIN_CNTCLR (R524): Clear the lane counters. -/
  | purlinCntclr (n : Fin 32)
  /-- DTIM (R501): A DTIM frame is sent for each release cycle of a group. -/
  | dtim (g : Fin 24) (x : Nat)
  /-- DMID (R502): A DMID frame is sent at mid period or dropped. -/
  | dmid (g : Fin 24) (busy : Bool)
  /-- DINH (R503): Inhibit or Ridge trip aborts the frame and sends DINH. -/
  | dinh (g : Fin 24)
  /-- DINH_REPEAT (R503): DINH repeats every 2 us while the condition lasts. -/
  | dinhRepeat (g : Fin 24)
  /-- UPS (R508): An upstream frame is received and its samples and timing decoded. -/
  | ups (g : Fin 24) (prev : BitVec 58) (line : List (BitVec 66)) (rtt : Nat)
  /-- MSG_SEND (R515): The lane pops a message and sends a MSG frame. -/
  | msgSend (n : Fin 32)
  /-- MSG (R515): A received MSG frame is pushed into RXQ and acknowledged. -/
  | laneMsg (n : Fin 32) (prev : BitVec 58) (line : List (BitVec 66))
  /-- MACK (R515): A received acknowledge updates flow control. -/
  | laneMack (n : Fin 32) (prev : BitVec 58) (line : List (BitVec 66))
  /-- MCFG (R515): A received entry size updates PEER. -/
  | laneMcfg (n : Fin 32) (prev : BitVec 58) (line : List (BitVec 66))
  /-- ENET_RECEIVE (R517): A received frame is stamped and placed in a receive descriptor. -/
  | enetReceive (e : Fin 4) (frame : List Byte) (fcs : Bool)
  /-- KICK (R517): Send every ready transmit descriptor. -/
  | kick (e : Fin 4)
  /-- ENET_TRANSMIT_DONE (R518): A frame has left; stamp written and OWN cleared. -/
  | enetTransmitDone (e : Fin 4)
  /-- RIDGE_TRIP (R521): RTRIP_N low removes every enable and sets RTL. -/
  | ridgeTrip
  /-- RIDGE_TRIP_CMD (R520): TRIP drives RTRIP_N for 1 us. -/
  | ridgeTripCmd
  /-- RIDGE_CLR (R522): CLR clears RTL once RTRIP_N has been high. -/
  | ridgeClr (high : Bool)
  /-- RSTK (R522): RTRIP_N low for 100 ms sets RSTK. -/
  | rstk
  /-- RSYNC_EDGE (R523): A rising RSYNC edge is stamped for RSYNC channels. -/
  | rsyncEdge (contend : Bool)
  /-- STORE_MEASURE (R530): Every 64 ms PD0 measures its stores and checks references. -/
  | storeMeasure (vqs : BitVec 16) (vls : BitVec 16) (refBad : Bool) (temp : Int)
  /-- PD0_OFF (R531): HQS below VOFF turns PD0 off. -/
  | pd0Off (done : Nat)
  /-- PD0_COLD_START (R531): HQS above VSTART starts PD0 cold, scanning the log. -/
  | pd0ColdStart (vio33 : Bool)
  /-- TOP_OF_SECOND (R534): The seconds counter loads from the time base. -/
  | topOfSecond
  /-- AUTOTRIM (R534): Each hour TRIM is set against the time base. -/
  | autotrim (ticks : Nat)
  /-- SUPPLY_LOSS (R535): The first brown-out stamps tL and writes a final checkpoint. -/
  | supplyLoss (vcore : Bool) (vio33 : Bool)
  /-- DARK_CHECKPOINT (R535): A final checkpoint every CKPER minutes while dark. -/
  | darkCheckpoint
  /-- SUPPLY_RETURN (R535): VIO33 return writes a checkpoint and posts RETURN. -/
  | supplyReturn
  /-- TAMPER (R537): A tamper input recognised active sets TF and records. -/
  | tamper (k : Fin 4) (act : Bool)
  /-- WAKE_ALARM (R538): The wake alarm asserts EWAKE_N. -/
  | wakeAlarm
  /-- EWAKE_RELEASE (R538): EWAKE_N released after VIO33 present for 1 s. -/
  | ewakeRelease
  /-- BURST_REQUEST (R540): A burst request passes the energy check or is deferred. -/
  | burstRequest (vqs : BitVec 16) (vls : BitVec 16)
  /-- BURST_COMPLETE (R543): A burst finishes with OK or MFAIL. -/
  | burstComplete (fail : Option Nat)
  /-- BURST_GO (R544): Start a software burst. -/
  | burstGo
  /-- POST (R548): A post enters the Thatch FIFO, or is lost if full. -/
  | thatchPost (event : BitVec 16) (source : BitVec 8) (payload : List Byte)
  /-- RECORD_WRITE (R547): The controller takes a post and writes or merges a record. -/
  | recordWrite (vqs : BitVec 16) (vls : BitVec 16) (fail : Option Nat)
  /-- SOFTWARE_POST (R555): A POST3 write posts a software record or is refused. -/
  | softwarePost (src : Master) (w : Word)
  /-- CLRREQ (R556): Start an authorised log clear exchange. -/
  | clrreq (purp : Byte)
  /-- CLEAR_RESPONSE (R556): Writing RSP7 checks the HMAC and starts the clear. -/
  | clearResponse (w : Word)
  /-- CLEAR_COMPLETE (R557): A log clear finishes and CLD is set. -/
  | clearComplete
  /-- CLEAR_BLOCK_EXPIRY (R556): The 600 s block of clearing ends. -/
  | clearBlockExpiry
  /-- DEFCNT_CLR (R558): Clear the deferral counter. -/
  | defcntClr
  /-- POWER_ON_RESET (R564): VCORE rise or brown-out resets PD1 to PD15 and clears RWS. -/
  | powerOnReset (brownout : Bool)
  /-- VIO33_BROWN_OUT (R564): VIO33 brown-out resets PD1 to PD15. -/
  | vio33BrownOut
  /-- VIO18_BROWN_OUT (R564): VIO18 brown-out resets PD3 to PD15. -/
  | vio18BrownOut
  /-- VANA_BROWN_OUT (R564): VANA brown-out fails PD13. -/
  | vanaBrownOut
  /-- VLANE_BROWN_OUT (R564): VLANE or VLANEIO brown-out fails PD14. -/
  | vlaneBrownOut (io : Bool)
  /-- PIN_RESET (R564): RESET_N low resets PD1 to PD15. -/
  | pinReset
  /-- SOFTWARE_RESET_PD3 (R564): SWR with SCOPE 0 resets PD3 to PD15. -/
  | softwareResetPd3
  /-- SOFTWARE_RESET_PD1 (R564): SWR with SCOPE 1 resets PD1 to PD15 and reloads fuses. -/
  | softwareResetPd1
  /-- SUPERVISOR_WATCHDOG (R574): WDT0 or WDT1 expiry resets PD3 to PD15. -/
  | supervisorWatchdog (k : Fin 2)
  /-- WDT_KICK (R574): A KICK write restarts or expires a watchdog. -/
  | wdtKick (k : Fin 2) (key : Word)
  /-- RAFTER_WATCHDOG (R575): A dispatch exceeding RWTO fails its Rafter island. -/
  | rafterWatchdog (n : Fin 8)
  /-- BOOT_WATCHDOG (R579): No DONE 2 s after PD3 release resets. -/
  | bootWatchdog
  /-- MRQ_RESET_REQUEST (R565): Purpose 0x01 starts a maintenance reset exchange. -/
  | mrqResetRequest
  /-- MRQ_UNDERLAY_REQUEST (R565): Purpose 0x02 starts a reset-into-Underlay exchange. -/
  | mrqUnderlayRequest
  /-- MRQ_RESPONSE (R565): Writing MRQRSP7 checks the HMAC and resets on a match. -/
  | mrqResponse (w : Word)
  /-- MRQ_BLOCK_EXPIRY (R565): The 600 s block of MRQ ends. -/
  | mrqBlockExpiry
  /-- EARLY_WARNING (R567): An early-warning detector raises the warning to PD15 and PD0. -/
  | earlyWarning (vio33 : Bool)
  /-- FUSE_LOAD (R568): The fuse map is loaded and checked after BYPCLK is stable. -/
  | fuseLoad (array : List (Fin 256 × Word))
  /-- ISLAND_RELEASE (R572): An island is released when due and its clock is stable. -/
  | islandRelease (pd : Fin 16)
  /-- CKF (R573): An island not released 5 ms after due is held with CKF. -/
  | ckf (pd : Fin 16)
  /-- PWR_ON (R561): PWR = 1 powers an OFF island into HELD. -/
  | pwrOn (pd : Fin 16)
  /-- PWR_OFF (R562): PWR = 0 switches an island off or is refused. -/
  | pwrOff (pd : Fin 16)
  /-- RESTART (R563): Reset one island without a fault. -/
  | restart (pd : Fin 16)
  /-- ROM_LOADER (R578): The loader selects and verifies a slot, or starts the default program or Underlay. -/
  | romLoader
  /-- BOOT_DONE (R579): DONE completes the start and clears FSC. -/
  | bootDone
  /-- INFO (R582): Underlay command replying with identity and slot versions; `spi` is the message where it comes from the SPI target
and not from Q30, as in the commands below. -/
  | ulInfo (spi : Option (List Byte))
  /-- ERASE (R582): Underlay command erasing a slot. -/
  | ulErase (spi : Option (List Byte)) (flashErr : Bool)
  /-- WRITE (R582): Underlay command writing data to a slot. -/
  | ulWrite (spi : Option (List Byte)) (flashErr : Bool)
  /-- UNDERLAY_VERIFY (R582): Underlay command verifying a slot and making it preferred. -/
  | underlayVerify (spi : Option (List Byte))
  /-- LOGREAD (R582): Underlay command returning a Thatch record. -/
  | logread (spi : Option (List Byte))
  /-- SWAP (R587): Arm the configuration exchange or refuse with a code. -/
  | cfgSwap (err : List (Nat × Bool))
  /-- CHECK (R587): Run the SWAP tests without arming. -/
  | cfgCheck
  /-- LOAD (R586): Copy the newer stored set to the shadow area. -/
  | cfgLoad
  /-- SWAP_BOUNDARY (R588): At B the armed exchange opens contexts and exchanges entries. -/
  | swapBoundary
  /-- SWAP_PERIOD_END (R588): The swap period ends; changed contexts close at next dispatch. -/
  | swapPeriodEnd
  /-- SWAP_DONE (R588): All entries exchanged; DONE set and stored write started. -/
  | swapDone
  /-- STORED_SET_WRITE (R591): The active set is written to the older stored slot. -/
  | storedSetWrite
  /-- IMG_VERIFY (R593): Check a slot and load it into standby banks. -/
  | imgVerify (slot : Fin 2)
  /-- IMAGE_READY (R593): The image load completes as READY or FAILED. -/
  | imageReady (flashErr : Bool)
  /-- HELD_ACCESS_TIMEOUT (R600): A held access not repeated within HOLDTO is released. -/
  | heldAccessTimeout
  /-- SPI_WRITE (R607): SPI command writing words. -/
  | spiWrite (addr : Word) (words : List (Word × Bool))
  /-- SPI_READ (R607): SPI command reading words. -/
  | spiRead (addr : Word) (waits : List Nat) (err : List (Nat × Bool))
  /-- SPI_STATUS (R607): SPI command returning write status. -/
  | spiStatus (cmd : Byte) (busy : Bool)
  /-- SNAPSHOT_LATCH_READ (R605): A read of a group's latch word copies the group into the master's hold. -/
  | snapshotLatchRead (m : Master) (addr : Word)
  /-- DBSET (R612): Set a doorbell. -/
  | dbset (set : BitVec 4)
  /-- HCMD_PUSH (R616): Host pushes QUEUE_HBUF into a queue. -/
  | hcmdPush (q : Fin 32) (len : BitVec 9)
  /-- HCMD_POP (R616): Host pops a queue into QUEUE_HBUF. -/
  | hcmdPop (q : Fin 32) (cap : BitVec 9)
  /-- HCMD_STAT (R616): Host reads queue counts. -/
  | hcmdStat (q : Fin 32)
  /-- QUEUE_ENABLE (R613): EN = 1 enables a queue or is refused with CFE. -/
  | queueEnable (q : Fin 32)
  /-- QUEUE_DISABLE (R618): EN = 0 discards every entry. -/
  | queueDisable (q : Fin 32)
  /-- REGISTER_WRITE (R16): A write to a register without its own row, under its access codes and RWL locking. -/
  | registerWrite (m : Master) (addr : Word) (v : Word) (be : BitVec 4) (slow : Bool) (left : Bool)
  /-- RXLOCK_FALL (R497): A fall of RXLOCK while ALIGNED is 1 clears ALIGNED, sets ALOST and increments ALC. -/
  | rxlockFall (n : Fin 32)
  /-- EARLY_WARNING_CLEAR (R567): The supply rises through its early-warning clear level, EWV or EW33 clears and metering journalling stops. -/
  | earlyWarningClear (vio33 : Bool)
  /-- REFERENCE_RETURN (R466): REFCLK or LREFCLK has been present and within 2 % of nominal for 10 us, and the synthesizer restarts acquisition. -/
  | referenceReturn (lref : Bool)
  /-- ENET_LINK_CHANGE (R516): A MAC's link comes up or goes down, and auto-negotiation completes, changing LINK and ANDONE. -/
  | enetLinkChange (e : Fin 4) (up : Bool) (done : Bool)
  /-- FPD (R441): A duplicated-state compare in Flashing fails and the device enters lock-out. -/
  | fpd
  /-- RTRIP_DRIVE_END (R520): The 1 us drive of RTRIP_N after a TRIP command or a GSRC group trigger runs out, and the controller stops driving. -/
  | rtripDriveEnd (others : Bool)
  /-- HARVESTER_RUN_CHANGE (R532): The harvester starts or stops drawing from HVIN as HVIN, the store voltages and HEN change, and HRUN follows. -/
  | harvesterRunChange (hvin : BitVec 16) (vmpp : BitVec 16) (vqs : BitVec 16) (vls : BitVec 16)
  deriving DecidableEq, Repr

end Sys2Proof
end

