-- ==== Sys2Proof/Decode.lean ====
section
/-!
DEFINITION. The command that a word of the opcode table spells. No row of spec/opcode_table.json gives bits, so no word
spells a command; the words of Jenmel instructions are decoded in Machine/Operands.lean.
-/

namespace Sys2Proof

/-- The command that `nbits` bits of `w` spell by the table: none. -/
def decodeTableWord (_nbits _w : Nat) : Option Instr := none

end Sys2Proof
end

