-- ==== Sys2Proof/Machine/Bits.lean ====
section
/-!
DEFINITION. Bit fields, sign extension, saturation and byte order (R10 to R14).
-/

namespace Sys2Proof.Machine

/-- The field [hi:lo] of a number. -/
def bitsOf (w hi lo : Nat) : Nat := (w >>> lo) % 2 ^ (hi + 1 - lo)

/-- The number with the field [hi:lo] replaced: the bits that differ are flipped. -/
def putBits (w hi lo v : Nat) : Nat := w ^^^ ((bitsOf w hi lo ^^^ (v % 2 ^ (hi + 1 - lo))) <<< lo)

/-- The field [hi:lo] of a word (R11). -/
def fieldOf (w : Word) (hi lo : Nat) : Nat := bitsOf w.toNat hi lo

/-- The word with the field [hi:lo] replaced by the low bits of `v`. -/
def putField (w : Word) (hi lo v : Nat) : Word := BitVec.ofNat 32 (putBits w.toNat hi lo v)

/-- Bit `n` of a word. -/
def bitAt (w : Word) (n : Nat) : Bool := w.getLsbD n

/-- The word with bit `n` set to `b`. -/
def putBit (w : Word) (n : Nat) (b : Bool) : Word := putField w n n b.toNat

/-- A number of `n` bits read as two's complement (R14). -/
def sextNat (n v : Nat) : Int := if 2 ^ (n - 1) ≤ v % 2 ^ n then (v % 2 ^ n : Nat) - (2 ^ n : Nat) else (v % 2 ^ n : Nat)

/-- An integer as a word, modulo 2^32. -/
def wordOfInt (x : Int) : Word := BitVec.ofInt 32 x

/-- An integer as a field of `n` bits in two's complement. -/
def natOfInt (n : Nat) (x : Int) : Nat := (x % (2 ^ n : Nat)).toNat

/-- An integer clamped to [lo, hi]. -/
def clampInt (lo hi x : Int) : Int := if x < lo then lo else if hi < x then hi else x

/-- Saturation to the signed range of `n` bits. -/
def satInt (n : Nat) (x : Int) : Int := clampInt (-(2 ^ (n - 1) : Nat)) ((2 ^ (n - 1) : Nat) - 1) x

/-- Whether an integer lies outside the signed range of `n` bits. -/
def satFlag (n : Nat) (x : Int) : Bool := satInt n x ≠ x

/-- Round half up after dropping `k` bits (R65): add half of the last kept bit, truncate toward minus infinity. -/
def roundShift (x : Int) (k : Nat) : Int := if k = 0 then x else (x + (2 ^ (k - 1) : Nat)) / (2 ^ k : Nat)

/-- Division truncated toward zero. -/
def divTrunc (a b : Int) : Int := Int.tdiv a b

/-- The little-endian bytes of a number (R13). -/
def bytesLE : Nat → Nat → List Byte
  | 0, _ => []
  | n + 1, v => BitVec.ofNat 8 v :: bytesLE n (v / 256)

/-- The number that little-endian bytes spell (R13). -/
def natLE : List Byte → Nat
  | [] => 0
  | b :: bs => b.toNat + 256 * natLE bs

/-- The big-endian bytes of a number. -/
def bytesBE (n v : Nat) : List Byte := (bytesLE n v).reverse

/-- The number that big-endian bytes spell. -/
def natBE (bs : List Byte) : Nat := natLE bs.reverse

/-- The number of ones among the low `n` bits. -/
def popCount : Nat → Nat → Nat
  | 0, _ => 0
  | n + 1, v => v % 2 + popCount n (v / 2)

/-- The number of leading zeros among the low `n` bits. -/
def leadZeros (n v : Nat) : Nat :=
  match n with
  | 0 => 0
  | m + 1 => if (v >>> m) % 2 = 1 then 0 else 1 + leadZeros m v

/-- The bit numbers, lowest first, of the ones among the low `n` bits. -/
def onesOf (n v : Nat) : List Nat := (List.range n).filter (fun k => v.testBit k)

/-- Integer square root, rounded down, by bisection from bit `k` down. -/
def sqrtFrom : Nat → Nat → Nat → Nat
  | 0, _, r => r
  | k + 1, x, r => if (r + 2 ^ k) * (r + 2 ^ k) ≤ x then sqrtFrom k x (r + 2 ^ k) else sqrtFrom k x r

/-- Integer square root of a number below 2^256, rounded down. -/
def isqrt (x : Nat) : Nat := sqrtFrom 128 x 0

end Sys2Proof.Machine
end

