-- ==== Sys2Proof/Machine/Crypto.lean ====
section
/-!
DEFINITION. The codes and checks that the spec takes from published standards: CRC-16 (R546), CRC-32 (R172),
HMAC-SHA-256 (R444, R556, R565) and ECDSA on P-256 (R577).
-/

namespace Sys2Proof.Machine

/-! ### Cyclic redundancy checks -/

/-- One bit of the CRC-16 of R546: polynomial 0x1021, most significant bit first. -/
def crc16Bit (c : Nat) : Nat → Nat
  | 0 => c
  | n + 1 => crc16Bit (if 32768 ≤ c then (c * 2 % 65536) ^^^ 0x1021 else c * 2 % 65536) n

/-- The CRC-16 of R546 over bytes in ascending order. -/
def crc16 (bs : List Byte) : Nat := bs.foldl (fun c b => crc16Bit (c ^^^ (b.toNat * 256)) 8) 0xFFFF

/-- One bit of the reflected CRC-32 of R172. -/
def crc32Bit (c : Nat) : Nat → Nat
  | 0 => c
  | n + 1 => crc32Bit (if c % 2 = 1 then (c / 2) ^^^ 0xEDB88320 else c / 2) n

/-- The CRC-32 of R172, that of IEEE 802.3. -/
def crc32 (bs : List Byte) : Nat := bs.foldl (fun c b => crc32Bit (c ^^^ b.toNat) 8) 0xFFFFFFFF ^^^ 0xFFFFFFFF

/-! ### SHA-256 and HMAC -/

/-- The round constants of SHA-256. -/
def shaK : List Nat :=
  ([0x428A2F98, 0x71374491, 0xB5C0FBCF, 0xE9B5DBA5, 0x3956C25B, 0x59F111F1, 0x923F82A4, 0xAB1C5ED5] ++
   [0xD807AA98, 0x12835B01, 0x243185BE, 0x550C7DC3, 0x72BE5D74, 0x80DEB1FE, 0x9BDC06A7, 0xC19BF174] ++
   [0xE49B69C1, 0xEFBE4786, 0x0FC19DC6, 0x240CA1CC, 0x2DE92C6F, 0x4A7484AA, 0x5CB0A9DC, 0x76F988DA] ++
   [0x983E5152, 0xA831C66D, 0xB00327C8, 0xBF597FC7, 0xC6E00BF3, 0xD5A79147, 0x06CA6351, 0x14292967] ++
   [0x27B70A85, 0x2E1B2138, 0x4D2C6DFC, 0x53380D13, 0x650A7354, 0x766A0ABB, 0x81C2C92E, 0x92722C85] ++
   [0xA2BFE8A1, 0xA81A664B, 0xC24B8B70, 0xC76C51A3, 0xD192E819, 0xD6990624, 0xF40E3585, 0x106AA070] ++
   [0x19A4C116, 0x1E376C08, 0x2748774C, 0x34B0BCB5, 0x391C0CB3, 0x4ED8AA4A, 0x5B9CCA4F, 0x682E6FF3] ++
   [0x748F82EE, 0x78A5636F, 0x84C87814, 0x8CC70208, 0x90BEFFFA, 0xA4506CEB, 0xBEF9A3F7, 0xC67178F2])

/-- The initial hash value of SHA-256. -/
def shaH0 : List Word := [0x6A09E667#32, 0xBB67AE85#32, 0x3C6EF372#32, 0xA54FF53A#32, 0x510E527F#32, 0x9B05688C#32, 0x1F83D9AB#32, 0x5BE0CD19#32]

/-- Rotate a word right. -/
def rotr (w : Word) (n : Nat) : Word := w.rotateRight n

/-- The message schedule, newest word in front, extended `n` times. -/
def shaSched : Nat → List Word → List Word
  | 0, l => l
  | n + 1, l =>
    let w2 := l.getD 1 0
    let w15 := l.getD 14 0
    let s0 := rotr w15 7 ^^^ rotr w15 18 ^^^ (w15 >>> 3)
    let s1 := rotr w2 17 ^^^ rotr w2 19 ^^^ (w2 >>> 10)
    shaSched n ((s1 + l.getD 6 0 + s0 + l.getD 15 0) :: l)

/-- One round: state a to h, round constant and schedule word. -/
def shaRound (st : List Word) (k : Nat × Word) : List Word :=
  match st with
  | [a, b, c, d, e, f, g, h] =>
    let t1 := h + (rotr e 6 ^^^ rotr e 11 ^^^ rotr e 25) + ((e &&& f) ^^^ (~~~e &&& g)) + BitVec.ofNat 32 k.1 + k.2
    let t2 := (rotr a 2 ^^^ rotr a 13 ^^^ rotr a 22) + ((a &&& b) ^^^ (a &&& c) ^^^ (b &&& c))
    [t1 + t2, a, b, c, d + t1, e, f, g]
  | l => l

/-- The big-endian words of bytes. -/
def wordsBE : Nat → List Byte → List Word
  | 0, _ => []
  | n + 1, bs => BitVec.ofNat 32 (natBE (bs.take 4)) :: wordsBE n (bs.drop 4)

/-- One block of 64 bytes. -/
def shaBlock (h : List Word) (block : List Byte) : List Word :=
  let w := (shaSched 48 (wordsBE 16 block).reverse).reverse
  let r := (shaK.zip w).foldl shaRound h
  (h.zip r).map (fun x => x.1 + x.2)

/-- The blocks of a padded message. -/
def shaBlocks : Nat → List Byte → List Word → List Word
  | 0, _, h => h
  | n + 1, bs, h => shaBlocks n (bs.drop 64) (shaBlock h (bs.take 64))

/-- SHA-256 of a message. -/
def sha256 (msg : List Byte) : List Byte :=
  let n := msg.length
  let pad := (119 - n % 64) % 64
  let m := msg ++ [0x80#8] ++ List.replicate pad 0 ++ bytesBE 8 (8 * n)
  (shaBlocks (m.length / 64) m shaH0).flatMap (fun w => bytesBE 4 w.toNat)

/-- HMAC-SHA-256 with a key of 32 bytes. -/
def hmac (key msg : List Byte) : List Byte :=
  let k := key ++ List.replicate (64 - key.length) 0
  sha256 (k.map (· ^^^ 0x5C) ++ sha256 (k.map (· ^^^ 0x36) ++ msg))

/-! ### ECDSA on P-256 -/

/-- The field prime of P-256. -/
def p256 : Nat := 0xFFFFFFFF00000001000000000000000000000000FFFFFFFFFFFFFFFFFFFFFFFF
/-- The order of the base point. -/
def n256 : Nat := 0xFFFFFFFF00000000FFFFFFFFFFFFFFFFBCE6FAADA7179E84F3B9CAC2FC632551
/-- The coefficient b of the curve; a is −3. -/
def b256 : Nat := 0x5AC635D8AA3A93E7B3EBBD55769886BC651D06B0CC53B0F63BCE3C3E27D2604B
/-- The base point. -/
def g256 : Nat × Nat :=
  (0x6B17D1F2E12C4247F8BCE6E563A440F277037D812DEB33A0F4A13945D898C296,
   0x4FE342E2FE1A7F9B8EE7EB4A7C0F9E162BCE33576B315ECECBB6406837BF51F5)

/-- Modular power by squaring over the low `k` bits of the exponent. -/
def powMod (m : Nat) : Nat → Nat → Nat → Nat
  | 0, _, _ => 1 % m
  | k + 1, b, e => let r := powMod m k (b * b % m) (e / 2); if e % 2 = 1 then b * r % m else r

/-- The inverse modulo a prime. -/
def invMod (m a : Nat) : Nat := powMod m 256 (a % m) (m - 2)

/-- The sum of two points of the curve; none is the point at infinity. -/
def ecAdd : Option (Nat × Nat) → Option (Nat × Nat) → Option (Nat × Nat)
  | none, q => q
  | p, none => p
  | some (x1, y1), some (x2, y2) =>
    if x1 = x2 ∧ (y1 + y2) % p256 = 0 then none
    else
      let l := if x1 = x2 then (3 * x1 * x1 + p256 - 3) % p256 * invMod p256 (2 * y1) % p256
        else (y2 + p256 - y1) % p256 * invMod p256 (x2 + p256 - x1) % p256
      let x3 := (l * l + 2 * p256 - x1 - x2) % p256
      some (x3, (l * (x1 + p256 - x3) + p256 - y1) % p256)

/-- A multiple of a point over the low `k` bits of the factor. -/
def ecMul : Nat → Nat → Option (Nat × Nat) → Option (Nat × Nat)
  | 0, _, _ => none
  | k + 1, e, p => let r := ecMul k (e / 2) (ecAdd p p); if e % 2 = 1 then ecAdd p r else r

/-- The point lies on the curve. -/
def ecOn (x y : Nat) : Bool :=
  decide (x < p256 ∧ y < p256 ∧ y * y % p256 = (x * x * x + (p256 - 3) * x + b256) % p256)

/-- ECDSA verification on P-256 of a message digest. -/
def ecdsaOk (qx qy : Nat) (digest : List Byte) (r sg : Nat) : Bool :=
  decide (0 < r ∧ r < n256 ∧ 0 < sg ∧ sg < n256) && ecOn qx qy &&
  (let w := invMod n256 sg
   let z := natBE digest
   match ecAdd (ecMul 256 (z * w % n256) (some g256)) (ecMul 256 (r * w % n256) (some (qx, qy))) with
   | some (x, _) => decide (x % n256 = r)
   | none => false)

end Sys2Proof.Machine
end

