-- ==== Sys2Proof/Config.lean ====
section
/-!
DEFINITION. What the part or the world fixes and the spec leaves open: constants without a body, so that nothing can be
proved of their values. A draw is numbered by `State.freeCtr`, which each use advances, so two draws may differ.
-/

namespace Sys2Proof

/-- The n-th open word: a random nonce half (R444, R556, R565), a session number (R434), and the like. -/
opaque Config.freeWord : Nat → Word

/-- The n-th open number, for values the spec bounds or leaves without a rule; the user of it applies the bound. -/
opaque Config.freeNat : Nat → Nat

/-- How far SINCOS lies from the rounded exact value for an angle, in units of 2^-31, first for the sine, second for the
cosine; applied only within the bound of R131, and the same for equal operands on every part (R130). -/
opaque Config.sincosError : Word → Int × Int

/-- How far RSQRT lies from the truncated exact value for an operand, in units in the last place; applied only within
the bound of R138. -/
opaque Config.rsqrtError : Word → Int

/-- Whether the float unit detects tininess before rounding (true) or after it: IEEE 754-2019 leaves it open (R80). -/
opaque Config.tinyBefore : Bool

/-- Whether FMA and FMS signal invalid for infinity times zero added to a quiet NaN: IEEE 754-2019 leaves it open. -/
opaque Config.fmaInfZeroNan : Bool

/-- The relay chain that the grid library names for the grid connection: R321 speaks of it, no rule says which it is. -/
opaque Config.gridChain : Fin 4

/-- The current reference in units of 2^-16 pu by which the grid law delivers a power, in units of 2^-16 pu, at a |V+| in
2^-16 pu: R324 says which reference serves which target, no rule gives the value. -/
opaque Config.lawCurrent : Int → Nat → Int

/-- 2^31 times the cosine of a phase in units of 1/(3 * 10^9) turn, as the phasor units take it for their transforms (R308,
R316): no rule gives its precision. -/
opaque Config.unitCos : Nat → Int

/-- Magnitude and angle of a transform's sums, real and imaginary in units of 2^-31, over the sum of its weights, corrected for a
frequency in 2^-16 Hz (R308): no rule writes out the correction or the rounding. -/
opaque Config.puPolar : Int × Int → Nat → Word → Word × Word

/-- FREQ and ROCOF of the positive sequence of three channels, from f0, the instant and the window's samples with their times
(R308): no rule writes out how the derivatives of the angle are taken. -/
opaque Config.puRates : Nat → Nat → List (List (Nat × Word)) → Word × Word

/-- The RMS of a harmonic from the square sum of its transform in units of 2^-31 and the number of samples (R316): no rule gives
the rounding. -/
opaque Config.puRms : Nat → Nat → Word

/-- The part in 2^-32 of its way to the target that a first-order response takes in a dispatch of so many ns with a time constant
in ms (R324); the user of it takes at most all of it. -/
opaque Config.lawLag : Nat → Nat → Nat

/-- The last 58 bits that a lane had sent before a frame, by lane, SEQ and the time of the frame: no rule says how many IDLE blocks
fill the line (R492, R493). -/
opaque Config.lineBefore : Nat → Nat → Nat → BitVec 58

/-- What the dither adds to the modulator's input for the bit that its register gives (R461): no rule gives its size; the user of
it takes at most one in size. -/
opaque Config.dither : Bool → Int

/-- KP, KI, NOM, OMIN and OMAX of the PLLSTEP record of the grid law (R134, R323): its coefficients follow the grid parameter
record, and no rule gives their layout. -/
opaque Config.lawPll : Nat → Word

/-- The value of a METER register, by its address, in the calibration record of R394, from the record's words: no rule gives its
layout. -/
opaque Config.calibration : List Word → Nat → Word

/-- The word that a ROM program writes into a register of one of its queues, Q1, Q30 and Q31, by its address: no rule gives their
storage (R341, R582). -/
opaque Config.romQueue : Nat → Word

/-- The output of the 96-tap filter of R377 in units of 2^-31, rounded, before it saturates, from the ratio of the sinc filter and
its last outputs, newest first; the coefficients are held in ROM, and the spec does not list them. -/
opaque Config.meterFir : Nat → List Nat → Int

/-- The exact output of the fractional-delay filter of R381, in units of 2^-31, from a delay in 1/1024 sample and the
last samples of an input, newest first; its coefficients are held in ROM, and the spec does not list them. -/
opaque Config.meterDelay : Int → List Word → Int

/-- The output of the Hilbert filter of R382 on the corrected voltage, in units of 2^-31, from the gain, the delay and
the last samples of the input, newest first; its coefficients are held in ROM, and the spec does not list them. -/
opaque Config.meterHilbert : Nat → Int → List Word → Int

/-- First addresses of the Warden's 64 KB of ROM and 32 KB of data SRAM (R409): no rule places them. -/
opaque Config.wardenRomBase : Nat
opaque Config.wardenRamBase : Nat

/-- The content of the Warden's ROM, byte by offset (R409). -/
opaque Config.wardenRom : Nat → Byte

end Sys2Proof
end

