-- ==== Sys2Proof/Machine/RegMap.lean ====
section
/-!
DEFINITION. The register map: every mapped register of the spec's register tables (R5, R185 to R189, R226 to R234,
R264 to R266, R301 to R306, R343 to R345, R371 to R374, R407, R408, R455, R456, R486 to R488, R524 to R526, R558,
R559, R595, R596, R619 to R621): its address, its fields, its reset word and which of its bits carry which access
code of R16.
-/

namespace Sys2Proof.Machine

/-- The peripheral blocks of R619, in the order that gives the interrupt lines of R609 their index. -/
inductive Block where
  | SYSCTL | CLK | TIME | BATTEN | GATE | CMP | MOD | HADC | BOOST | METER | SAFE | PURLIN | ENET | RIDGE
  | EAVES | THATCH | QUEUE | RAFTER | CFGSET | HOST
  deriving DecidableEq, Repr

/-- The kinds of mapped register; a kind repeated per instance has an index. -/
inductive Kind where
  | SYSCTL_ID | SYSCTL_RSTCAUSE | SYSCTL_RSTCTL | SYSCTL_FUSESTAT | SYSCTL_BOOT | SYSCTL_SUPPLY
  | SYSCTL_WDTCFG | SYSCTL_WDTKICK | SYSCTL_WDT2CFG | SYSCTL_WDT2STAT | SYSCTL_MRQREQ | SYSCTL_MRQCH
  | SYSCTL_MRQSTAT | SYSCTL_MRQRSP | SYSCTL_PD | SYSCTL_FUSE | CLK_SYN_CFG | CLK_SYN_DIV
  | CLK_SYN_FRAC | CLK_SYN_DITH | CLK_SYN_CMD | CLK_SYN_STAT | CLK_SYN_ADIV | CLK_REF
  | CLK_BYP | CLK_ISL | TIME_CTRL | TIME_STAT | TIME_ADJ | TIME_STEPL
  | TIME_STEPH | TIME_NOW_NS | TIME_NOW_SECL | TIME_NOW_SECH | TIME_NOW_LST | TIME_PT_INC
  | TIME_PT_EGC | BATTEN_CH_CTRL | BATTEN_CH_STAT | BATTEN_CH_PERIOD | BATTEN_CH_DUTY | BATTEN_CH_PHASE
  | BATTEN_CH_SAMPLE | BATTEN_CH_DTR | BATTEN_CH_DTF | BATTEN_CH_BLANK | BATTEN_CH_MINPW | BATTEN_CH_SYNC
  | BATTEN_CH_EPOCH | BATTEN_CH_COUNT | BATTEN_RL_CTRL | BATTEN_RL_STAT | BATTEN_RL_PERIOD | BATTEN_RL_DUTY
  | BATTEN_RL_PHASE | BATTEN_RL_SAMPLE | BATTEN_RL_UP_ON | BATTEN_RL_UP_OFF | BATTEN_RL_LO_ON | BATTEN_RL_LO_OFF
  | BATTEN_RL_DTR | BATTEN_RL_DTF | BATTEN_RL_MINPW | BATTEN_RL_EPOCH | BATTEN_CFG | BATTEN_CAL
  | BATTEN_DISALL | BATTEN_RSYNC | BATTEN_LEAD | GATE_LEG_CFG | GATE_LEG_STAT | GATE_LEG_CMD
  | GATE_LEG_STR | GATE_LEG_SWT | GATE_LEG_TSTAMP | GATE_LEG_STRES | GATE_SL_CFG | GATE_SL_SOFT
  | GATE_SL_STAT | GATE_GRP_LO | GATE_GRP_HI | GATE_GRP_STAT | GATE_RLILK | GATE_ILKGAP
  | GATE_RL_STR | GATE_WIN_ST | CMP_CFG | CMP_DAC | CMP_RAMP | CMP_STAT
  | CMP_WIN_CFG | CMP_WIN_LDAC | CMP_WIN_UDAC | CMP_WIN_QUAL | CMP_WIN_STAT | CMP_WIN_TS
  | MOD_MCK_CFG | MOD_MD_CFG | MOD_MD_DET | MOD_MD_STAT | MOD_MD_DATA | MOD_MD_MON
  | MOD_MD_MLIM | HADC_CTRL | HADC_CMD | HADC_STAT | HADC_DATA | HADC_SCAN
  | BOOST_BC_CFG | BOOST_BC_STAT | BOOST_BC_PHSTAT | BOOST_BC_ICMD | BOOST_BC_LIM | BOOST_BC_RAMP
  | BOOST_BC_SHED | BOOST_BC_SHTM | BOOST_BC_STEP | BOOST_BC_SYNC | BOOST_BC_XCHK | BOOST_BC_XTOL
  | BOOST_BC_XMIN | BOOST_BC_MCFG | BOOST_BC_MADDR | BOOST_BC_MVLIM | BOOST_BC_MSTEP | BOOST_BC_MSCAN
  | BOOST_BC_MTRIG | BOOST_BC_MREF | BOOST_BC_MPWR | BOOST_BC_MSTAT | BOOST_BC_MTAB | METER_CTRL
  | METER_STAT | METER_CHMAP | METER_QL | METER_QM | METER_QH | METER_PRATEDQ
  | METER_IPER | METER_ACC_CNTL | METER_ACC_CNTH | METER_ACC_FRAC | METER_IVSEC | METER_IVFLG
  | METER_IV_LO | METER_IV_HI | METER_BLK_VRMS | METER_BLK_IRMS | METER_BLK_P | METER_BLK_Q
  | METER_BLK_S | METER_NRMS | METER_BLKSEC | METER_BLKNS | METER_CORR_A | METER_CORR_B
  | METER_CKSTAT | METER_LPSTAT | METER_PLS | SAFE_STAT | SAFE_CMD | SAFE_LOCK
  | SAFE_PARCRC | SAFE_CONFIRM | SAFE_UNLREQ | SAFE_UNLCH | SAFE_UNLRSP | SAFE_SF
  | SAFE_SI | SAFE_SIF | SAFE_SIP | SAFE_RCREQ | SAFE_CLKMON | SAFE_RC
  | SAFE_RX_STAT | SAFE_RX_CMD | SAFE_RX_SEQ | SAFE_RX_CNT | SAFE_TX_CTRL | SAFE_TX_DATA
  | SAFE_PAR | PURLIN_LANE_CFG | PURLIN_LANE_CMD | PURLIN_LANE_STAT | PURLIN_LANE_TILE | PURLIN_LANE_TPROC
  | PURLIN_LANE_LAT | PURLIN_LANE_LMIN | PURLIN_LANE_ASYM | PURLIN_LANE_ESCAN | PURLIN_LANE_ESERR | PURLIN_LANE_CNT
  | PURLIN_LANE_TRIP | PURLIN_LANE_MSG | PURLIN_LUP | ENET_CFG | ENET_STAT | ENET_MACL
  | ENET_MACH | ENET_RXBASE | ENET_TXBASE | ENET_RING | ENET_RXIDX | ENET_TXIDX
  | ENET_SFDAL | ENET_SFDAH | ENET_SFVLAN | ENET_ERR | RIDGE_CFG | RIDGE_CMD
  | RIDGE_STAT | RIDGE_TS | RIDGE_RSYNC | RIDGE_RSTS | EAVES_STAT | EAVES_CFG
  | EAVES_STORE | EAVES_VMEAS | EAVES_SECL | EAVES_SECH | EAVES_TRIM | EAVES_TAMP
  | EAVES_WAKE | EAVES_LOSSSEC | EAVES_LOSSNS | EAVES_DEFCNT | EAVES_BSRC | EAVES_BDST
  | EAVES_BCTL | EAVES_BSTAT | THATCH_STAT | THATCH_HEAD | THATCH_TAIL | THATCH_CUR
  | THATCH_LOST | THATCH_REPWIN | THATCH_WIN | THATCH_POST0 | THATCH_POST1 | THATCH_POST2
  | THATCH_POST3 | THATCH_CLRREQ | THATCH_CH | THATCH_RSP | QUEUE_CFG | QUEUE_BASE
  | QUEUE_RIGHTS | QUEUE_STAT | QUEUE_IRQ | QUEUE_PEND | QUEUE_HBUF | QUEUE_HCMD
  | QUEUE_HRES | RAFTER_CTX_STAT | RAFTER_CORE_MODE | RAFTER_CORE_STAT | RAFTER_CORE_UTIL | RAFTER_CORE_CTXCMD
  | RAFTER_CORE_CTXRES | RAFTER_PU_CFG | RAFTER_PU_SRC | RAFTER_PU_STAT | RAFTER_PU_PADDR | RAFTER_PU_ROC
  | RAFTER_PU_VS | RAFTER_PU_FLIM | RAFTER_PU_FREQ | RAFTER_PU_ROCOF | RAFTER_PU_TSEC | RAFTER_PU_TNS
  | RAFTER_PU_VPMAG | RAFTER_PU_VPANG | RAFTER_PU_IPMAG | RAFTER_PU_IPANG | RAFTER_PU_VNMAG | RAFTER_PU_VSV
  | RAFTER_PU_MAG | RAFTER_PU_ANG | RAFTER_PU_ISEPL | RAFTER_PU_ISEPH | RAFTER_PU_ISPER | RAFTER_PU_ISOFF
  | RAFTER_PU_ISBIAS | RAFTER_PU_ISSIGN | RAFTER_PU_ISCFG | RAFTER_PU_ISSTAT | RAFTER_PU_ISDF | RAFTER_PU_HARM0
  | RAFTER_PU_TRSS0 | RAFTER_PU_HARM1 | RAFTER_PU_TRSS1 | RAFTER_PU_HARM2 | RAFTER_PU_TRSS2 | CFGSET_CTRL
  | CFGSET_CMD | CFGSET_STAT | CFGSET_MSEQ | CFGSET_IMG | CFGSET_IMGSTAT | CFGSET_BANK
  | HOST_CFG | HOST_STAT | HOST_EADDR | HOST_HADDR | HOST_DBSET | HOST_DBELL
  | HOST_ISUM | HOST_IEN
  deriving DecidableEq, Repr

/-- One row of the map: kind, offset in its block's window, the strides and counts of its indices, the reset word
by flat index, and the bits of each access code of R16 (bits in none of the masks are RO or reserved). -/
structure RegRow where
  kind : Kind
  off : Nat
  dims : List (Nat × Nat)
  reset : Nat → Word
  rw : Word
  w1c : Word
  wo : Word
  rwl : Word
  rws : Word
  ro : Word

/-- Reset words of the dividers DIV and ADIV of the four synthesizers (R486). -/
def clkDivReset (i : Nat) : Word :=
  if i = 2 then 0x11000040#32 else if i = 3 then 0x005000C8#32 else 0x006000C0#32

/-- Rows of the SYSCTL window, part 0. -/
def rowsSYSCTL0 : List RegRow := [
  ⟨.SYSCTL_ID, 0x0, [], fun _ => 0x9648A113#32, 0x0#32, 0x0#32, 0x0#32, 0x0#32, 0x0#32, 0xFFFFFFFF#32⟩,
  ⟨.SYSCTL_RSTCAUSE, 0x4, [], fun _ => 0x1#32, 0x0#32, 0xFFFF#32, 0x0#32, 0x0#32, 0x0#32, 0xF0000#32⟩,
  ⟨.SYSCTL_RSTCTL, 0x8, [], fun _ => 0x0#32, 0x0#32, 0x4#32, 0xFFFF0003#32, 0x0#32, 0x0#32, 0x0#32⟩,
  ⟨.SYSCTL_FUSESTAT, 0xC, [], fun _ => 0x0#32, 0x0#32, 0x0#32, 0x0#32, 0x0#32, 0x0#32, 0xF000FFFF#32⟩,
  ⟨.SYSCTL_BOOT, 0x10, [], fun _ => 0x3000000#32, 0x0#32, 0x0#32, 0x80000000#32, 0x0#32, 0x0#32, 0x7307FFFF#32⟩,
  ⟨.SYSCTL_SUPPLY, 0x14, [], fun _ => 0x0#32, 0x0#32, 0x40000#32, 0x0#32, 0x0#32, 0x0#32, 0x3003F#32⟩,
  ⟨.SYSCTL_WDTCFG, 0x20, [(0x8, 2)], fun _ => 0x3E8#32, 0x80000000#32, 0x0#32, 0x0#32, 0xFFFF#32, 0x0#32, 0x0#32⟩,
  ⟨.SYSCTL_WDTKICK, 0x24, [(0x8, 2)], fun _ => 0x0#32, 0x0#32, 0x0#32, 0xFFFFFFFF#32, 0x0#32, 0x0#32, 0x0#32⟩,
  ⟨.SYSCTL_WDT2CFG, 0x30, [], fun _ => 0x64#32, 0xFF00FFFF#32, 0x10000#32, 0x0#32, 0x0#32, 0x0#32, 0x0#32⟩,
  ⟨.SYSCTL_WDT2STAT, 0x34, [], fun _ => 0x0#32, 0x0#32, 0xFF000000#32, 0x0#32, 0x0#32, 0x0#32, 0x0#32⟩,
  ⟨.SYSCTL_MRQREQ, 0x40, [], fun _ => 0x0#32, 0x0#32, 0x0#32, 0xFF#32, 0x0#32, 0x0#32, 0x0#32⟩,
  ⟨.SYSCTL_MRQCH, 0x44, [(0x4, 2)], fun _ => 0x0#32, 0x0#32, 0x0#32, 0x0#32, 0x0#32, 0x0#32, 0xFFFFFFFF#32⟩]

/-- Rows of the SYSCTL window, part 1. -/
def rowsSYSCTL1 : List RegRow := [
  ⟨.SYSCTL_MRQSTAT, 0x4C, [], fun _ => 0x0#32, 0x0#32, 0x4#32, 0x0#32, 0x0#32, 0x0#32, 0x3#32⟩,
  ⟨.SYSCTL_MRQRSP, 0x50, [(0x4, 8)], fun _ => 0x0#32, 0x0#32, 0x0#32, 0xFFFFFFFF#32, 0x0#32, 0x0#32, 0x0#32⟩,
  ⟨.SYSCTL_PD, 0x100, [(0x4, 16)], fun _ => 0x44000000#32, 0x0#32, 0x3#32, 0x2000000#32, 0x0#32, 0x4000000#32, 0xF800FF00#32⟩,
  ⟨.SYSCTL_FUSE, 0x800, [(0x4, 256)], fun _ => 0x0#32, 0x0#32, 0x0#32, 0x0#32, 0x0#32, 0x0#32, 0xFFFFFFFF#32⟩]

/-- The SYSCTL window. -/
def rowsSYSCTL : List RegRow := rowsSYSCTL0 ++ rowsSYSCTL1

/-- Rows of the CLK window, part 0. -/
def rowsCLK0 : List RegRow := [
  ⟨.CLK_SYN_CFG, 0x0, [(0x40, 4)], fun i => if i = 2 then 0xE0000000#32 else 0xC0000000#32, 0xE0000000#32, 0x0#32, 0x0#32, 0x0#32, 0x0#32, 0x0#32⟩,
  ⟨.CLK_SYN_DIV, 0x4, [(0x40, 4)], fun i => clkDivReset i, 0x73F003FF#32, 0x0#32, 0x0#32, 0x0#32, 0x0#32, 0x0#32⟩,
  ⟨.CLK_SYN_FRAC, 0x8, [(0x40, 4)], fun _ => 0x0#32, 0xFFFFFF#32, 0x0#32, 0x0#32, 0x0#32, 0x0#32, 0x0#32⟩,
  ⟨.CLK_SYN_DITH, 0xC, [(0x40, 4)], fun _ => 0x80000000#32, 0x80FFFFFF#32, 0x0#32, 0x0#32, 0x0#32, 0x0#32, 0x0#32⟩,
  ⟨.CLK_SYN_CMD, 0x10, [(0x40, 4)], fun _ => 0x0#32, 0x0#32, 0x0#32, 0x7#32, 0x0#32, 0x0#32, 0x0#32⟩,
  ⟨.CLK_SYN_STAT, 0x14, [(0x40, 4)], fun _ => 0x0#32, 0x0#32, 0x1E#32, 0x0#32, 0x0#32, 0x0#32, 0xF8FF0000#32⟩,
  ⟨.CLK_SYN_ADIV, 0x18, [(0x40, 4)], fun i => clkDivReset i, 0x0#32, 0x0#32, 0x0#32, 0x0#32, 0x0#32, 0xFFFFFFFF#32⟩,
  ⟨.CLK_REF, 0x100, [], fun _ => 0x9C4#32, 0xFFFF#32, 0x0#32, 0x0#32, 0x0#32, 0x0#32, 0xFFFF0000#32⟩,
  ⟨.CLK_BYP, 0x104, [], fun _ => 0x0#32, 0x0#32, 0x0#32, 0x0#32, 0x0#32, 0x0#32, 0xFFFF0001#32⟩,
  ⟨.CLK_ISL, 0x108, [], fun _ => 0x0#32, 0x0#32, 0x0#32, 0x0#32, 0x0#32, 0x0#32, 0x1FFF#32⟩]

/-- The CLK window. -/
def rowsCLK : List RegRow := rowsCLK0

/-- Rows of the TIME window, part 0. -/
def rowsTIME0 : List RegRow := [
  ⟨.TIME_CTRL, 0x0, [], fun _ => 0x4#32, 0xFFFF#32, 0x0#32, 0xE0000000#32, 0x0#32, 0x0#32, 0x0#32⟩,
  ⟨.TIME_STAT, 0x4, [], fun _ => 0x0#32, 0x0#32, 0x1E#32, 0x0#32, 0x0#32, 0x0#32, 0xE3000000#32⟩,
  ⟨.TIME_ADJ, 0x8, [], fun _ => 0x0#32, 0xFFFFFFFF#32, 0x0#32, 0x0#32, 0x0#32, 0x0#32, 0x0#32⟩,
  ⟨.TIME_STEPL, 0xC, [], fun _ => 0x0#32, 0xFFFFFFFF#32, 0x0#32, 0x0#32, 0x0#32, 0x0#32, 0x0#32⟩,
  ⟨.TIME_STEPH, 0x10, [], fun _ => 0x0#32, 0xFFFFFFFF#32, 0x0#32, 0x0#32, 0x0#32, 0x0#32, 0x0#32⟩,
  ⟨.TIME_NOW_NS, 0x20, [], fun _ => 0x0#32, 0x0#32, 0x0#32, 0x0#32, 0x0#32, 0x0#32, 0xFFFFFFFF#32⟩,
  ⟨.TIME_NOW_SECL, 0x24, [], fun _ => 0x0#32, 0x0#32, 0x0#32, 0x0#32, 0x0#32, 0x0#32, 0xFFFFFFFF#32⟩,
  ⟨.TIME_NOW_SECH, 0x28, [], fun _ => 0x0#32, 0x0#32, 0x0#32, 0x0#32, 0x0#32, 0x0#32, 0xFFFFFFFF#32⟩,
  ⟨.TIME_NOW_LST, 0x2C, [], fun _ => 0x0#32, 0x0#32, 0x0#32, 0x0#32, 0x0#32, 0x0#32, 0xFFFFFFFF#32⟩,
  ⟨.TIME_PT_INC, 0x40, [(0x8, 4)], fun _ => 0x0#32, 0xFFFFFF#32, 0x0#32, 0x0#32, 0x0#32, 0x0#32, 0x0#32⟩,
  ⟨.TIME_PT_EGC, 0x44, [(0x8, 4)], fun _ => 0x0#32, 0xFFFFFF#32, 0x0#32, 0x0#32, 0x0#32, 0x0#32, 0x0#32⟩]

/-- The TIME window. -/
def rowsTIME : List RegRow := rowsTIME0

/-- Rows of the BATTEN window, part 0. -/
def rowsBATTEN0 : List RegRow := [
  ⟨.BATTEN_CH_CTRL, 0x0, [(0x80, 48)], fun _ => 0x0#32, 0x1#32, 0x0#32, 0x0#32, 0xFFFE0000#32, 0x0#32, 0x0#32⟩,
  ⟨.BATTEN_CH_STAT, 0x4, [(0x80, 48)], fun _ => 0x0#32, 0x0#32, 0xFF8#32, 0x0#32, 0x0#32, 0x0#32, 0x1F0000#32⟩,
  ⟨.BATTEN_CH_PERIOD, 0x8, [(0x80, 48)], fun _ => 0x30D400#32, 0x0#32, 0x0#32, 0x0#32, 0x3FFFFF#32, 0x0#32, 0x0#32⟩,
  ⟨.BATTEN_CH_DUTY, 0xC, [(0x80, 48)], fun _ => 0x0#32, 0x0#32, 0x0#32, 0x0#32, 0x3FFFFF#32, 0x0#32, 0x0#32⟩,
  ⟨.BATTEN_CH_PHASE, 0x10, [(0x80, 48)], fun _ => 0x0#32, 0x0#32, 0x0#32, 0x0#32, 0x3FFFFF#32, 0x0#32, 0x0#32⟩,
  ⟨.BATTEN_CH_SAMPLE, 0x14, [(0x80, 48)], fun _ => 0x0#32, 0x0#32, 0x0#32, 0x0#32, 0x3FFFFF#32, 0x0#32, 0x0#32⟩,
  ⟨.BATTEN_CH_DTR, 0x18, [(0x80, 48)], fun _ => 0x4000#32, 0x0#32, 0x0#32, 0x0#32, 0x3FFFF#32, 0x0#32, 0x0#32⟩,
  ⟨.BATTEN_CH_DTF, 0x1C, [(0x80, 48)], fun _ => 0x4000#32, 0x0#32, 0x0#32, 0x0#32, 0x3FFFF#32, 0x0#32, 0x0#32⟩,
  ⟨.BATTEN_CH_BLANK, 0x20, [(0x80, 48)], fun _ => 0x300C8#32, 0x0#32, 0x0#32, 0x0#32, 0x3FFFF#32, 0x0#32, 0x0#32⟩,
  ⟨.BATTEN_CH_MINPW, 0x24, [(0x80, 48)], fun _ => 0x50#32, 0x0#32, 0x0#32, 0x0#32, 0xFFF#32, 0x0#32, 0x0#32⟩,
  ⟨.BATTEN_CH_SYNC, 0x28, [(0x80, 48)], fun _ => 0x400000#32, 0x0#32, 0x0#32, 0x0#32, 0xFFFF0000#32, 0x0#32, 0x0#32⟩,
  ⟨.BATTEN_CH_EPOCH, 0x2C, [(0x80, 48)], fun _ => 0x0#32, 0x0#32, 0x0#32, 0x0#32, 0x0#32, 0x0#32, 0xFFFF000F#32⟩]

/-- Rows of the BATTEN window, part 1. -/
def rowsBATTEN1 : List RegRow := [
  ⟨.BATTEN_CH_COUNT, 0x30, [(0x80, 48)], fun _ => 0x0#32, 0x0#32, 0x0#32, 0x0#32, 0x0#32, 0x0#32, 0xFFFFFFFF#32⟩,
  ⟨.BATTEN_RL_CTRL, 0x2000, [(0x40, 144)], fun _ => 0x0#32, 0x1#32, 0x0#32, 0x0#32, 0xFF0E0000#32, 0x0#32, 0x0#32⟩,
  ⟨.BATTEN_RL_STAT, 0x2004, [(0x40, 144)], fun _ => 0x0#32, 0x0#32, 0xCE8#32, 0x0#32, 0x0#32, 0x0#32, 0x1E0000#32⟩,
  ⟨.BATTEN_RL_PERIOD, 0x2008, [(0x40, 144)], fun _ => 0x0#32, 0x0#32, 0x0#32, 0x0#32, 0x3FFFFF#32, 0x0#32, 0x0#32⟩,
  ⟨.BATTEN_RL_DUTY, 0x200C, [(0x40, 144)], fun _ => 0x0#32, 0x0#32, 0x0#32, 0x0#32, 0x3FFFFF#32, 0x0#32, 0x0#32⟩,
  ⟨.BATTEN_RL_PHASE, 0x2010, [(0x40, 144)], fun _ => 0x0#32, 0x0#32, 0x0#32, 0x0#32, 0x3FFFFF#32, 0x0#32, 0x0#32⟩,
  ⟨.BATTEN_RL_SAMPLE, 0x2014, [(0x40, 144)], fun _ => 0x0#32, 0x0#32, 0x0#32, 0x0#32, 0x3FFFFF#32, 0x0#32, 0x0#32⟩,
  ⟨.BATTEN_RL_UP_ON, 0x2024, [(0x40, 144)], fun _ => 0x0#32, 0x0#32, 0x0#32, 0x0#32, 0x3FFFFF#32, 0x0#32, 0x0#32⟩,
  ⟨.BATTEN_RL_UP_OFF, 0x2028, [(0x40, 144)], fun _ => 0x0#32, 0x0#32, 0x0#32, 0x0#32, 0x3FFFFF#32, 0x0#32, 0x0#32⟩,
  ⟨.BATTEN_RL_LO_ON, 0x202C, [(0x40, 144)], fun _ => 0x0#32, 0x0#32, 0x0#32, 0x0#32, 0x3FFFFF#32, 0x0#32, 0x0#32⟩,
  ⟨.BATTEN_RL_LO_OFF, 0x2030, [(0x40, 144)], fun _ => 0x0#32, 0x0#32, 0x0#32, 0x0#32, 0x3FFFFF#32, 0x0#32, 0x0#32⟩,
  ⟨.BATTEN_RL_DTR, 0x2018, [(0x40, 144)], fun _ => 0x4000#32, 0x0#32, 0x0#32, 0x0#32, 0x3FFFF#32, 0x0#32, 0x0#32⟩]

/-- Rows of the BATTEN window, part 2. -/
def rowsBATTEN2 : List RegRow := [
  ⟨.BATTEN_RL_DTF, 0x201C, [(0x40, 144)], fun _ => 0x4000#32, 0x0#32, 0x0#32, 0x0#32, 0x3FFFF#32, 0x0#32, 0x0#32⟩,
  ⟨.BATTEN_RL_MINPW, 0x2020, [(0x40, 144)], fun _ => 0x50#32, 0x0#32, 0x0#32, 0x0#32, 0xFFF#32, 0x0#32, 0x0#32⟩,
  ⟨.BATTEN_RL_EPOCH, 0x2034, [(0x40, 144)], fun _ => 0x0#32, 0x0#32, 0x0#32, 0x0#32, 0x0#32, 0x0#32, 0xFFFF000F#32⟩,
  ⟨.BATTEN_CFG, 0x8000, [], fun _ => 0x1#32, 0x1#32, 0x0#32, 0x0#32, 0x0#32, 0x0#32, 0x0#32⟩,
  ⟨.BATTEN_CAL, 0x8004, [], fun _ => 0x0#32, 0x0#32, 0x20000000#32, 0x0#32, 0x0#32, 0x0#32, 0xC000007F#32⟩,
  ⟨.BATTEN_DISALL, 0x8008, [], fun _ => 0x0#32, 0x0#32, 0x0#32, 0x1#32, 0x0#32, 0x0#32, 0x0#32⟩,
  ⟨.BATTEN_RSYNC, 0x800C, [], fun _ => 0x0#32, 0x80FF000F#32, 0x0#32, 0x0#32, 0x0#32, 0x0#32, 0x0#32⟩,
  ⟨.BATTEN_LEAD, 0x8100, [(0x4, 24)], fun _ => 0x190#32, 0x0#32, 0x10000#32, 0x0#32, 0xFFFF#32, 0x0#32, 0x0#32⟩]

/-- The BATTEN window. -/
def rowsBATTEN : List RegRow := rowsBATTEN0 ++ rowsBATTEN1 ++ rowsBATTEN2

/-- Rows of the GATE window, part 0. -/
def rowsGATE0 : List RegRow := [
  ⟨.GATE_LEG_CFG, 0x0, [(0x40, 48)], fun _ => 0xC0010A00#32, 0x0#32, 0x0#32, 0x0#32, 0xFF0FFFFF#32, 0x0#32, 0x0#32⟩,
  ⟨.GATE_LEG_STAT, 0x4, [(0x40, 48)], fun _ => 0x0#32, 0x0#32, 0x13F8#32, 0x0#32, 0x0#32, 0x0#32, 0xFFFFE000#32⟩,
  ⟨.GATE_LEG_CMD, 0x8, [(0x40, 48)], fun _ => 0x0#32, 0x0#32, 0x0#32, 0x7#32, 0x0#32, 0x0#32, 0x0#32⟩,
  ⟨.GATE_LEG_STR, 0xC, [(0x40, 48)], fun _ => 0x478A0200#32, 0x0#32, 0x0#32, 0x0#32, 0xFFFFFFFF#32, 0x0#32, 0x0#32⟩,
  ⟨.GATE_LEG_SWT, 0x10, [(0x40, 48)], fun _ => 0x0#32, 0x0#32, 0x0#32, 0x0#32, 0x0#32, 0x0#32, 0xCFFFCFFF#32⟩,
  ⟨.GATE_LEG_TSTAMP, 0x14, [(0x40, 48)], fun _ => 0x0#32, 0x0#32, 0x0#32, 0x0#32, 0x0#32, 0x0#32, 0xFFFFFFFF#32⟩,
  ⟨.GATE_LEG_STRES, 0x18, [(0x40, 48)], fun _ => 0x0#32, 0x0#32, 0x0#32, 0x0#32, 0x0#32, 0x0#32, 0x3FF03FF#32⟩,
  ⟨.GATE_SL_CFG, 0x1000, [(0x10, 6)], fun _ => 0x10000030#32, 0x0#32, 0x0#32, 0x0#32, 0xFE3FFFF3#32, 0x0#32, 0x0#32⟩,
  ⟨.GATE_SL_SOFT, 0x1004, [(0x10, 6)], fun _ => 0xC80020#32, 0x0#32, 0x0#32, 0x0#32, 0xFFFF00FF#32, 0x0#32, 0x0#32⟩,
  ⟨.GATE_SL_STAT, 0x1008, [(0x10, 6)], fun _ => 0x0#32, 0x0#32, 0x7FF00#32, 0x0#32, 0x0#32, 0x0#32, 0xFF#32⟩,
  ⟨.GATE_GRP_LO, 0x1100, [(0x10, 16)], fun _ => 0x0#32, 0x0#32, 0x0#32, 0x0#32, 0xFFFFFFFF#32, 0x0#32, 0x0#32⟩,
  ⟨.GATE_GRP_HI, 0x1104, [(0x10, 16)], fun _ => 0x0#32, 0x0#32, 0x0#32, 0x40000#32, 0x3FFFF#32, 0x0#32, 0x0#32⟩]

/-- Rows of the GATE window, part 1. -/
def rowsGATE1 : List RegRow := [
  ⟨.GATE_GRP_STAT, 0x1108, [(0x10, 16)], fun _ => 0x0#32, 0x0#32, 0x6#32, 0x0#32, 0x0#32, 0x0#32, 0x1#32⟩,
  ⟨.GATE_RLILK, 0x1200, [(0x4, 5)], fun _ => 0x0#32, 0x0#32, 0xFFFFFFFF#32, 0x0#32, 0x0#32, 0x0#32, 0x0#32⟩,
  ⟨.GATE_ILKGAP, 0x1240, [(0x4, 24)], fun _ => 0x1000#32, 0x0#32, 0x80000000#32, 0x0#32, 0x3FFFF#32, 0x0#32, 0x0#32⟩,
  ⟨.GATE_RL_STR, 0x1400, [(0x4, 144)], fun _ => 0x478A0200#32, 0x0#32, 0x0#32, 0x0#32, 0xFFFFFFFF#32, 0x0#32, 0x0#32⟩,
  ⟨.GATE_WIN_ST, 0x1700, [(0x4, 16)], fun _ => 0x0#32, 0x40000000#32, 0x38000000#32, 0x80000000#32, 0x0#32, 0x0#32, 0x3FF03FF#32⟩]

/-- The GATE window. -/
def rowsGATE : List RegRow := rowsGATE0 ++ rowsGATE1

/-- Rows of the CMP window, part 0. -/
def rowsCMP0 : List RegRow := [
  ⟨.CMP_CFG, 0x0, [(0x10, 96)], fun i => 0xA8000000#32 + BitVec.ofNat 32 (i / 2 * 0x40000), 0x0#32, 0x0#32, 0x0#32, 0xFCFC0000#32, 0x0#32, 0x0#32⟩,
  ⟨.CMP_DAC, 0x4, [(0x10, 96)], fun i => if i % 2 = 0 then 0x03FF03FF#32 else 0x02000200#32, 0x3FF#32, 0x0#32, 0x0#32, 0x0#32, 0x0#32, 0x3FF0000#32⟩,
  ⟨.CMP_RAMP, 0x8, [(0x10, 96)], fun _ => 0x0#32, 0xFFF03FF#32, 0x0#32, 0x0#32, 0x0#32, 0x0#32, 0x0#32⟩,
  ⟨.CMP_STAT, 0xC, [(0x10, 96)], fun _ => 0x0#32, 0x0#32, 0xE#32, 0x0#32, 0x0#32, 0x0#32, 0x1F0#32⟩,
  ⟨.CMP_WIN_CFG, 0x800, [(0x20, 16)], fun _ => 0x28000000#32, 0x80000000#32, 0x0#32, 0x0#32, 0x7C000000#32, 0x0#32, 0x0#32⟩,
  ⟨.CMP_WIN_LDAC, 0x804, [(0x20, 16)], fun _ => 0x0#32, 0x3FF#32, 0x0#32, 0x0#32, 0x0#32, 0x0#32, 0x3FF0000#32⟩,
  ⟨.CMP_WIN_UDAC, 0x808, [(0x20, 16)], fun _ => 0x3FF03FF#32, 0x3FF#32, 0x0#32, 0x0#32, 0x0#32, 0x0#32, 0x3FF0000#32⟩,
  ⟨.CMP_WIN_QUAL, 0x80C, [(0x20, 16)], fun _ => 0x61A80000#32, 0x0#32, 0x0#32, 0x0#32, 0xFFFFFFFF#32, 0x0#32, 0x0#32⟩,
  ⟨.CMP_WIN_STAT, 0x810, [(0x20, 16)], fun _ => 0x0#32, 0x0#32, 0xA#32, 0x0#32, 0x0#32, 0x0#32, 0x3F0#32⟩,
  ⟨.CMP_WIN_TS, 0x814, [(0x20, 16)], fun _ => 0x0#32, 0x0#32, 0x0#32, 0x0#32, 0x0#32, 0x0#32, 0xFFFFFFFF#32⟩]

/-- The CMP window. -/
def rowsCMP : List RegRow := rowsCMP0

/-- Rows of the MOD window, part 0. -/
def rowsMOD0 : List RegRow := [
  ⟨.MOD_MCK_CFG, 0x0, [(0x4, 8)], fun _ => 0xA#32, 0x80000000#32, 0x180#32, 0x0#32, 0x3F#32, 0x0#32, 0x40#32⟩,
  ⟨.MOD_MD_CFG, 0x100, [(0x20, 32)], fun i => (if i < 24 then 0x00020200#32 else 0#32) + BitVec.ofNat 32 (i / 4 * 0x10000000), 0x80000000#32, 0x0#32, 0x0#32, 0x7FFFFFFC#32, 0x0#32, 0x0#32⟩,
  ⟨.MOD_MD_DET, 0x104, [(0x20, 32)], fun i => if i < 24 then 0x10010000#32 else 0x10000000#32, 0x0#32, 0x0#32, 0x0#32, 0xFFFFFFFF#32, 0x0#32, 0x0#32⟩,
  ⟨.MOD_MD_STAT, 0x108, [(0x20, 32)], fun _ => 0x400#32, 0x0#32, 0x77#32, 0x0#32, 0x0#32, 0x0#32, 0xF00#32⟩,
  ⟨.MOD_MD_DATA, 0x10C, [(0x20, 32)], fun _ => 0x0#32, 0x0#32, 0x0#32, 0x0#32, 0x0#32, 0x0#32, 0xFFFFFFFF#32⟩,
  ⟨.MOD_MD_MON, 0x110, [(0x20, 32)], fun _ => 0x0#32, 0x0#32, 0x0#32, 0x0#32, 0x0#32, 0x0#32, 0xFFFFFFFF#32⟩,
  ⟨.MOD_MD_MLIM, 0x114, [(0x20, 32)], fun _ => 0x80007FFF#32, 0xFFFFFFFF#32, 0x0#32, 0x0#32, 0x0#32, 0x0#32, 0x0#32⟩]

/-- The MOD window. -/
def rowsMOD : List RegRow := rowsMOD0

/-- Rows of the HADC window, part 0. -/
def rowsHADC0 : List RegRow := [
  ⟨.HADC_CTRL, 0x0, [], fun _ => 0x4000000#32, 0x0#32, 0x0#32, 0x0#32, 0xFC0FF1F#32, 0x0#32, 0x0#32⟩,
  ⟨.HADC_CMD, 0x4, [], fun _ => 0x0#32, 0x0#32, 0x0#32, 0x3#32, 0x0#32, 0x0#32, 0x0#32⟩,
  ⟨.HADC_STAT, 0x8, [], fun _ => 0x0#32, 0x0#32, 0x78#32, 0x0#32, 0x0#32, 0x0#32, 0x6#32⟩,
  ⟨.HADC_DATA, 0xC, [], fun _ => 0x0#32, 0x0#32, 0x0#32, 0x0#32, 0x0#32, 0x0#32, 0xDFFFFFFF#32⟩,
  ⟨.HADC_SCAN, 0x10, [], fun _ => 0x0#32, 0x0#32, 0x0#32, 0x0#32, 0xFFFFFFFF#32, 0x0#32, 0x0#32⟩]

/-- The HADC window. -/
def rowsHADC : List RegRow := rowsHADC0

/-- Rows of the BOOST window, part 0. -/
def rowsBOOST0 : List RegRow := [
  ⟨.BOOST_BC_CFG, 0x0, [(0x200, 8)], fun _ => 0x48C040#32, 0x80000000#32, 0x0#32, 0x0#32, 0x7FFEFFF0#32, 0x0#32, 0x0#32⟩,
  ⟨.BOOST_BC_STAT, 0x4, [(0x200, 8)], fun _ => 0x0#32, 0x0#32, 0x1FF#32, 0x0#32, 0x0#32, 0x0#32, 0x7FE00#32⟩,
  ⟨.BOOST_BC_PHSTAT, 0x8, [(0x200, 8)], fun _ => 0x0#32, 0x0#32, 0x3F000000#32, 0x0#32, 0x0#32, 0x0#32, 0x3F3F3F#32⟩,
  ⟨.BOOST_BC_ICMD, 0xC, [(0x200, 8)], fun _ => 0x0#32, 0xFFFF#32, 0x0#32, 0x0#32, 0x0#32, 0x0#32, 0x0#32⟩,
  ⟨.BOOST_BC_LIM, 0x10, [(0x200, 8)], fun _ => 0x40100000#32, 0x0#32, 0x0#32, 0x0#32, 0xFFFFF3FF#32, 0x0#32, 0x0#32⟩,
  ⟨.BOOST_BC_RAMP, 0x14, [(0x200, 8)], fun _ => 0x0#32, 0xFFF03FF#32, 0x0#32, 0x0#32, 0x0#32, 0x0#32, 0x0#32⟩,
  ⟨.BOOST_BC_SHED, 0x18, [(0x200, 8)], fun _ => 0x8000000#32, 0x0#32, 0x0#32, 0x0#32, 0xFFFFFFFF#32, 0x0#32, 0x0#32⟩,
  ⟨.BOOST_BC_SHTM, 0x1C, [(0x200, 8)], fun _ => 0x40101000#32, 0xFFFFFF00#32, 0x0#32, 0x0#32, 0x0#32, 0x0#32, 0x0#32⟩,
  ⟨.BOOST_BC_STEP, 0x20, [(0x200, 8)], fun _ => 0x400#32, 0xFFFF#32, 0x0#32, 0x0#32, 0x0#32, 0x0#32, 0x0#32⟩,
  ⟨.BOOST_BC_SYNC, 0x24, [(0x200, 8)], fun _ => 0x0#32, 0x0#32, 0x0#32, 0x0#32, 0x3FFFFF#32, 0x0#32, 0x0#32⟩,
  ⟨.BOOST_BC_XCHK, 0x28, [(0x200, 8)], fun _ => 0x103020#32, 0x0#32, 0x0#32, 0x0#32, 0x9FFFF0FF#32, 0x0#32, 0x0#32⟩,
  ⟨.BOOST_BC_XTOL, 0x2C, [(0x200, 8)], fun _ => 0x1000400#32, 0x0#32, 0x0#32, 0x0#32, 0xFFFFFFFF#32, 0x0#32, 0x0#32⟩]

/-- Rows of the BOOST window, part 1. -/
def rowsBOOST1 : List RegRow := [
  ⟨.BOOST_BC_XMIN, 0x30, [(0x200, 8)], fun _ => 0x800#32, 0x0#32, 0x0#32, 0x0#32, 0xFFFF#32, 0x0#32, 0x0#32⟩,
  ⟨.BOOST_BC_MCFG, 0x40, [(0x200, 8)], fun _ => 0x1F140A#32, 0x80000000#32, 0x0#32, 0x0#32, 0x7FFFFFFF#32, 0x0#32, 0x0#32⟩,
  ⟨.BOOST_BC_MADDR, 0x44, [(0x200, 8)], fun _ => 0x0#32, 0x0#32, 0x0#32, 0x0#32, 0x7FFF9#32, 0x0#32, 0x0#32⟩,
  ⟨.BOOST_BC_MVLIM, 0x48, [(0x200, 8)], fun _ => 0x7FFF0000#32, 0x0#32, 0x0#32, 0x0#32, 0xFFFFFFFF#32, 0x0#32, 0x0#32⟩,
  ⟨.BOOST_BC_MSTEP, 0x4C, [(0x200, 8)], fun _ => 0x100040#32, 0x0#32, 0x0#32, 0x0#32, 0xFFFFFFFF#32, 0x0#32, 0x0#32⟩,
  ⟨.BOOST_BC_MSCAN, 0x50, [(0x200, 8)], fun _ => 0x70002000#32, 0x0#32, 0x0#32, 0x0#32, 0xFFFFFFFF#32, 0x0#32, 0x0#32⟩,
  ⟨.BOOST_BC_MTRIG, 0x54, [(0x200, 8)], fun _ => 0xA#32, 0xFFFFFF#32, 0x0#32, 0x80000000#32, 0x0#32, 0x0#32, 0x0#32⟩,
  ⟨.BOOST_BC_MREF, 0x58, [(0x200, 8)], fun _ => 0x0#32, 0x0#32, 0x0#32, 0x0#32, 0x0#32, 0x0#32, 0xFFFFFFFF#32⟩,
  ⟨.BOOST_BC_MPWR, 0x5C, [(0x200, 8)], fun _ => 0x0#32, 0x0#32, 0x0#32, 0x0#32, 0x0#32, 0x0#32, 0xFFFFFFFF#32⟩,
  ⟨.BOOST_BC_MSTAT, 0x60, [(0x200, 8)], fun _ => 0x0#32, 0x0#32, 0x3800#32, 0x0#32, 0x0#32, 0x0#32, 0x3FC000#32⟩,
  ⟨.BOOST_BC_MTAB, 0x100, [(0x200, 8), (0x4, 64)], fun _ => 0x0#32, 0x0#32, 0x0#32, 0x0#32, 0x0#32, 0x0#32, 0xFFFFFFFF#32⟩]

/-- The BOOST window. -/
def rowsBOOST : List RegRow := rowsBOOST0 ++ rowsBOOST1

/-- Rows of the METER window, part 0. -/
def rowsMETER0 : List RegRow := [
  ⟨.METER_CTRL, 0x0, [(0x1000, 2)], fun i => if i = 0 then 0x36800010#32 else 0x10000010#32, 0x80000000#32, 0x0#32, 0x40000000#32, 0x3F80FFFF#32, 0x0#32, 0x0#32⟩,
  ⟨.METER_STAT, 0x4, [(0x1000, 2)], fun _ => 0x0#32, 0x0#32, 0x1F3#32, 0x0#32, 0x0#32, 0x0#32, 0x600#32⟩,
  ⟨.METER_CHMAP, 0x8, [(0x1000, 2)], fun i => if i = 0 then 0x00251403#32 else 0x00000007#32, 0x0#32, 0x0#32, 0x0#32, 0x777777#32, 0x0#32, 0x0#32⟩,
  ⟨.METER_QL, 0x10, [(0x1000, 2)], fun _ => 0x0#32, 0x0#32, 0x0#32, 0x0#32, 0xFFFFFFFF#32, 0x0#32, 0x0#32⟩,
  ⟨.METER_QM, 0x14, [(0x1000, 2)], fun _ => 0x0#32, 0x0#32, 0x0#32, 0x0#32, 0xFFFFFFFF#32, 0x0#32, 0x0#32⟩,
  ⟨.METER_QH, 0x18, [(0x1000, 2)], fun _ => 0x0#32, 0x0#32, 0x0#32, 0x0#32, 0xFFFFFFFF#32, 0x0#32, 0x0#32⟩,
  ⟨.METER_PRATEDQ, 0x1C, [(0x1000, 2)], fun _ => 0x0#32, 0x0#32, 0x0#32, 0x0#32, 0xFFFFFFFF#32, 0x0#32, 0x0#32⟩,
  ⟨.METER_IPER, 0x20, [(0x1000, 2)], fun _ => 0xF#32, 0x0#32, 0x0#32, 0x0#32, 0x1FFFFFF#32, 0x0#32, 0x0#32⟩,
  ⟨.METER_ACC_CNTL, 0x100, [(0x1000, 2), (0x10, 7)], fun _ => 0x0#32, 0x0#32, 0x0#32, 0x0#32, 0x0#32, 0x0#32, 0xFFFFFFFF#32⟩,
  ⟨.METER_ACC_CNTH, 0x104, [(0x1000, 2), (0x10, 7)], fun _ => 0x0#32, 0x0#32, 0x0#32, 0x0#32, 0x0#32, 0x0#32, 0xFFFFFFFF#32⟩,
  ⟨.METER_ACC_FRAC, 0x108, [(0x1000, 2), (0x10, 7)], fun _ => 0x0#32, 0x0#32, 0x0#32, 0x0#32, 0x0#32, 0x0#32, 0xFFFF#32⟩,
  ⟨.METER_IVSEC, 0x180, [(0x1000, 2)], fun _ => 0x0#32, 0x0#32, 0x0#32, 0x0#32, 0x0#32, 0x0#32, 0xFFFFFFFF#32⟩]

/-- Rows of the METER window, part 1. -/
def rowsMETER1 : List RegRow := [
  ⟨.METER_IVFLG, 0x184, [(0x1000, 2)], fun _ => 0x0#32, 0x0#32, 0x0#32, 0x0#32, 0x0#32, 0x0#32, 0x1FF#32⟩,
  ⟨.METER_IV_LO, 0x188, [(0x1000, 2), (0x8, 9)], fun _ => 0x0#32, 0x0#32, 0x0#32, 0x0#32, 0x0#32, 0x0#32, 0xFFFFFFFF#32⟩,
  ⟨.METER_IV_HI, 0x18C, [(0x1000, 2), (0x8, 9)], fun _ => 0x0#32, 0x0#32, 0x0#32, 0x0#32, 0x0#32, 0x0#32, 0xFFFFFFFF#32⟩,
  ⟨.METER_BLK_VRMS, 0x200, [(0x1000, 2), (0x20, 3)], fun _ => 0x0#32, 0x0#32, 0x0#32, 0x0#32, 0x0#32, 0x0#32, 0xFFFFFFFF#32⟩,
  ⟨.METER_BLK_IRMS, 0x204, [(0x1000, 2), (0x20, 3)], fun _ => 0x0#32, 0x0#32, 0x0#32, 0x0#32, 0x0#32, 0x0#32, 0xFFFFFFFF#32⟩,
  ⟨.METER_BLK_P, 0x208, [(0x1000, 2), (0x20, 3)], fun _ => 0x0#32, 0x0#32, 0x0#32, 0x0#32, 0x0#32, 0x0#32, 0xFFFFFFFF#32⟩,
  ⟨.METER_BLK_Q, 0x20C, [(0x1000, 2), (0x20, 3)], fun _ => 0x0#32, 0x0#32, 0x0#32, 0x0#32, 0x0#32, 0x0#32, 0xFFFFFFFF#32⟩,
  ⟨.METER_BLK_S, 0x210, [(0x1000, 2), (0x20, 3)], fun _ => 0x0#32, 0x0#32, 0x0#32, 0x0#32, 0x0#32, 0x0#32, 0xFFFFFFFF#32⟩,
  ⟨.METER_NRMS, 0x260, [(0x1000, 2)], fun _ => 0x0#32, 0x0#32, 0x0#32, 0x0#32, 0x0#32, 0x0#32, 0xFFFFFFFF#32⟩,
  ⟨.METER_BLKSEC, 0x264, [(0x1000, 2)], fun _ => 0x0#32, 0x0#32, 0x0#32, 0x0#32, 0x0#32, 0x0#32, 0xFFFFFFFF#32⟩,
  ⟨.METER_BLKNS, 0x268, [(0x1000, 2)], fun _ => 0x0#32, 0x0#32, 0x0#32, 0x0#32, 0x0#32, 0x0#32, 0xFFFFFFFF#32⟩,
  ⟨.METER_CORR_A, 0x400, [(0x1000, 2), (0x8, 72)], fun _ => 0x0#32, 0x0#32, 0x0#32, 0x0#32, 0xFFFF0FFF#32, 0x0#32, 0x0#32⟩]

/-- Rows of the METER window, part 2. -/
def rowsMETER2 : List RegRow := [
  ⟨.METER_CORR_B, 0x404, [(0x1000, 2), (0x8, 72)], fun _ => 0x800000#32, 0x0#32, 0x0#32, 0x0#32, 0xFFFFFF#32, 0x0#32, 0x0#32⟩,
  ⟨.METER_CKSTAT, 0x8000, [], fun _ => 0x0#32, 0x0#32, 0x70000000#32, 0x0#32, 0x0#32, 0x0#32, 0x8001FFFF#32⟩,
  ⟨.METER_LPSTAT, 0x8004, [], fun _ => 0x0#32, 0x0#32, 0x0#32, 0x0#32, 0x0#32, 0x0#32, 0x800007FF#32⟩,
  ⟨.METER_PLS, 0x8010, [(0x4, 4)], fun _ => 0x0#32, 0xFC000000#32, 0x2000000#32, 0x0#32, 0x0#32, 0x0#32, 0xFFFF#32⟩]

/-- The METER window. -/
def rowsMETER : List RegRow := rowsMETER0 ++ rowsMETER1 ++ rowsMETER2

/-- Rows of the SAFE window, part 0. -/
def rowsSAFE0 : List RegRow := [
  ⟨.SAFE_STAT, 0x0, [], fun _ => 0x0#32, 0x0#32, 0xF000#32, 0x0#32, 0x0#32, 0x0#32, 0xFF800000#32⟩,
  ⟨.SAFE_CMD, 0x4, [], fun _ => 0x0#32, 0x0#32, 0x0#32, 0x1FF03#32, 0x0#32, 0x0#32, 0x0#32⟩,
  ⟨.SAFE_LOCK, 0x8, [], fun _ => 0x0#32, 0x0#32, 0x0#32, 0x0#32, 0x0#32, 0x0#32, 0xFF003FFF#32⟩,
  ⟨.SAFE_PARCRC, 0xC, [], fun _ => 0x0#32, 0x0#32, 0x0#32, 0x0#32, 0x0#32, 0x0#32, 0xFFFFFFFF#32⟩,
  ⟨.SAFE_CONFIRM, 0x10, [], fun _ => 0x0#32, 0x0#32, 0x0#32, 0xFFFFFFFF#32, 0x0#32, 0x0#32, 0x0#32⟩,
  ⟨.SAFE_UNLREQ, 0x14, [], fun _ => 0x0#32, 0x0#32, 0x0#32, 0xFF#32, 0x0#32, 0x0#32, 0x0#32⟩,
  ⟨.SAFE_UNLCH, 0x18, [(0x4, 2)], fun _ => 0x0#32, 0x0#32, 0x0#32, 0x0#32, 0x0#32, 0x0#32, 0xFFFFFFFF#32⟩,
  ⟨.SAFE_UNLRSP, 0x20, [(0x4, 8)], fun _ => 0x0#32, 0x0#32, 0x0#32, 0xFFFFFFFF#32, 0x0#32, 0x0#32, 0x0#32⟩,
  ⟨.SAFE_SF, 0x40, [], fun _ => 0xFFFF#32, 0x0#32, 0x0#32, 0x0#32, 0x0#32, 0x0#32, 0xFFFFFF#32⟩,
  ⟨.SAFE_SI, 0x44, [], fun _ => 0xFFFF0000#32, 0x0#32, 0x0#32, 0x0#32, 0x0#32, 0x0#32, 0xFFFFFFFF#32⟩,
  ⟨.SAFE_SIF, 0x48, [], fun _ => 0x0#32, 0x0#32, 0xFFFFFFFF#32, 0x0#32, 0x0#32, 0x0#32, 0x0#32⟩,
  ⟨.SAFE_SIP, 0x4C, [], fun _ => 0xFF00#32, 0x0#32, 0xFF#32, 0x0#32, 0x0#32, 0x0#32, 0xFF00#32⟩]

/-- Rows of the SAFE window, part 1. -/
def rowsSAFE1 : List RegRow := [
  ⟨.SAFE_RCREQ, 0x50, [], fun _ => 0x0#32, 0xF#32, 0x0#32, 0x0#32, 0x0#32, 0x0#32, 0x0#32⟩,
  ⟨.SAFE_CLKMON, 0x54, [], fun _ => 0x0#32, 0x0#32, 0x0#32, 0x0#32, 0x0#32, 0x0#32, 0x1FFF1FFF#32⟩,
  ⟨.SAFE_RC, 0x60, [(0x4, 4)], fun _ => 0x0#32, 0x0#32, 0xF8#32, 0x0#32, 0x0#32, 0x0#32, 0xF8FFFF00#32⟩,
  ⟨.SAFE_RX_STAT, 0x80, [(0x10, 4)], fun _ => 0x0#32, 0x0#32, 0x1F#32, 0x0#32, 0x0#32, 0x0#32, 0xF0000000#32⟩,
  ⟨.SAFE_RX_CMD, 0x84, [(0x10, 4)], fun _ => 0x0#32, 0x0#32, 0x0#32, 0x0#32, 0x0#32, 0x0#32, 0xFFFFFFFF#32⟩,
  ⟨.SAFE_RX_SEQ, 0x88, [(0x10, 4)], fun _ => 0x0#32, 0x0#32, 0x0#32, 0x0#32, 0x0#32, 0x0#32, 0xFFFFFFFF#32⟩,
  ⟨.SAFE_RX_CNT, 0x8C, [(0x10, 4)], fun _ => 0x0#32, 0x0#32, 0x0#32, 0x0#32, 0x0#32, 0x0#32, 0xFFFFFFFF#32⟩,
  ⟨.SAFE_TX_CTRL, 0xC0, [(0x10, 4)], fun _ => 0x0#32, 0x0#32, 0x10000#32, 0x0#32, 0x0#32, 0x0#32, 0x8000FFFF#32⟩,
  ⟨.SAFE_TX_DATA, 0xC4, [(0x10, 4), (0x4, 3)], fun _ => 0x0#32, 0xFFFFFFFF#32, 0x0#32, 0x0#32, 0x0#32, 0x0#32, 0x0#32⟩,
  ⟨.SAFE_PAR, 0x200, [(0x4, 128)], fun _ => 0x0#32, 0x0#32, 0x0#32, 0x0#32, 0xFFFFFFFF#32, 0x0#32, 0x0#32⟩]

/-- The SAFE window. -/
def rowsSAFE : List RegRow := rowsSAFE0 ++ rowsSAFE1

/-- Rows of the PURLIN window, part 0. -/
def rowsPURLIN0 : List RegRow := [
  ⟨.PURLIN_LANE_CFG, 0x0, [(0x100, 32)], fun _ => 0x8004A88#32, 0x800FFFF8#32, 0x0#32, 0x0#32, 0x7F800000#32, 0x0#32, 0x0#32⟩,
  ⟨.PURLIN_LANE_CMD, 0x4, [(0x100, 32)], fun _ => 0x0#32, 0x0#32, 0x0#32, 0x1F#32, 0x0#32, 0x0#32, 0x0#32⟩,
  ⟨.PURLIN_LANE_STAT, 0x8, [(0x100, 32)], fun _ => 0x0#32, 0x0#32, 0xEFF0#32, 0x0#32, 0x0#32, 0x0#32, 0xFFFF1000#32⟩,
  ⟨.PURLIN_LANE_TILE, 0xC, [(0x100, 32)], fun _ => 0x60C00064#32, 0x0#32, 0x0#32, 0x0#32, 0xFFF0FFFF#32, 0x0#32, 0x0#32⟩,
  ⟨.PURLIN_LANE_TPROC, 0x10, [(0x100, 32)], fun _ => 0x64#32, 0x0#32, 0x0#32, 0x0#32, 0x3FF#32, 0x0#32, 0x0#32⟩,
  ⟨.PURLIN_LANE_LAT, 0x14, [(0x100, 32)], fun _ => 0x0#32, 0x0#32, 0x0#32, 0x0#32, 0x0#32, 0x0#32, 0xFFFFFFFF#32⟩,
  ⟨.PURLIN_LANE_LMIN, 0x18, [(0x100, 32)], fun _ => 0x0#32, 0x0#32, 0x0#32, 0x0#32, 0x0#32, 0x0#32, 0xFFFF#32⟩,
  ⟨.PURLIN_LANE_ASYM, 0x1C, [(0x100, 32)], fun _ => 0x0#32, 0x0#32, 0x0#32, 0x0#32, 0xFFFFFF#32, 0x0#32, 0x0#32⟩,
  ⟨.PURLIN_LANE_ESCAN, 0x20, [(0x100, 32)], fun _ => 0x0#32, 0x3F7F1F#32, 0x0#32, 0x0#32, 0x0#32, 0x0#32, 0x0#32⟩,
  ⟨.PURLIN_LANE_ESERR, 0x24, [(0x100, 32)], fun _ => 0x0#32, 0x0#32, 0x0#32, 0x0#32, 0x0#32, 0x0#32, 0xFFFFFFFF#32⟩,
  ⟨.PURLIN_LANE_CNT, 0x28, [(0x100, 32)], fun _ => 0x0#32, 0x0#32, 0x0#32, 0x0#32, 0x0#32, 0x0#32, 0xFFFFFFFF#32⟩,
  ⟨.PURLIN_LANE_TRIP, 0x2C, [(0x100, 32)], fun _ => 0x0#32, 0x0#32, 0x3F#32, 0x0#32, 0x0#32, 0x0#32, 0x0#32⟩]

/-- Rows of the PURLIN window, part 1. -/
def rowsPURLIN1 : List RegRow := [
  ⟨.PURLIN_LANE_MSG, 0x30, [(0x100, 32)], fun _ => 0x0#32, 0x0#32, 0x0#32, 0x0#32, 0x1F1F0000#32, 0x0#32, 0x1FF#32⟩,
  ⟨.PURLIN_LUP, 0x2000, [], fun _ => 0x0#32, 0x0#32, 0x0#32, 0x0#32, 0x0#32, 0x0#32, 0xFFFFFFFF#32⟩]

/-- The PURLIN window. -/
def rowsPURLIN : List RegRow := rowsPURLIN0 ++ rowsPURLIN1

/-- Rows of the ENET window, part 0. -/
def rowsENET0 : List RegRow := [
  ⟨.ENET_CFG, 0x0, [(0x400, 4)], fun _ => 0x20000000#32, 0x80000000#32, 0x0#32, 0x0#32, 0x70000000#32, 0x0#32, 0x8000000#32⟩,
  ⟨.ENET_STAT, 0x4, [(0x400, 4)], fun _ => 0x0#32, 0x0#32, 0x3E#32, 0x0#32, 0x0#32, 0x0#32, 0xC0000000#32⟩,
  ⟨.ENET_MACL, 0x8, [(0x400, 4)], fun _ => 0x0#32, 0x0#32, 0x0#32, 0x0#32, 0xFFFFFFFF#32, 0x0#32, 0x0#32⟩,
  ⟨.ENET_MACH, 0xC, [(0x400, 4)], fun _ => 0x0#32, 0x0#32, 0x0#32, 0x0#32, 0xFFFF#32, 0x0#32, 0x0#32⟩,
  ⟨.ENET_RXBASE, 0x10, [(0x400, 4)], fun _ => 0x0#32, 0x0#32, 0x0#32, 0x0#32, 0xFFFFFFF0#32, 0x0#32, 0x0#32⟩,
  ⟨.ENET_TXBASE, 0x14, [(0x400, 4)], fun _ => 0x0#32, 0x0#32, 0x0#32, 0x0#32, 0xFFFFFFF0#32, 0x0#32, 0x0#32⟩,
  ⟨.ENET_RING, 0x18, [(0x400, 4)], fun _ => 0x0#32, 0x0#32, 0x0#32, 0x0#32, 0xFFFF#32, 0x0#32, 0x0#32⟩,
  ⟨.ENET_RXIDX, 0x1C, [(0x400, 4)], fun _ => 0x0#32, 0x0#32, 0x0#32, 0x0#32, 0x0#32, 0x0#32, 0xFF#32⟩,
  ⟨.ENET_TXIDX, 0x20, [(0x400, 4)], fun _ => 0x0#32, 0x0#32, 0x0#32, 0x80000000#32, 0x0#32, 0x0#32, 0xFF#32⟩,
  ⟨.ENET_SFDAL, 0x24, [(0x400, 4)], fun _ => 0x0#32, 0xFFFFFFFF#32, 0x0#32, 0x0#32, 0x0#32, 0x0#32, 0x0#32⟩,
  ⟨.ENET_SFDAH, 0x28, [(0x400, 4)], fun _ => 0x0#32, 0xFFFF#32, 0x0#32, 0x0#32, 0x0#32, 0x0#32, 0x0#32⟩,
  ⟨.ENET_SFVLAN, 0x2C, [(0x400, 4)], fun _ => 0x8000A000#32, 0x8000EFFF#32, 0x0#32, 0x0#32, 0x0#32, 0x0#32, 0x0#32⟩]

/-- Rows of the ENET window, part 1. -/
def rowsENET1 : List RegRow := [
  ⟨.ENET_ERR, 0x30, [(0x400, 4)], fun _ => 0x0#32, 0x0#32, 0x0#32, 0x0#32, 0x0#32, 0x0#32, 0xFFFFFF00#32⟩]

/-- The ENET window. -/
def rowsENET : List RegRow := rowsENET0 ++ rowsENET1

/-- Rows of the RIDGE window, part 0. -/
def rowsRIDGE0 : List RegRow := [
  ⟨.RIDGE_CFG, 0x0, [], fun _ => 0x80000000#32, 0x8000FFFF#32, 0x0#32, 0x0#32, 0x0#32, 0x0#32, 0x0#32⟩,
  ⟨.RIDGE_CMD, 0x4, [], fun _ => 0x0#32, 0x0#32, 0x0#32, 0x3#32, 0x0#32, 0x0#32, 0x0#32⟩,
  ⟨.RIDGE_STAT, 0x8, [], fun _ => 0x0#32, 0x0#32, 0x1C000000#32, 0x0#32, 0x0#32, 0x0#32, 0xE000FFFF#32⟩,
  ⟨.RIDGE_TS, 0xC, [], fun _ => 0x0#32, 0x0#32, 0x0#32, 0x0#32, 0x0#32, 0x0#32, 0xFFFFFFFF#32⟩,
  ⟨.RIDGE_RSYNC, 0x10, [], fun _ => 0x0#32, 0xFFFFFF#32, 0x0#32, 0x0#32, 0x0#32, 0x0#32, 0x0#32⟩,
  ⟨.RIDGE_RSTS, 0x14, [], fun _ => 0x0#32, 0x0#32, 0x0#32, 0x0#32, 0x0#32, 0x0#32, 0xFFFFFFFF#32⟩]

/-- The RIDGE window. -/
def rowsRIDGE : List RegRow := rowsRIDGE0

/-- Rows of the EAVES window, part 0. -/
def rowsEAVES0 : List RegRow := [
  ⟨.EAVES_STAT, 0x0, [], fun _ => 0x0#32, 0x0#32, 0xFC#32, 0x0#32, 0x0#32, 0x0#32, 0xFC000000#32⟩,
  ⟨.EAVES_CFG, 0x4, [], fun _ => 0x6900003C#32, 0xFF00FFFF#32, 0x0#32, 0x0#32, 0x0#32, 0x0#32, 0x0#32⟩,
  ⟨.EAVES_STORE, 0x8, [], fun _ => 0x640064#32, 0xFFFFFFFF#32, 0x0#32, 0x0#32, 0x0#32, 0x0#32, 0x0#32⟩,
  ⟨.EAVES_VMEAS, 0xC, [], fun _ => 0x0#32, 0x0#32, 0x0#32, 0x0#32, 0x0#32, 0x0#32, 0xFFFFFFFF#32⟩,
  ⟨.EAVES_SECL, 0x10, [], fun _ => 0x0#32, 0x0#32, 0x0#32, 0x0#32, 0x0#32, 0x0#32, 0xFFFFFFFF#32⟩,
  ⟨.EAVES_SECH, 0x14, [], fun _ => 0x0#32, 0x0#32, 0x0#32, 0x0#32, 0x0#32, 0x0#32, 0x7FFFFFFF#32⟩,
  ⟨.EAVES_TRIM, 0x18, [], fun _ => 0x0#32, 0xFFF#32, 0x0#32, 0x0#32, 0x0#32, 0x0#32, 0x0#32⟩,
  ⟨.EAVES_TAMP, 0x1C, [], fun _ => 0x0#32, 0xFFF00000#32, 0xF#32, 0x0#32, 0x0#32, 0x0#32, 0xF0#32⟩,
  ⟨.EAVES_WAKE, 0x20, [], fun _ => 0x0#32, 0xFFFFFFFF#32, 0x0#32, 0x0#32, 0x0#32, 0x0#32, 0x0#32⟩,
  ⟨.EAVES_LOSSSEC, 0x24, [], fun _ => 0x0#32, 0x0#32, 0x0#32, 0x0#32, 0x0#32, 0x0#32, 0xFFFFFFFF#32⟩,
  ⟨.EAVES_LOSSNS, 0x28, [], fun _ => 0x0#32, 0x0#32, 0x0#32, 0x0#32, 0x0#32, 0x0#32, 0xFFFFFFFF#32⟩,
  ⟨.EAVES_DEFCNT, 0x2C, [], fun _ => 0x0#32, 0x0#32, 0x0#32, 0x80000000#32, 0x0#32, 0x0#32, 0xFFFF#32⟩]

/-- Rows of the EAVES window, part 1. -/
def rowsEAVES1 : List RegRow := [
  ⟨.EAVES_BSRC, 0x30, [], fun _ => 0x0#32, 0xFFFFFFFC#32, 0x0#32, 0x0#32, 0x0#32, 0x0#32, 0x0#32⟩,
  ⟨.EAVES_BDST, 0x34, [], fun _ => 0x0#32, 0xFFFFFFFC#32, 0x0#32, 0x0#32, 0x0#32, 0x0#32, 0x0#32⟩,
  ⟨.EAVES_BCTL, 0x38, [], fun _ => 0x0#32, 0x1FF03FF#32, 0x0#32, 0x80000000#32, 0x0#32, 0x0#32, 0x0#32⟩,
  ⟨.EAVES_BSTAT, 0x3C, [], fun _ => 0x0#32, 0x0#32, 0x0#32, 0x0#32, 0x0#32, 0x0#32, 0x800000FF#32⟩]

/-- The EAVES window. -/
def rowsEAVES : List RegRow := rowsEAVES0 ++ rowsEAVES1

/-- Rows of the THATCH window, part 0. -/
def rowsTHATCH0 : List RegRow := [
  ⟨.THATCH_STAT, 0x0, [], fun _ => 0x0#32, 0x0#32, 0x7#32, 0x0#32, 0x0#32, 0x0#32, 0xFC00FF00#32⟩,
  ⟨.THATCH_HEAD, 0x4, [], fun _ => 0x0#32, 0x0#32, 0x0#32, 0x0#32, 0x0#32, 0x0#32, 0xFFFFFFFF#32⟩,
  ⟨.THATCH_TAIL, 0x8, [], fun _ => 0x0#32, 0x0#32, 0x0#32, 0x0#32, 0x0#32, 0x0#32, 0xFFFFFFFF#32⟩,
  ⟨.THATCH_CUR, 0xC, [], fun _ => 0x0#32, 0xFFFFFFFF#32, 0x0#32, 0x0#32, 0x0#32, 0x0#32, 0x0#32⟩,
  ⟨.THATCH_LOST, 0x10, [], fun _ => 0x0#32, 0x0#32, 0x0#32, 0x0#32, 0x0#32, 0x0#32, 0xFFFFFFFF#32⟩,
  ⟨.THATCH_REPWIN, 0x14, [], fun _ => 0x3C#32, 0xFFFF#32, 0x0#32, 0x0#32, 0x0#32, 0x0#32, 0x0#32⟩,
  ⟨.THATCH_WIN, 0x20, [(0x4, 8)], fun _ => 0x0#32, 0x0#32, 0x0#32, 0x0#32, 0x0#32, 0x0#32, 0xFFFFFFFF#32⟩,
  ⟨.THATCH_POST0, 0x40, [], fun _ => 0x0#32, 0xFFFF0000#32, 0x0#32, 0x0#32, 0x0#32, 0x0#32, 0x0#32⟩,
  ⟨.THATCH_POST1, 0x44, [], fun _ => 0x0#32, 0xFFFFFFFF#32, 0x0#32, 0x0#32, 0x0#32, 0x0#32, 0x0#32⟩,
  ⟨.THATCH_POST2, 0x48, [], fun _ => 0x0#32, 0xFFFFFFFF#32, 0x0#32, 0x0#32, 0x0#32, 0x0#32, 0x0#32⟩,
  ⟨.THATCH_POST3, 0x4C, [], fun _ => 0x0#32, 0xFFFFFFFF#32, 0x0#32, 0x0#32, 0x0#32, 0x0#32, 0x0#32⟩,
  ⟨.THATCH_CLRREQ, 0x50, [], fun _ => 0x0#32, 0x0#32, 0x0#32, 0xFF#32, 0x0#32, 0x0#32, 0x0#32⟩]

/-- Rows of the THATCH window, part 1. -/
def rowsTHATCH1 : List RegRow := [
  ⟨.THATCH_CH, 0x54, [(0x4, 2)], fun _ => 0x0#32, 0x0#32, 0x0#32, 0x0#32, 0x0#32, 0x0#32, 0xFFFFFFFF#32⟩,
  ⟨.THATCH_RSP, 0x60, [(0x4, 8)], fun _ => 0x0#32, 0x0#32, 0x0#32, 0xFFFFFFFF#32, 0x0#32, 0x0#32, 0x0#32⟩]

/-- The THATCH window. -/
def rowsTHATCH : List RegRow := rowsTHATCH0 ++ rowsTHATCH1

/-- Rows of the QUEUE window, part 0. -/
def rowsQUEUE0 : List RegRow := [
  ⟨.QUEUE_CFG, 0x0, [(0x20, 32)], fun _ => 0x78000004#32, 0xF8000000#32, 0x0#32, 0x0#32, 0x3F01FF#32, 0x0#32, 0x0#32⟩,
  ⟨.QUEUE_BASE, 0x4, [(0x20, 32)], fun _ => 0x0#32, 0x0#32, 0x0#32, 0x0#32, 0xFFFFFFFC#32, 0x0#32, 0x0#32⟩,
  ⟨.QUEUE_RIGHTS, 0x8, [(0x20, 32)], fun _ => 0x0#32, 0x0#32, 0x0#32, 0x0#32, 0x7FF07FF#32, 0x0#32, 0x0#32⟩,
  ⟨.QUEUE_STAT, 0xC, [(0x20, 32)], fun _ => 0x0#32, 0x0#32, 0xFC00#32, 0x0#32, 0x0#32, 0x0#32, 0x1FF01FF#32⟩,
  ⟨.QUEUE_IRQ, 0x10, [(0x20, 32)], fun _ => 0x0#32, 0xC00001FF#32, 0x0#32, 0x0#32, 0x0#32, 0x0#32, 0x0#32⟩,
  ⟨.QUEUE_PEND, 0x400, [], fun _ => 0x0#32, 0x0#32, 0x0#32, 0x0#32, 0x0#32, 0x0#32, 0xFFFFFFFF#32⟩,
  ⟨.QUEUE_HBUF, 0x8000, [(0x4, 64)], fun _ => 0x0#32, 0xFFFFFFFF#32, 0x0#32, 0x0#32, 0x0#32, 0x0#32, 0x0#32⟩,
  ⟨.QUEUE_HCMD, 0x8100, [], fun _ => 0x0#32, 0x0#32, 0x0#32, 0x1FF1F03#32, 0x0#32, 0x0#32, 0x0#32⟩,
  ⟨.QUEUE_HRES, 0x8104, [], fun _ => 0x0#32, 0x0#32, 0x0#32, 0x0#32, 0x0#32, 0x0#32, 0xFFFFFFFF#32⟩]

/-- The QUEUE window. -/
def rowsQUEUE : List RegRow := rowsQUEUE0

/-- Rows of the RAFTER window, part 0. -/
def rowsRAFTER0 : List RegRow := [
  ⟨.RAFTER_CTX_STAT, 0x0, [(0x4, 256)], fun _ => 0x1#32, 0x0#32, 0xFC0#32, 0x0#32, 0x0#32, 0x0#32, 0x303F#32⟩,
  ⟨.RAFTER_CORE_MODE, 0x400, [(0x20, 8)], fun _ => 0x1#32, 0x101#32, 0x2#32, 0x0#32, 0x0#32, 0x0#32, 0x0#32⟩,
  ⟨.RAFTER_CORE_STAT, 0x404, [(0x20, 8)], fun _ => 0x0#32, 0x0#32, 0x0#32, 0x0#32, 0x0#32, 0x0#32, 0xFF807F#32⟩,
  ⟨.RAFTER_CORE_UTIL, 0x408, [(0x20, 8)], fun _ => 0x0#32, 0x0#32, 0x0#32, 0x0#32, 0x0#32, 0x0#32, 0xFFFF#32⟩,
  ⟨.RAFTER_CORE_CTXCMD, 0x40C, [(0x20, 8)], fun _ => 0x0#32, 0x0#32, 0x0#32, 0x3FF#32, 0x0#32, 0x0#32, 0x0#32⟩,
  ⟨.RAFTER_CORE_CTXRES, 0x410, [(0x20, 8)], fun _ => 0x0#32, 0x0#32, 0x0#32, 0x0#32, 0x0#32, 0x0#32, 0xFFFFF#32⟩,
  ⟨.RAFTER_PU_CFG, 0x800, [(0x800, 8)], fun _ => 0x4003F#32, 0x0#32, 0x0#32, 0x0#32, 0x0#32, 0xFF7C003F#32, 0x0#32⟩,
  ⟨.RAFTER_PU_SRC, 0x804, [(0x800, 8)], fun _ => 0xA418820#32, 0x0#32, 0x0#32, 0x0#32, 0x0#32, 0x3FFFFFFF#32, 0x0#32⟩,
  ⟨.RAFTER_PU_STAT, 0x808, [(0x800, 8)], fun _ => 0x3F#32, 0x0#32, 0x3F0000#32, 0x0#32, 0x0#32, 0x0#32, 0x1FFF#32⟩,
  ⟨.RAFTER_PU_PADDR, 0x80C, [(0x800, 8)], fun _ => 0x0#32, 0x0#32, 0x0#32, 0x0#32, 0x0#32, 0x7FFF9#32, 0x0#32⟩,
  ⟨.RAFTER_PU_ROC, 0x810, [(0x800, 8)], fun _ => 0x100100A#32, 0x0#32, 0x0#32, 0x0#32, 0x0#32, 0xFFFFFFFF#32, 0x0#32⟩,
  ⟨.RAFTER_PU_VS, 0x814, [(0x800, 8)], fun _ => 0x71C0000#32, 0x0#32, 0x0#32, 0x0#32, 0x0#32, 0xFFFF0000#32, 0x0#32⟩]

/-- Rows of the RAFTER window, part 1. -/
def rowsRAFTER1 : List RegRow := [
  ⟨.RAFTER_PU_FLIM, 0x818, [(0x800, 8)], fun _ => 0x1000100#32, 0x0#32, 0x0#32, 0x0#32, 0x0#32, 0xFFFFFFFF#32, 0x0#32⟩,
  ⟨.RAFTER_PU_FREQ, 0x820, [(0x800, 8)], fun _ => 0x0#32, 0x0#32, 0x0#32, 0x0#32, 0x0#32, 0x0#32, 0xFFFFFFFF#32⟩,
  ⟨.RAFTER_PU_ROCOF, 0x824, [(0x800, 8)], fun _ => 0x0#32, 0x0#32, 0x0#32, 0x0#32, 0x0#32, 0x0#32, 0xFFFFFFFF#32⟩,
  ⟨.RAFTER_PU_TSEC, 0x828, [(0x800, 8)], fun _ => 0x0#32, 0x0#32, 0x0#32, 0x0#32, 0x0#32, 0x0#32, 0xFFFFFFFF#32⟩,
  ⟨.RAFTER_PU_TNS, 0x82C, [(0x800, 8)], fun _ => 0x0#32, 0x0#32, 0x0#32, 0x0#32, 0x0#32, 0x0#32, 0xFFFFFFFF#32⟩,
  ⟨.RAFTER_PU_VPMAG, 0x860, [(0x800, 8)], fun _ => 0x0#32, 0x0#32, 0x0#32, 0x0#32, 0x0#32, 0x0#32, 0xFFFFFFFF#32⟩,
  ⟨.RAFTER_PU_VPANG, 0x864, [(0x800, 8)], fun _ => 0x0#32, 0x0#32, 0x0#32, 0x0#32, 0x0#32, 0x0#32, 0xFFFFFFFF#32⟩,
  ⟨.RAFTER_PU_IPMAG, 0x868, [(0x800, 8)], fun _ => 0x0#32, 0x0#32, 0x0#32, 0x0#32, 0x0#32, 0x0#32, 0xFFFFFFFF#32⟩,
  ⟨.RAFTER_PU_IPANG, 0x86C, [(0x800, 8)], fun _ => 0x0#32, 0x0#32, 0x0#32, 0x0#32, 0x0#32, 0x0#32, 0xFFFFFFFF#32⟩,
  ⟨.RAFTER_PU_VNMAG, 0x870, [(0x800, 8)], fun _ => 0x0#32, 0x0#32, 0x0#32, 0x0#32, 0x0#32, 0x0#32, 0xFFFFFFFF#32⟩,
  ⟨.RAFTER_PU_VSV, 0x874, [(0x800, 8)], fun _ => 0x0#32, 0x0#32, 0x0#32, 0x0#32, 0x0#32, 0x0#32, 0xFFFFFFFF#32⟩,
  ⟨.RAFTER_PU_MAG, 0x830, [(0x800, 8), (0x8, 6)], fun _ => 0x0#32, 0x0#32, 0x0#32, 0x0#32, 0x0#32, 0x0#32, 0xFFFFFFFF#32⟩]

/-- Rows of the RAFTER window, part 2. -/
def rowsRAFTER2 : List RegRow := [
  ⟨.RAFTER_PU_ANG, 0x834, [(0x800, 8), (0x8, 6)], fun _ => 0x0#32, 0x0#32, 0x0#32, 0x0#32, 0x0#32, 0x0#32, 0xFFFFFFFF#32⟩,
  ⟨.RAFTER_PU_ISEPL, 0x880, [(0x800, 8)], fun _ => 0x0#32, 0x0#32, 0x0#32, 0x0#32, 0x0#32, 0xFFFFFFFF#32, 0x0#32⟩,
  ⟨.RAFTER_PU_ISEPH, 0x884, [(0x800, 8)], fun _ => 0x0#32, 0x0#32, 0x0#32, 0x0#32, 0x0#32, 0xFFFF#32, 0x0#32⟩,
  ⟨.RAFTER_PU_ISPER, 0x888, [(0x800, 8)], fun _ => 0x1F4#32, 0x0#32, 0x0#32, 0x0#32, 0x0#32, 0xFFFF#32, 0x0#32⟩,
  ⟨.RAFTER_PU_ISOFF, 0x88C, [(0x800, 8)], fun _ => 0x0#32, 0x0#32, 0x0#32, 0x0#32, 0x0#32, 0x7FFFFFFF#32, 0x0#32⟩,
  ⟨.RAFTER_PU_ISBIAS, 0x890, [(0x800, 8)], fun _ => 0x8000#32, 0x0#32, 0x0#32, 0x0#32, 0x0#32, 0x1FFFF#32, 0x0#32⟩,
  ⟨.RAFTER_PU_ISSIGN, 0x894, [(0x800, 8)], fun _ => 0xAAAAAAAA#32, 0x0#32, 0x0#32, 0x0#32, 0x0#32, 0xFFFFFFFF#32, 0x0#32⟩,
  ⟨.RAFTER_PU_ISCFG, 0x898, [(0x800, 8)], fun _ => 0x200199A#32, 0x0#32, 0x0#32, 0x0#32, 0x0#32, 0xCF00FFFF#32, 0x0#32⟩,
  ⟨.RAFTER_PU_ISSTAT, 0x89C, [(0x800, 8)], fun _ => 0x0#32, 0x0#32, 0x0#32, 0x0#32, 0x0#32, 0x0#32, 0xFFFFF001#32⟩,
  ⟨.RAFTER_PU_ISDF, 0x8A0, [(0x800, 8)], fun _ => 0x0#32, 0x0#32, 0x0#32, 0x0#32, 0x0#32, 0x0#32, 0xFFFFFFFF#32⟩,
  ⟨.RAFTER_PU_HARM0, 0x900, [(0x800, 8), (0x4, 39)], fun _ => 0x0#32, 0x0#32, 0x0#32, 0x0#32, 0x0#32, 0x0#32, 0xFFFFFFFF#32⟩,
  ⟨.RAFTER_PU_TRSS0, 0x9A0, [(0x800, 8)], fun _ => 0x0#32, 0x0#32, 0x0#32, 0x0#32, 0x0#32, 0x0#32, 0xFFFFFFFF#32⟩]

/-- Rows of the RAFTER window, part 3. -/
def rowsRAFTER3 : List RegRow := [
  ⟨.RAFTER_PU_HARM1, 0xA00, [(0x800, 8), (0x4, 39)], fun _ => 0x0#32, 0x0#32, 0x0#32, 0x0#32, 0x0#32, 0x0#32, 0xFFFFFFFF#32⟩,
  ⟨.RAFTER_PU_TRSS1, 0xAA0, [(0x800, 8)], fun _ => 0x0#32, 0x0#32, 0x0#32, 0x0#32, 0x0#32, 0x0#32, 0xFFFFFFFF#32⟩,
  ⟨.RAFTER_PU_HARM2, 0xB00, [(0x800, 8), (0x4, 39)], fun _ => 0x0#32, 0x0#32, 0x0#32, 0x0#32, 0x0#32, 0x0#32, 0xFFFFFFFF#32⟩,
  ⟨.RAFTER_PU_TRSS2, 0xBA0, [(0x800, 8)], fun _ => 0x0#32, 0x0#32, 0x0#32, 0x0#32, 0x0#32, 0x0#32, 0xFFFFFFFF#32⟩]

/-- The RAFTER window. -/
def rowsRAFTER : List RegRow := rowsRAFTER0 ++ rowsRAFTER1 ++ rowsRAFTER2 ++ rowsRAFTER3

/-- Rows of the CFGSET window, part 0. -/
def rowsCFGSET0 : List RegRow := [
  ⟨.CFGSET_CTRL, 0x0, [], fun _ => 0x0#32, 0x0#32, 0x0#32, 0x0#32, 0x3FFFFFF#32, 0x0#32, 0x0#32⟩,
  ⟨.CFGSET_CMD, 0x4, [], fun _ => 0x0#32, 0x0#32, 0x0#32, 0x7#32, 0x0#32, 0x0#32, 0x0#32⟩,
  ⟨.CFGSET_STAT, 0x8, [], fun _ => 0x0#32, 0x0#32, 0x16000000#32, 0x0#32, 0x0#32, 0x0#32, 0xE9FFFFFF#32⟩,
  ⟨.CFGSET_MSEQ, 0xC, [], fun _ => 0x0#32, 0x0#32, 0x0#32, 0x0#32, 0x0#32, 0x0#32, 0xFFFFFFFF#32⟩,
  ⟨.CFGSET_IMG, 0x20, [], fun _ => 0x0#32, 0x1#32, 0x0#32, 0x80000000#32, 0x0#32, 0x0#32, 0x0#32⟩,
  ⟨.CFGSET_IMGSTAT, 0x24, [], fun _ => 0x0#32, 0x0#32, 0x0#32, 0x0#32, 0x0#32, 0x0#32, 0xC0FFFFFF#32⟩,
  ⟨.CFGSET_BANK, 0x28, [], fun _ => 0x0#32, 0x0#32, 0x0#32, 0x0#32, 0x0#32, 0x0#32, 0xFFFF#32⟩]

/-- The CFGSET window. -/
def rowsCFGSET : List RegRow := rowsCFGSET0

/-- Rows of the HOST window, part 0. -/
def rowsHOST0 : List RegRow := [
  ⟨.HOST_CFG, 0x0, [], fun _ => 0x640001#32, 0xFFFF0003#32, 0x0#32, 0x0#32, 0x0#32, 0x0#32, 0x0#32⟩,
  ⟨.HOST_STAT, 0x4, [], fun _ => 0x0#32, 0x0#32, 0x7C#32, 0x0#32, 0x0#32, 0x0#32, 0x80#32⟩,
  ⟨.HOST_EADDR, 0x8, [], fun _ => 0x0#32, 0x0#32, 0x0#32, 0x0#32, 0x0#32, 0x0#32, 0xFFFFFFFF#32⟩,
  ⟨.HOST_HADDR, 0xC, [], fun _ => 0x0#32, 0x0#32, 0x0#32, 0x0#32, 0x0#32, 0x0#32, 0xFFFFFFFF#32⟩,
  ⟨.HOST_DBSET, 0x10, [], fun _ => 0x0#32, 0x0#32, 0x0#32, 0xF#32, 0x0#32, 0x0#32, 0x0#32⟩,
  ⟨.HOST_DBELL, 0x14, [], fun _ => 0x0#32, 0x0#32, 0xF#32, 0x0#32, 0x0#32, 0x0#32, 0x0#32⟩,
  ⟨.HOST_ISUM, 0x40, [(0x4, 11)], fun _ => 0x0#32, 0x0#32, 0x0#32, 0x0#32, 0x0#32, 0x0#32, 0xFFFFFF#32⟩,
  ⟨.HOST_IEN, 0x80, [(0x4, 11)], fun _ => 0x0#32, 0xFFFFFF#32, 0x0#32, 0x0#32, 0x0#32, 0x0#32, 0x0#32⟩]

/-- The HOST window. -/
def rowsHOST : List RegRow := rowsHOST0

/-- Base address of a block (R619). -/
def blockBase : Block → Nat
  | .SYSCTL => 0x40000000
  | .CLK => 0x40010000
  | .TIME => 0x40020000
  | .BATTEN => 0x40030000
  | .GATE => 0x40040000
  | .CMP => 0x40050000
  | .MOD => 0x40060000
  | .HADC => 0x40070000
  | .BOOST => 0x40080000
  | .METER => 0x40090000
  | .SAFE => 0x400A0000
  | .PURLIN => 0x400B0000
  | .ENET => 0x400C0000
  | .RIDGE => 0x400D0000
  | .EAVES => 0x400E0000
  | .THATCH => 0x400F0000
  | .QUEUE => 0x40100000
  | .RAFTER => 0x40110000
  | .CFGSET => 0x40120000
  | .HOST => 0x40130000

/-- The rows of a block. -/
def blockRows : Block → List RegRow
  | .SYSCTL => rowsSYSCTL
  | .CLK => rowsCLK
  | .TIME => rowsTIME
  | .BATTEN => rowsBATTEN
  | .GATE => rowsGATE
  | .CMP => rowsCMP
  | .MOD => rowsMOD
  | .HADC => rowsHADC
  | .BOOST => rowsBOOST
  | .METER => rowsMETER
  | .SAFE => rowsSAFE
  | .PURLIN => rowsPURLIN
  | .ENET => rowsENET
  | .RIDGE => rowsRIDGE
  | .EAVES => rowsEAVES
  | .THATCH => rowsTHATCH
  | .QUEUE => rowsQUEUE
  | .RAFTER => rowsRAFTER
  | .CFGSET => rowsCFGSET
  | .HOST => rowsHOST

/-- The blocks in map order. -/
def blocks : List Block := [.SYSCTL, .CLK, .TIME, .BATTEN, .GATE, .CMP, .MOD, .HADC, .BOOST, .METER, .SAFE, .PURLIN, .ENET, .RIDGE, .EAVES, .THATCH, .QUEUE, .RAFTER, .CFGSET, .HOST]

/-- The block whose 64 KB window holds an address (R619). -/
def blockOf (a : Nat) : Option Block :=
  if a / 0x10000 < 0x4000 then none else blocks[a / 0x10000 - 0x4000]?

/-- Flat index of an offset within a row's strides, none where the offset is not one of the row's registers. -/
def idxOf : List (Nat × Nat) → Nat → Option Nat
  | [], r => if r = 0 then some 0 else none
  | [(st, n)], r => if r % st = 0 ∧ r / st < n then some (r / st) else none
  | (st, n) :: (st2, n2) :: _, r =>
    if r / st < n ∧ r % st % st2 = 0 ∧ r % st / st2 < n2 then some (r / st * n2 + r % st / st2) else none

/-- The first row of a list that holds an offset, with the register's flat index. -/
def findRow : List RegRow → Nat → Option (RegRow × Nat)
  | [], _ => none
  | r :: rs, o =>
    if r.off ≤ o then
      match idxOf r.dims (o - r.off) with
      | some i => some (r, i)
      | none => findRow rs o
    else findRow rs o

/-- The register at an address, with its flat index; none where the map assigns none (R20). -/
def regAt (a : Nat) : Option (RegRow × Nat) :=
  match blockOf a with
  | none => none
  | some b => findRow (blockRows b) (a % 0x10000)

/-- What an address of the register space reads as when nothing has been written: the reset word (R18), 0 where the
map assigns nothing (R20). -/
def resetWord (a : Nat) : Word :=
  match regAt a with
  | some (r, i) => r.reset i
  | none => 0

end Sys2Proof.Machine

namespace Sys2Proof.Machine.R

def SYSCTL_ID : Nat := 0x40000000
def SYSCTL_ID_PART : Ref := ⟨SYSCTL_ID, 31, 16⟩
def SYSCTL_ID_STEP : Ref := ⟨SYSCTL_ID, 15, 8⟩
def SYSCTL_ID_TGRADE : Ref := ⟨SYSCTL_ID, 7, 4⟩
def SYSCTL_ID_PKG : Ref := ⟨SYSCTL_ID, 3, 0⟩
def SYSCTL_RSTCAUSE : Nat := 0x40000004
def SYSCTL_RSTCAUSE_ISL : Ref := ⟨SYSCTL_RSTCAUSE, 19, 16⟩
def SYSCTL_RSTCAUSE_WDT0 : Ref := ⟨SYSCTL_RSTCAUSE, 12, 12⟩
def SYSCTL_RSTCAUSE_WDT1 : Ref := ⟨SYSCTL_RSTCAUSE, 13, 13⟩
def SYSCTL_RSTCAUSE_WDT2 : Ref := ⟨SYSCTL_RSTCAUSE, 14, 14⟩
def SYSCTL_RSTCAUSE_WDT3 : Ref := ⟨SYSCTL_RSTCAUSE, 15, 15⟩
def SYSCTL_RSTCAUSE_BVCORE : Ref := ⟨SYSCTL_RSTCAUSE, 6, 6⟩
def SYSCTL_RSTCAUSE_BVLANE : Ref := ⟨SYSCTL_RSTCAUSE, 7, 7⟩
def SYSCTL_RSTCAUSE_BVLANEIO : Ref := ⟨SYSCTL_RSTCAUSE, 8, 8⟩
def SYSCTL_RSTCAUSE_BVIO18 : Ref := ⟨SYSCTL_RSTCAUSE, 9, 9⟩
def SYSCTL_RSTCAUSE_BVIO33 : Ref := ⟨SYSCTL_RSTCAUSE, 10, 10⟩
def SYSCTL_RSTCAUSE_BVANA : Ref := ⟨SYSCTL_RSTCAUSE, 11, 11⟩
def SYSCTL_RSTCAUSE_LKU : Ref := ⟨SYSCTL_RSTCAUSE, 5, 5⟩
def SYSCTL_RSTCAUSE_CKF : Ref := ⟨SYSCTL_RSTCAUSE, 4, 4⟩
def SYSCTL_RSTCAUSE_MRQ : Ref := ⟨SYSCTL_RSTCAUSE, 3, 3⟩
def SYSCTL_RSTCAUSE_SWR : Ref := ⟨SYSCTL_RSTCAUSE, 2, 2⟩
def SYSCTL_RSTCAUSE_PIN : Ref := ⟨SYSCTL_RSTCAUSE, 1, 1⟩
def SYSCTL_RSTCAUSE_POR : Ref := ⟨SYSCTL_RSTCAUSE, 0, 0⟩
def SYSCTL_RSTCTL : Nat := 0x40000008
def SYSCTL_RSTCTL_KEY : Ref := ⟨SYSCTL_RSTCTL, 31, 16⟩
def SYSCTL_RSTCTL_RKE : Ref := ⟨SYSCTL_RSTCTL, 2, 2⟩
def SYSCTL_RSTCTL_SCOPE : Ref := ⟨SYSCTL_RSTCTL, 1, 0⟩
def SYSCTL_FUSESTAT : Nat := 0x4000000C
def SYSCTL_FUSESTAT_TRIMFAIL : Ref := ⟨SYSCTL_FUSESTAT, 31, 31⟩
def SYSCTL_FUSESTAT_FLD : Ref := ⟨SYSCTL_FUSESTAT, 30, 30⟩
def SYSCTL_FUSESTAT_LOADCNT : Ref := ⟨SYSCTL_FUSESTAT, 29, 28⟩
def SYSCTL_FUSESTAT_RELGAP : Ref := ⟨SYSCTL_FUSESTAT, 15, 0⟩
def SYSCTL_BOOT : Nat := 0x40000010
def SYSCTL_BOOT_DONE : Ref := ⟨SYSCTL_BOOT, 31, 31⟩
def SYSCTL_BOOT_BC : Ref := ⟨SYSCTL_BOOT, 30, 30⟩
def SYSCTL_BOOT_UND : Ref := ⟨SYSCTL_BOOT, 29, 29⟩
def SYSCTL_BOOT_DEF : Ref := ⟨SYSCTL_BOOT, 28, 28⟩
def SYSCTL_BOOT_SLOT : Ref := ⟨SYSCTL_BOOT, 25, 24⟩
def SYSCTL_BOOT_FSC : Ref := ⟨SYSCTL_BOOT, 18, 16⟩
def SYSCTL_BOOT_VERL : Ref := ⟨SYSCTL_BOOT, 15, 0⟩
def SYSCTL_SUPPLY : Nat := 0x40000014
def SYSCTL_SUPPLY_EWC : Ref := ⟨SYSCTL_SUPPLY, 18, 18⟩
def SYSCTL_SUPPLY_EWV : Ref := ⟨SYSCTL_SUPPLY, 17, 17⟩
def SYSCTL_SUPPLY_EW33 : Ref := ⟨SYSCTL_SUPPLY, 16, 16⟩
def SYSCTL_SUPPLY_OK : Ref := ⟨SYSCTL_SUPPLY, 5, 0⟩
def SYSCTL_WDTCFG (n : Nat) : Nat := 0x40000020 + 0x8 * n
def SYSCTL_WDTCFG_EN (n : Nat) : Ref := ⟨SYSCTL_WDTCFG n, 31, 31⟩
def SYSCTL_WDTCFG_TMO (n : Nat) : Ref := ⟨SYSCTL_WDTCFG n, 15, 0⟩
def SYSCTL_WDTKICK (n : Nat) : Nat := 0x40000024 + 0x8 * n
def SYSCTL_WDTKICK_KEY (n : Nat) : Ref := ⟨SYSCTL_WDTKICK n, 31, 0⟩
def SYSCTL_WDT2CFG : Nat := 0x40000030
def SYSCTL_WDT2CFG_EN : Ref := ⟨SYSCTL_WDT2CFG, 31, 24⟩
def SYSCTL_WDT2CFG_WLE : Ref := ⟨SYSCTL_WDT2CFG, 16, 16⟩
def SYSCTL_WDT2CFG_RWTO : Ref := ⟨SYSCTL_WDT2CFG, 15, 0⟩
def SYSCTL_WDT2STAT : Nat := 0x40000034
def SYSCTL_WDT2STAT_EXP : Ref := ⟨SYSCTL_WDT2STAT, 31, 24⟩
def SYSCTL_MRQREQ : Nat := 0x40000040
def SYSCTL_MRQREQ_PURP : Ref := ⟨SYSCTL_MRQREQ, 7, 0⟩
def SYSCTL_MRQCH (n : Nat) : Nat := 0x40000044 + 0x4 * n
def SYSCTL_MRQCH_N (n : Nat) : Ref := ⟨SYSCTL_MRQCH n, 31, 0⟩
def SYSCTL_MRQSTAT : Nat := 0x4000004C
def SYSCTL_MRQSTAT_MRF : Ref := ⟨SYSCTL_MRQSTAT, 2, 2⟩
def SYSCTL_MRQSTAT_ST : Ref := ⟨SYSCTL_MRQSTAT, 1, 0⟩
def SYSCTL_MRQRSP (n : Nat) : Nat := 0x40000050 + 0x4 * n
def SYSCTL_MRQRSP_HMAC (n : Nat) : Ref := ⟨SYSCTL_MRQRSP n, 31, 0⟩
def SYSCTL_PD (n : Nat) : Nat := 0x40000100 + 0x4 * n
def SYSCTL_PD_STATE (n : Nat) : Ref := ⟨SYSCTL_PD n, 31, 29⟩
def SYSCTL_PD_BYP (n : Nat) : Ref := ⟨SYSCTL_PD n, 28, 28⟩
def SYSCTL_PD_CKH (n : Nat) : Ref := ⟨SYSCTL_PD n, 27, 27⟩
def SYSCTL_PD_PWR (n : Nat) : Ref := ⟨SYSCTL_PD n, 26, 26⟩
def SYSCTL_PD_RESTART (n : Nat) : Ref := ⟨SYSCTL_PD n, 25, 25⟩
def SYSCTL_PD_FCNT (n : Nat) : Ref := ⟨SYSCTL_PD n, 15, 8⟩
def SYSCTL_PD_PDE (n : Nat) : Ref := ⟨SYSCTL_PD n, 1, 1⟩
def SYSCTL_PD_RSE (n : Nat) : Ref := ⟨SYSCTL_PD n, 0, 0⟩
def SYSCTL_FUSE (n : Nat) : Nat := 0x40000800 + 0x4 * n
def CLK_SYN_CFG (n : Nat) : Nat := 0x40010000 + 0x40 * n
def CLK_SYN_CFG_EN (n : Nat) : Ref := ⟨CLK_SYN_CFG n, 31, 31⟩
def CLK_SYN_CFG_AUTORES (n : Nat) : Ref := ⟨CLK_SYN_CFG n, 30, 30⟩
def CLK_SYN_CFG_REFSEL (n : Nat) : Ref := ⟨CLK_SYN_CFG n, 29, 29⟩
def CLK_SYN_DIV (n : Nat) : Nat := 0x40010004 + 0x40 * n
def CLK_SYN_DIV_RDIV (n : Nat) : Ref := ⟨CLK_SYN_DIV n, 30, 28⟩
def CLK_SYN_DIV_ODIV (n : Nat) : Ref := ⟨CLK_SYN_DIV n, 25, 20⟩
def CLK_SYN_DIV_N (n : Nat) : Ref := ⟨CLK_SYN_DIV n, 9, 0⟩
def CLK_SYN_FRAC (n : Nat) : Nat := 0x40010008 + 0x40 * n
def CLK_SYN_FRAC_F (n : Nat) : Ref := ⟨CLK_SYN_FRAC n, 23, 0⟩
def CLK_SYN_DITH (n : Nat) : Nat := 0x4001000C + 0x40 * n
def CLK_SYN_DITH_DEN (n : Nat) : Ref := ⟨CLK_SYN_DITH n, 31, 31⟩
def CLK_SYN_DITH_SEED (n : Nat) : Ref := ⟨CLK_SYN_DITH n, 23, 0⟩
def CLK_SYN_CMD (n : Nat) : Nat := 0x40010010 + 0x40 * n
def CLK_SYN_CMD_FBYP (n : Nat) : Ref := ⟨CLK_SYN_CMD n, 2, 2⟩
def CLK_SYN_CMD_RESUME (n : Nat) : Ref := ⟨CLK_SYN_CMD n, 1, 1⟩
def CLK_SYN_CMD_UPD (n : Nat) : Ref := ⟨CLK_SYN_CMD n, 0, 0⟩
def CLK_SYN_STAT (n : Nat) : Nat := 0x40010014 + 0x40 * n
def CLK_SYN_STAT_LOCK (n : Nat) : Ref := ⟨CLK_SYN_STAT n, 31, 31⟩
def CLK_SYN_STAT_STABLE (n : Nat) : Ref := ⟨CLK_SYN_STAT n, 30, 30⟩
def CLK_SYN_STAT_BYP (n : Nat) : Ref := ⟨CLK_SYN_STAT n, 29, 29⟩
def CLK_SYN_STAT_UPDP (n : Nat) : Ref := ⟨CLK_SYN_STAT n, 28, 28⟩
def CLK_SYN_STAT_FBH (n : Nat) : Ref := ⟨CLK_SYN_STAT n, 27, 27⟩
def CLK_SYN_STAT_BYPCNT (n : Nat) : Ref := ⟨CLK_SYN_STAT n, 23, 16⟩
def CLK_SYN_STAT_TMO (n : Nat) : Ref := ⟨CLK_SYN_STAT n, 4, 4⟩
def CLK_SYN_STAT_CFE (n : Nat) : Ref := ⟨CLK_SYN_STAT n, 3, 3⟩
def CLK_SYN_STAT_LOL (n : Nat) : Ref := ⟨CLK_SYN_STAT n, 2, 2⟩
def CLK_SYN_STAT_LOR (n : Nat) : Ref := ⟨CLK_SYN_STAT n, 1, 1⟩
def CLK_SYN_ADIV (n : Nat) : Nat := 0x40010018 + 0x40 * n
def CLK_SYN_ADIV_ADIV (n : Nat) : Ref := ⟨CLK_SYN_ADIV n, 31, 0⟩
def CLK_REF : Nat := 0x40010100
def CLK_REF_MEAS : Ref := ⟨CLK_REF, 31, 16⟩
def CLK_REF_NOM : Ref := ⟨CLK_REF, 15, 0⟩
def CLK_BYP : Nat := 0x40010104
def CLK_BYP_MEAS : Ref := ⟨CLK_BYP, 31, 16⟩
def CLK_BYP_VLD : Ref := ⟨CLK_BYP, 0, 0⟩
def CLK_ISL : Nat := 0x40010108
def CLK_ISL_ONBYP : Ref := ⟨CLK_ISL, 12, 0⟩
def TIME_CTRL : Nat := 0x40020000
def TIME_CTRL_SYNC : Ref := ⟨TIME_CTRL, 31, 31⟩
def TIME_CTRL_UNACQ : Ref := ⟨TIME_CTRL, 30, 30⟩
def TIME_CTRL_STEP : Ref := ⟨TIME_CTRL, 29, 29⟩
def TIME_CTRL_HOLD : Ref := ⟨TIME_CTRL, 15, 0⟩
def TIME_STAT : Nat := 0x40020004
def TIME_STAT_TSTATE : Ref := ⟨TIME_STAT, 31, 31⟩
def TIME_STAT_TSYN : Ref := ⟨TIME_STAT, 30, 30⟩
def TIME_STAT_BYPT : Ref := ⟨TIME_STAT, 29, 29⟩
def TIME_STAT_STEPCNT : Ref := ⟨TIME_STAT, 25, 24⟩
def TIME_STAT_ADJL : Ref := ⟨TIME_STAT, 4, 4⟩
def TIME_STAT_STR : Ref := ⟨TIME_STAT, 3, 3⟩
def TIME_STAT_SYNL : Ref := ⟨TIME_STAT, 2, 2⟩
def TIME_STAT_STPD : Ref := ⟨TIME_STAT, 1, 1⟩
def TIME_ADJ : Nat := 0x40020008
def TIME_ADJ_ADJ : Ref := ⟨TIME_ADJ, 31, 0⟩
def TIME_STEPL : Nat := 0x4002000C
def TIME_STEPL_OFS : Ref := ⟨TIME_STEPL, 31, 0⟩
def TIME_STEPH : Nat := 0x40020010
def TIME_STEPH_OFS : Ref := ⟨TIME_STEPH, 31, 0⟩
def TIME_NOW_NS : Nat := 0x40020020
def TIME_NOW_NS_NS : Ref := ⟨TIME_NOW_NS, 31, 0⟩
def TIME_NOW_SECL : Nat := 0x40020024
def TIME_NOW_SECL_SEC : Ref := ⟨TIME_NOW_SECL, 31, 0⟩
def TIME_NOW_SECH : Nat := 0x40020028
def TIME_NOW_SECH_FNS : Ref := ⟨TIME_NOW_SECH, 31, 16⟩
def TIME_NOW_SECH_SEC : Ref := ⟨TIME_NOW_SECH, 15, 0⟩
def TIME_NOW_LST : Nat := 0x4002002C
def TIME_NOW_LST_LST : Ref := ⟨TIME_NOW_LST, 31, 0⟩
def TIME_PT_INC (n : Nat) : Nat := 0x40020040 + 0x8 * n
def TIME_PT_INC_CORR (n : Nat) : Ref := ⟨TIME_PT_INC n, 23, 0⟩
def TIME_PT_EGC (n : Nat) : Nat := 0x40020044 + 0x8 * n
def TIME_PT_EGC_CORR (n : Nat) : Ref := ⟨TIME_PT_EGC n, 23, 0⟩
def BATTEN_CH_CTRL (n : Nat) : Nat := 0x40030000 + 0x80 * n
def BATTEN_CH_CTRL_SYNCCH (n : Nat) : Ref := ⟨BATTEN_CH_CTRL n, 31, 24⟩
def BATTEN_CH_CTRL_SYNCSRC (n : Nat) : Ref := ⟨BATTEN_CH_CTRL n, 23, 22⟩
def BATTEN_CH_CTRL_PRESC (n : Nat) : Ref := ⟨BATTEN_CH_CTRL n, 21, 20⟩
def BATTEN_CH_CTRL_MODE (n : Nat) : Ref := ⟨BATTEN_CH_CTRL n, 19, 18⟩
def BATTEN_CH_CTRL_POL (n : Nat) : Ref := ⟨BATTEN_CH_CTRL n, 17, 17⟩
def BATTEN_CH_CTRL_EN (n : Nat) : Ref := ⟨BATTEN_CH_CTRL n, 0, 0⟩
def BATTEN_CH_STAT (n : Nat) : Nat := 0x40030004 + 0x80 * n
def BATTEN_CH_STAT_STATE (n : Nat) : Ref := ⟨BATTEN_CH_STAT n, 20, 18⟩
def BATTEN_CH_STAT_INH (n : Nat) : Ref := ⟨BATTEN_CH_STAT n, 17, 17⟩
def BATTEN_CH_STAT_SLK (n : Nat) : Ref := ⟨BATTEN_CH_STAT n, 16, 16⟩
def BATTEN_CH_STAT_ENR (n : Nat) : Ref := ⟨BATTEN_CH_STAT n, 11, 11⟩
def BATTEN_CH_STAT_SLOST (n : Nat) : Ref := ⟨BATTEN_CH_STAT n, 10, 10⟩
def BATTEN_CH_STAT_PRL (n : Nat) : Ref := ⟨BATTEN_CH_STAT n, 9, 9⟩
def BATTEN_CH_STAT_CTMAX (n : Nat) : Ref := ⟨BATTEN_CH_STAT n, 8, 8⟩
def BATTEN_CH_STAT_MPS (n : Nat) : Ref := ⟨BATTEN_CH_STAT n, 7, 7⟩
def BATTEN_CH_STAT_DTC (n : Nat) : Ref := ⟨BATTEN_CH_STAT n, 6, 6⟩
def BATTEN_CH_STAT_BND (n : Nat) : Ref := ⟨BATTEN_CH_STAT n, 5, 5⟩
def BATTEN_CH_STAT_PDX (n : Nat) : Ref := ⟨BATTEN_CH_STAT n, 4, 4⟩
def BATTEN_CH_STAT_WLE (n : Nat) : Ref := ⟨BATTEN_CH_STAT n, 3, 3⟩
def BATTEN_CH_PERIOD (n : Nat) : Nat := 0x40030008 + 0x80 * n
def BATTEN_CH_PERIOD_COARSE (n : Nat) : Ref := ⟨BATTEN_CH_PERIOD n, 21, 6⟩
def BATTEN_CH_PERIOD_FINE (n : Nat) : Ref := ⟨BATTEN_CH_PERIOD n, 5, 0⟩
def BATTEN_CH_DUTY (n : Nat) : Nat := 0x4003000C + 0x80 * n
def BATTEN_CH_DUTY_COARSE (n : Nat) : Ref := ⟨BATTEN_CH_DUTY n, 21, 6⟩
def BATTEN_CH_DUTY_FINE (n : Nat) : Ref := ⟨BATTEN_CH_DUTY n, 5, 0⟩
def BATTEN_CH_PHASE (n : Nat) : Nat := 0x40030010 + 0x80 * n
def BATTEN_CH_PHASE_COARSE (n : Nat) : Ref := ⟨BATTEN_CH_PHASE n, 21, 6⟩
def BATTEN_CH_PHASE_FINE (n : Nat) : Ref := ⟨BATTEN_CH_PHASE n, 5, 0⟩
def BATTEN_CH_SAMPLE (n : Nat) : Nat := 0x40030014 + 0x80 * n
def BATTEN_CH_SAMPLE_COARSE (n : Nat) : Ref := ⟨BATTEN_CH_SAMPLE n, 21, 6⟩
def BATTEN_CH_SAMPLE_FINE (n : Nat) : Ref := ⟨BATTEN_CH_SAMPLE n, 5, 0⟩
def BATTEN_CH_DTR (n : Nat) : Nat := 0x40030018 + 0x80 * n
def BATTEN_CH_DTR_TICKS (n : Nat) : Ref := ⟨BATTEN_CH_DTR n, 17, 6⟩
def BATTEN_CH_DTR_FINE (n : Nat) : Ref := ⟨BATTEN_CH_DTR n, 5, 0⟩
def BATTEN_CH_DTF (n : Nat) : Nat := 0x4003001C + 0x80 * n
def BATTEN_CH_DTF_TICKS (n : Nat) : Ref := ⟨BATTEN_CH_DTF n, 17, 6⟩
def BATTEN_CH_DTF_FINE (n : Nat) : Ref := ⟨BATTEN_CH_DTF n, 5, 0⟩
def BATTEN_CH_BLANK (n : Nat) : Nat := 0x40030020 + 0x80 * n
def BATTEN_CH_BLANK_BLU (n : Nat) : Ref := ⟨BATTEN_CH_BLANK n, 17, 17⟩
def BATTEN_CH_BLANK_BLL (n : Nat) : Ref := ⟨BATTEN_CH_BLANK n, 16, 16⟩
def BATTEN_CH_BLANK_LEN (n : Nat) : Ref := ⟨BATTEN_CH_BLANK n, 15, 0⟩
def BATTEN_CH_MINPW (n : Nat) : Nat := 0x40030024 + 0x80 * n
def BATTEN_CH_MINPW_MINPW (n : Nat) : Ref := ⟨BATTEN_CH_MINPW n, 11, 0⟩
def BATTEN_CH_SYNC (n : Nat) : Nat := 0x40030028 + 0x80 * n
def BATTEN_CH_SYNC_SYNCLIM (n : Nat) : Ref := ⟨BATTEN_CH_SYNC n, 31, 16⟩
def BATTEN_CH_EPOCH (n : Nat) : Nat := 0x4003002C + 0x80 * n
def BATTEN_CH_EPOCH_CORE (n : Nat) : Ref := ⟨BATTEN_CH_EPOCH n, 31, 29⟩
def BATTEN_CH_EPOCH_SEQ (n : Nat) : Ref := ⟨BATTEN_CH_EPOCH n, 28, 16⟩
def BATTEN_CH_EPOCH_PAIR (n : Nat) : Ref := ⟨BATTEN_CH_EPOCH n, 3, 3⟩
def BATTEN_CH_EPOCH_PEND (n : Nat) : Ref := ⟨BATTEN_CH_EPOCH n, 2, 0⟩
def BATTEN_CH_COUNT (n : Nat) : Nat := 0x40030030 + 0x80 * n
def BATTEN_CH_COUNT_PCNT (n : Nat) : Ref := ⟨BATTEN_CH_COUNT n, 31, 16⟩
def BATTEN_CH_COUNT_POS (n : Nat) : Ref := ⟨BATTEN_CH_COUNT n, 15, 0⟩
def BATTEN_RL_CTRL (n : Nat) : Nat := 0x40032000 + 0x40 * n
def BATTEN_RL_CTRL_MASTER (n : Nat) : Ref := ⟨BATTEN_RL_CTRL n, 31, 24⟩
def BATTEN_RL_CTRL_MODE (n : Nat) : Ref := ⟨BATTEN_RL_CTRL n, 19, 18⟩
def BATTEN_RL_CTRL_POL (n : Nat) : Ref := ⟨BATTEN_RL_CTRL n, 17, 17⟩
def BATTEN_RL_CTRL_EN (n : Nat) : Ref := ⟨BATTEN_RL_CTRL n, 0, 0⟩
def BATTEN_RL_STAT (n : Nat) : Nat := 0x40032004 + 0x40 * n
def BATTEN_RL_STAT_STATE (n : Nat) : Ref := ⟨BATTEN_RL_STAT n, 20, 18⟩
def BATTEN_RL_STAT_INH (n : Nat) : Ref := ⟨BATTEN_RL_STAT n, 17, 17⟩
def BATTEN_RL_STAT_ENR (n : Nat) : Ref := ⟨BATTEN_RL_STAT n, 11, 11⟩
def BATTEN_RL_STAT_LDE (n : Nat) : Ref := ⟨BATTEN_RL_STAT n, 10, 10⟩
def BATTEN_RL_STAT_MPS (n : Nat) : Ref := ⟨BATTEN_RL_STAT n, 7, 7⟩
def BATTEN_RL_STAT_DTC (n : Nat) : Ref := ⟨BATTEN_RL_STAT n, 6, 6⟩
def BATTEN_RL_STAT_BND (n : Nat) : Ref := ⟨BATTEN_RL_STAT n, 5, 5⟩
def BATTEN_RL_STAT_WLE (n : Nat) : Ref := ⟨BATTEN_RL_STAT n, 3, 3⟩
def BATTEN_RL_PERIOD (n : Nat) : Nat := 0x40032008 + 0x40 * n
def BATTEN_RL_PERIOD_COARSE (n : Nat) : Ref := ⟨BATTEN_RL_PERIOD n, 21, 6⟩
def BATTEN_RL_PERIOD_FINE (n : Nat) : Ref := ⟨BATTEN_RL_PERIOD n, 5, 0⟩
def BATTEN_RL_DUTY (n : Nat) : Nat := 0x4003200C + 0x40 * n
def BATTEN_RL_DUTY_COARSE (n : Nat) : Ref := ⟨BATTEN_RL_DUTY n, 21, 6⟩
def BATTEN_RL_DUTY_FINE (n : Nat) : Ref := ⟨BATTEN_RL_DUTY n, 5, 0⟩
def BATTEN_RL_PHASE (n : Nat) : Nat := 0x40032010 + 0x40 * n
def BATTEN_RL_PHASE_COARSE (n : Nat) : Ref := ⟨BATTEN_RL_PHASE n, 21, 6⟩
def BATTEN_RL_PHASE_FINE (n : Nat) : Ref := ⟨BATTEN_RL_PHASE n, 5, 0⟩
def BATTEN_RL_SAMPLE (n : Nat) : Nat := 0x40032014 + 0x40 * n
def BATTEN_RL_SAMPLE_COARSE (n : Nat) : Ref := ⟨BATTEN_RL_SAMPLE n, 21, 6⟩
def BATTEN_RL_SAMPLE_FINE (n : Nat) : Ref := ⟨BATTEN_RL_SAMPLE n, 5, 0⟩
def BATTEN_RL_UP_ON (n : Nat) : Nat := 0x40032024 + 0x40 * n
def BATTEN_RL_UP_ON_COARSE (n : Nat) : Ref := ⟨BATTEN_RL_UP_ON n, 21, 6⟩
def BATTEN_RL_UP_ON_FINE (n : Nat) : Ref := ⟨BATTEN_RL_UP_ON n, 5, 0⟩
def BATTEN_RL_UP_OFF (n : Nat) : Nat := 0x40032028 + 0x40 * n
def BATTEN_RL_UP_OFF_COARSE (n : Nat) : Ref := ⟨BATTEN_RL_UP_OFF n, 21, 6⟩
def BATTEN_RL_UP_OFF_FINE (n : Nat) : Ref := ⟨BATTEN_RL_UP_OFF n, 5, 0⟩
def BATTEN_RL_LO_ON (n : Nat) : Nat := 0x4003202C + 0x40 * n
def BATTEN_RL_LO_ON_COARSE (n : Nat) : Ref := ⟨BATTEN_RL_LO_ON n, 21, 6⟩
def BATTEN_RL_LO_ON_FINE (n : Nat) : Ref := ⟨BATTEN_RL_LO_ON n, 5, 0⟩
def BATTEN_RL_LO_OFF (n : Nat) : Nat := 0x40032030 + 0x40 * n
def BATTEN_RL_LO_OFF_COARSE (n : Nat) : Ref := ⟨BATTEN_RL_LO_OFF n, 21, 6⟩
def BATTEN_RL_LO_OFF_FINE (n : Nat) : Ref := ⟨BATTEN_RL_LO_OFF n, 5, 0⟩
def BATTEN_RL_DTR (n : Nat) : Nat := 0x40032018 + 0x40 * n
def BATTEN_RL_DTR_TICKS (n : Nat) : Ref := ⟨BATTEN_RL_DTR n, 17, 6⟩
def BATTEN_RL_DTR_FINE (n : Nat) : Ref := ⟨BATTEN_RL_DTR n, 5, 0⟩
def BATTEN_RL_DTF (n : Nat) : Nat := 0x4003201C + 0x40 * n
def BATTEN_RL_DTF_TICKS (n : Nat) : Ref := ⟨BATTEN_RL_DTF n, 17, 6⟩
def BATTEN_RL_DTF_FINE (n : Nat) : Ref := ⟨BATTEN_RL_DTF n, 5, 0⟩
def BATTEN_RL_MINPW (n : Nat) : Nat := 0x40032020 + 0x40 * n
def BATTEN_RL_MINPW_MINPW (n : Nat) : Ref := ⟨BATTEN_RL_MINPW n, 11, 0⟩
def BATTEN_RL_EPOCH (n : Nat) : Nat := 0x40032034 + 0x40 * n
def BATTEN_RL_EPOCH_CORE (n : Nat) : Ref := ⟨BATTEN_RL_EPOCH n, 31, 29⟩
def BATTEN_RL_EPOCH_SEQ (n : Nat) : Ref := ⟨BATTEN_RL_EPOCH n, 28, 16⟩
def BATTEN_RL_EPOCH_PAIR (n : Nat) : Ref := ⟨BATTEN_RL_EPOCH n, 3, 3⟩
def BATTEN_RL_EPOCH_PEND (n : Nat) : Ref := ⟨BATTEN_RL_EPOCH n, 2, 0⟩
def BATTEN_CFG : Nat := 0x40038000
def BATTEN_CFG_BGCAL : Ref := ⟨BATTEN_CFG, 0, 0⟩
def BATTEN_CAL : Nat := 0x40038004
def BATTEN_CAL_CALDONE : Ref := ⟨BATTEN_CAL, 31, 31⟩
def BATTEN_CAL_DLF : Ref := ⟨BATTEN_CAL, 30, 30⟩
def BATTEN_CAL_DLFE : Ref := ⟨BATTEN_CAL, 29, 29⟩
def BATTEN_CAL_TAPS : Ref := ⟨BATTEN_CAL, 6, 0⟩
def BATTEN_DISALL : Nat := 0x40038008
def BATTEN_DISALL_GO : Ref := ⟨BATTEN_DISALL, 0, 0⟩
def BATTEN_RSYNC : Nat := 0x4003800C
def BATTEN_RSYNC_OEN : Ref := ⟨BATTEN_RSYNC, 31, 31⟩
def BATTEN_RSYNC_CH : Ref := ⟨BATTEN_RSYNC, 23, 16⟩
def BATTEN_RSYNC_DIV : Ref := ⟨BATTEN_RSYNC, 3, 0⟩
def BATTEN_LEAD (n : Nat) : Nat := 0x40038100 + 0x4 * n
def BATTEN_LEAD_WLE (n : Nat) : Ref := ⟨BATTEN_LEAD n, 16, 16⟩
def BATTEN_LEAD_LEAD (n : Nat) : Ref := ⟨BATTEN_LEAD n, 15, 0⟩
def GATE_LEG_CFG (n : Nat) : Nat := 0x40040000 + 0x40 * n
def GATE_LEG_CFG_HTH (n : Nat) : Ref := ⟨GATE_LEG_CFG n, 31, 24⟩
def GATE_LEG_CFG_SOFTEN (n : Nat) : Ref := ⟨GATE_LEG_CFG n, 19, 19⟩
def GATE_LEG_CFG_TCLR (n : Nat) : Ref := ⟨GATE_LEG_CFG n, 18, 18⟩
def GATE_LEG_CFG_CBCMAX (n : Nat) : Ref := ⟨GATE_LEG_CFG n, 17, 12⟩
def GATE_LEG_CFG_TSWMAX (n : Nat) : Ref := ⟨GATE_LEG_CFG n, 11, 0⟩
def GATE_LEG_STAT (n : Nat) : Nat := 0x40040004 + 0x40 * n
def GATE_LEG_STAT_RES (n : Nat) : Ref := ⟨GATE_LEG_STAT n, 31, 28⟩
def GATE_LEG_STAT_CODE (n : Nat) : Ref := ⟨GATE_LEG_STAT n, 27, 24⟩
def GATE_LEG_STAT_SENT (n : Nat) : Ref := ⟨GATE_LEG_STAT n, 23, 20⟩
def GATE_LEG_STAT_PSTATE (n : Nat) : Ref := ⟨GATE_LEG_STAT n, 19, 18⟩
def GATE_LEG_STAT_ACKPEND (n : Nat) : Ref := ⟨GATE_LEG_STAT n, 17, 17⟩
def GATE_LEG_STAT_SV (n : Nat) : Ref := ⟨GATE_LEG_STAT n, 16, 16⟩
def GATE_LEG_STAT_GSD (n : Nat) : Ref := ⟨GATE_LEG_STAT n, 15, 15⟩
def GATE_LEG_STAT_HTRIP (n : Nat) : Ref := ⟨GATE_LEG_STAT n, 14, 14⟩
def GATE_LEG_STAT_NTRIP (n : Nat) : Ref := ⟨GATE_LEG_STAT n, 13, 13⟩
def GATE_LEG_STAT_STRE (n : Nat) : Ref := ⟨GATE_LEG_STAT n, 12, 12⟩
def GATE_LEG_STAT_CBCL (n : Nat) : Ref := ⟨GATE_LEG_STAT n, 9, 9⟩
def GATE_LEG_STAT_NAKF (n : Nat) : Ref := ⟨GATE_LEG_STAT n, 8, 8⟩
def GATE_LEG_STAT_NOEDGE (n : Nat) : Ref := ⟨GATE_LEG_STAT n, 7, 7⟩
def GATE_LEG_STAT_STE (n : Nat) : Ref := ⟨GATE_LEG_STAT n, 6, 6⟩
def GATE_LEG_STAT_STR (n : Nat) : Ref := ⟨GATE_LEG_STAT n, 5, 5⟩
def GATE_LEG_STAT_STD (n : Nat) : Ref := ⟨GATE_LEG_STAT n, 4, 4⟩
def GATE_LEG_STAT_WLE (n : Nat) : Ref := ⟨GATE_LEG_STAT n, 3, 3⟩
def GATE_LEG_CMD (n : Nat) : Nat := 0x40040008 + 0x40 * n
def GATE_LEG_CMD_STSEL (n : Nat) : Ref := ⟨GATE_LEG_CMD n, 2, 1⟩
def GATE_LEG_CMD_RE (n : Nat) : Ref := ⟨GATE_LEG_CMD n, 0, 0⟩
def GATE_LEG_STR (n : Nat) : Nat := 0x4004000C + 0x40 * n
def GATE_LEG_STR_LOOPEN (n : Nat) : Ref := ⟨GATE_LEG_STR n, 31, 31⟩
def GATE_LEG_STR_FIXCODE (n : Nat) : Ref := ⟨GATE_LEG_STR n, 30, 27⟩
def GATE_LEG_STR_CODEMAX (n : Nat) : Ref := ⟨GATE_LEG_STR n, 26, 23⟩
def GATE_LEG_STR_CODEMIN (n : Nat) : Ref := ⟨GATE_LEG_STR n, 22, 19⟩
def GATE_LEG_STR_BAND (n : Nat) : Ref := ⟨GATE_LEG_STR n, 18, 12⟩
def GATE_LEG_STR_TGT (n : Nat) : Ref := ⟨GATE_LEG_STR n, 11, 0⟩
def GATE_LEG_SWT (n : Nat) : Nat := 0x40040010 + 0x40 * n
def GATE_LEG_SWT_VU (n : Nat) : Ref := ⟨GATE_LEG_SWT n, 31, 31⟩
def GATE_LEG_SWT_NATU (n : Nat) : Ref := ⟨GATE_LEG_SWT n, 30, 30⟩
def GATE_LEG_SWT_SWU (n : Nat) : Ref := ⟨GATE_LEG_SWT n, 27, 16⟩
def GATE_LEG_SWT_VD (n : Nat) : Ref := ⟨GATE_LEG_SWT n, 15, 15⟩
def GATE_LEG_SWT_NATD (n : Nat) : Ref := ⟨GATE_LEG_SWT n, 14, 14⟩
def GATE_LEG_SWT_SWD (n : Nat) : Ref := ⟨GATE_LEG_SWT n, 11, 0⟩
def GATE_LEG_TSTAMP (n : Nat) : Nat := 0x40040014 + 0x40 * n
def GATE_LEG_TSTAMP_STAMP (n : Nat) : Ref := ⟨GATE_LEG_TSTAMP n, 31, 0⟩
def GATE_LEG_STRES (n : Nat) : Nat := 0x40040018 + 0x40 * n
def GATE_LEG_STRES_UPC (n : Nat) : Ref := ⟨GATE_LEG_STRES n, 25, 16⟩
def GATE_LEG_STRES_DNC (n : Nat) : Ref := ⟨GATE_LEG_STRES n, 9, 0⟩
def GATE_SL_CFG (n : Nat) : Nat := 0x40041000 + 0x10 * n
def GATE_SL_CFG_EN (n : Nat) : Ref := ⟨GATE_SL_CFG n, 31, 31⟩
def GATE_SL_CFG_ACKDLY (n : Nat) : Ref := ⟨GATE_SL_CFG n, 30, 25⟩
def GATE_SL_CFG_SLCH (n : Nat) : Ref := ⟨GATE_SL_CFG n, 21, 16⟩
def GATE_SL_CFG_SLOFF (n : Nat) : Ref := ⟨GATE_SL_CFG n, 15, 8⟩
def GATE_SL_CFG_NAKMAX (n : Nat) : Ref := ⟨GATE_SL_CFG n, 7, 4⟩
def GATE_SL_CFG_NAKACT (n : Nat) : Ref := ⟨GATE_SL_CFG n, 1, 0⟩
def GATE_SL_SOFT (n : Nat) : Nat := 0x40041004 + 0x10 * n
def GATE_SL_SOFT_SOFTHOLD (n : Nat) : Ref := ⟨GATE_SL_SOFT n, 31, 16⟩
def GATE_SL_SOFT_SOFTDLY (n : Nat) : Ref := ⟨GATE_SL_SOFT n, 7, 0⟩
def GATE_SL_STAT (n : Nat) : Nat := 0x40041008 + 0x10 * n
def GATE_SL_STAT_SKIP (n : Nat) : Ref := ⟨GATE_SL_STAT n, 18, 18⟩
def GATE_SL_STAT_URG (n : Nat) : Ref := ⟨GATE_SL_STAT n, 17, 17⟩
def GATE_SL_STAT_WLE (n : Nat) : Ref := ⟨GATE_SL_STAT n, 16, 16⟩
def GATE_SL_STAT_NAK (n : Nat) : Ref := ⟨GATE_SL_STAT n, 15, 8⟩
def GATE_SL_STAT_ACK (n : Nat) : Ref := ⟨GATE_SL_STAT n, 7, 0⟩
def GATE_GRP_LO (n : Nat) : Nat := 0x40041100 + 0x10 * n
def GATE_GRP_LO_MASK (n : Nat) : Ref := ⟨GATE_GRP_LO n, 31, 0⟩
def GATE_GRP_HI (n : Nat) : Nat := 0x40041104 + 0x10 * n
def GATE_GRP_HI_RE (n : Nat) : Ref := ⟨GATE_GRP_HI n, 18, 18⟩
def GATE_GRP_HI_TRG (n : Nat) : Ref := ⟨GATE_GRP_HI n, 17, 17⟩
def GATE_GRP_HI_EN (n : Nat) : Ref := ⟨GATE_GRP_HI n, 16, 16⟩
def GATE_GRP_HI_MASK (n : Nat) : Ref := ⟨GATE_GRP_HI n, 15, 0⟩
def GATE_GRP_STAT (n : Nat) : Nat := 0x40041108 + 0x10 * n
def GATE_GRP_STAT_WLE (n : Nat) : Ref := ⟨GATE_GRP_STAT n, 2, 2⟩
def GATE_GRP_STAT_GEV (n : Nat) : Ref := ⟨GATE_GRP_STAT n, 1, 1⟩
def GATE_GRP_STAT_GSD (n : Nat) : Ref := ⟨GATE_GRP_STAT n, 0, 0⟩
def GATE_RLILK (n : Nat) : Nat := 0x40041200 + 0x4 * n
def GATE_RLILK_ILK (n : Nat) : Ref := ⟨GATE_RLILK n, 31, 0⟩
def GATE_ILKGAP (n : Nat) : Nat := 0x40041240 + 0x4 * n
def GATE_ILKGAP_WLE (n : Nat) : Ref := ⟨GATE_ILKGAP n, 31, 31⟩
def GATE_ILKGAP_TICKS (n : Nat) : Ref := ⟨GATE_ILKGAP n, 17, 6⟩
def GATE_ILKGAP_FINE (n : Nat) : Ref := ⟨GATE_ILKGAP n, 5, 0⟩
def GATE_RL_STR (n : Nat) : Nat := 0x40041400 + 0x4 * n
def GATE_RL_STR_LOOPEN (n : Nat) : Ref := ⟨GATE_RL_STR n, 31, 31⟩
def GATE_RL_STR_FIXCODE (n : Nat) : Ref := ⟨GATE_RL_STR n, 30, 27⟩
def GATE_RL_STR_CODEMAX (n : Nat) : Ref := ⟨GATE_RL_STR n, 26, 23⟩
def GATE_RL_STR_CODEMIN (n : Nat) : Ref := ⟨GATE_RL_STR n, 22, 19⟩
def GATE_RL_STR_BAND (n : Nat) : Ref := ⟨GATE_RL_STR n, 18, 12⟩
def GATE_RL_STR_TGT (n : Nat) : Ref := ⟨GATE_RL_STR n, 11, 0⟩
def GATE_WIN_ST (n : Nat) : Nat := 0x40041700 + 0x4 * n
def GATE_WIN_ST_GO (n : Nat) : Ref := ⟨GATE_WIN_ST n, 31, 31⟩
def GATE_WIN_ST_SEL (n : Nat) : Ref := ⟨GATE_WIN_ST n, 30, 30⟩
def GATE_WIN_ST_STE (n : Nat) : Ref := ⟨GATE_WIN_ST n, 29, 29⟩
def GATE_WIN_ST_STD (n : Nat) : Ref := ⟨GATE_WIN_ST n, 28, 28⟩
def GATE_WIN_ST_STR (n : Nat) : Ref := ⟨GATE_WIN_ST n, 27, 27⟩
def GATE_WIN_ST_UPC (n : Nat) : Ref := ⟨GATE_WIN_ST n, 25, 16⟩
def GATE_WIN_ST_DNC (n : Nat) : Ref := ⟨GATE_WIN_ST n, 9, 0⟩
def CMP_CFG (n : Nat) : Nat := 0x40050000 + 0x10 * n
def CMP_CFG_EN (n : Nat) : Ref := ⟨CMP_CFG n, 31, 31⟩
def CMP_CFG_MODE (n : Nat) : Ref := ⟨CMP_CFG n, 30, 29⟩
def CMP_CFG_HYS (n : Nat) : Ref := ⟨CMP_CFG n, 28, 27⟩
def CMP_CFG_RAMPEN (n : Nat) : Ref := ⟨CMP_CFG n, 26, 26⟩
def CMP_CFG_RCH (n : Nat) : Ref := ⟨CMP_CFG n, 23, 18⟩
def CMP_DAC (n : Nat) : Nat := 0x40050004 + 0x10 * n
def CMP_DAC_ACT (n : Nat) : Ref := ⟨CMP_DAC n, 25, 16⟩
def CMP_DAC_CODE (n : Nat) : Ref := ⟨CMP_DAC n, 9, 0⟩
def CMP_RAMP (n : Nat) : Nat := 0x40050008 + 0x10 * n
def CMP_RAMP_SLOPE (n : Nat) : Ref := ⟨CMP_RAMP n, 27, 16⟩
def CMP_RAMP_FLOOR (n : Nat) : Ref := ⟨CMP_RAMP n, 9, 0⟩
def CMP_STAT (n : Nat) : Nat := 0x4005000C + 0x10 * n
def CMP_STAT_RMP (n : Nat) : Ref := ⟨CMP_STAT n, 8, 8⟩
def CMP_STAT_UNRES (n : Nat) : Ref := ⟨CMP_STAT n, 7, 7⟩
def CMP_STAT_OUT (n : Nat) : Ref := ⟨CMP_STAT n, 6, 6⟩
def CMP_STAT_HUNR (n : Nat) : Ref := ⟨CMP_STAT n, 5, 5⟩
def CMP_STAT_HOUT (n : Nat) : Ref := ⟨CMP_STAT n, 4, 4⟩
def CMP_STAT_WLE (n : Nat) : Ref := ⟨CMP_STAT n, 3, 3⟩
def CMP_STAT_BND (n : Nat) : Ref := ⟨CMP_STAT n, 2, 2⟩
def CMP_STAT_LAT (n : Nat) : Ref := ⟨CMP_STAT n, 1, 1⟩
def CMP_WIN_CFG (n : Nat) : Nat := 0x40050800 + 0x20 * n
def CMP_WIN_CFG_EN (n : Nat) : Ref := ⟨CMP_WIN_CFG n, 31, 31⟩
def CMP_WIN_CFG_MODE (n : Nat) : Ref := ⟨CMP_WIN_CFG n, 30, 29⟩
def CMP_WIN_CFG_HYS (n : Nat) : Ref := ⟨CMP_WIN_CFG n, 28, 27⟩
def CMP_WIN_CFG_WMODE (n : Nat) : Ref := ⟨CMP_WIN_CFG n, 26, 26⟩
def CMP_WIN_LDAC (n : Nat) : Nat := 0x40050804 + 0x20 * n
def CMP_WIN_LDAC_ACT (n : Nat) : Ref := ⟨CMP_WIN_LDAC n, 25, 16⟩
def CMP_WIN_LDAC_CODE (n : Nat) : Ref := ⟨CMP_WIN_LDAC n, 9, 0⟩
def CMP_WIN_UDAC (n : Nat) : Nat := 0x40050808 + 0x20 * n
def CMP_WIN_UDAC_ACT (n : Nat) : Ref := ⟨CMP_WIN_UDAC n, 25, 16⟩
def CMP_WIN_UDAC_CODE (n : Nat) : Ref := ⟨CMP_WIN_UDAC n, 9, 0⟩
def CMP_WIN_QUAL (n : Nat) : Nat := 0x4005080C + 0x20 * n
def CMP_WIN_QUAL_SWTO (n : Nat) : Ref := ⟨CMP_WIN_QUAL n, 31, 16⟩
def CMP_WIN_QUAL_QUAL (n : Nat) : Ref := ⟨CMP_WIN_QUAL n, 15, 0⟩
def CMP_WIN_STAT (n : Nat) : Nat := 0x40050810 + 0x20 * n
def CMP_WIN_STAT_UNRU (n : Nat) : Ref := ⟨CMP_WIN_STAT n, 9, 9⟩
def CMP_WIN_STAT_UNRL (n : Nat) : Ref := ⟨CMP_WIN_STAT n, 8, 8⟩
def CMP_WIN_STAT_OUTU (n : Nat) : Ref := ⟨CMP_WIN_STAT n, 7, 7⟩
def CMP_WIN_STAT_OUTL (n : Nat) : Ref := ⟨CMP_WIN_STAT n, 6, 6⟩
def CMP_WIN_STAT_FLT (n : Nat) : Ref := ⟨CMP_WIN_STAT n, 5, 5⟩
def CMP_WIN_STAT_WCF (n : Nat) : Ref := ⟨CMP_WIN_STAT n, 4, 4⟩
def CMP_WIN_STAT_WLE (n : Nat) : Ref := ⟨CMP_WIN_STAT n, 3, 3⟩
def CMP_WIN_STAT_WLAT (n : Nat) : Ref := ⟨CMP_WIN_STAT n, 1, 1⟩
def CMP_WIN_TS (n : Nat) : Nat := 0x40050814 + 0x20 * n
def CMP_WIN_TS_STAMP (n : Nat) : Ref := ⟨CMP_WIN_TS n, 31, 0⟩
def MOD_MCK_CFG (n : Nat) : Nat := 0x40060000 + 0x4 * n
def MOD_MCK_CFG_EN (n : Nat) : Ref := ⟨MOD_MCK_CFG n, 31, 31⟩
def MOD_MCK_CFG_WLE (n : Nat) : Ref := ⟨MOD_MCK_CFG n, 8, 8⟩
def MOD_MCK_CFG_DCKF (n : Nat) : Ref := ⟨MOD_MCK_CFG n, 7, 7⟩
def MOD_MCK_CFG_PADOK (n : Nat) : Ref := ⟨MOD_MCK_CFG n, 6, 6⟩
def MOD_MCK_CFG_MDIV (n : Nat) : Ref := ⟨MOD_MCK_CFG n, 5, 0⟩
def MOD_MD_CFG (n : Nat) : Nat := 0x40060100 + 0x20 * n
def MOD_MD_CFG_EN (n : Nat) : Ref := ⟨MOD_MD_CFG n, 31, 31⟩
def MOD_MD_CFG_CKSEL (n : Nat) : Ref := ⟨MOD_MD_CFG n, 30, 28⟩
def MOD_MD_CFG_CDLY (n : Nat) : Ref := ⟨MOD_MD_CFG n, 27, 22⟩
def MOD_MD_CFG_ORD0 (n : Nat) : Ref := ⟨MOD_MD_CFG n, 21, 21⟩
def MOD_MD_CFG_OSR0 (n : Nat) : Ref := ⟨MOD_MD_CFG n, 20, 12⟩
def MOD_MD_CFG_ORD1 (n : Nat) : Ref := ⟨MOD_MD_CFG n, 11, 11⟩
def MOD_MD_CFG_OSR1 (n : Nat) : Ref := ⟨MOD_MD_CFG n, 10, 2⟩
def MOD_MD_DET (n : Nat) : Nat := 0x40060104 + 0x20 * n
def MOD_MD_DET_STUCKN (n : Nat) : Ref := ⟨MOD_MD_DET n, 31, 20⟩
def MOD_MD_DET_FRZK (n : Nat) : Ref := ⟨MOD_MD_DET n, 19, 10⟩
def MOD_MD_DET_FRZBAND (n : Nat) : Ref := ⟨MOD_MD_DET n, 9, 0⟩
def MOD_MD_STAT (n : Nat) : Nat := 0x40060108 + 0x20 * n
def MOD_MD_STAT_STL (n : Nat) : Ref := ⟨MOD_MD_STAT n, 11, 11⟩
def MOD_MD_STAT_DCKL (n : Nat) : Ref := ⟨MOD_MD_STAT n, 10, 10⟩
def MOD_MD_STAT_STKL (n : Nat) : Ref := ⟨MOD_MD_STAT n, 9, 9⟩
def MOD_MD_STAT_FRZL (n : Nat) : Ref := ⟨MOD_MD_STAT n, 8, 8⟩
def MOD_MD_STAT_OVS (n : Nat) : Ref := ⟨MOD_MD_STAT n, 6, 6⟩
def MOD_MD_STAT_WLE (n : Nat) : Ref := ⟨MOD_MD_STAT n, 5, 5⟩
def MOD_MD_STAT_LIMF (n : Nat) : Ref := ⟨MOD_MD_STAT n, 4, 4⟩
def MOD_MD_STAT_DCK (n : Nat) : Ref := ⟨MOD_MD_STAT n, 2, 2⟩
def MOD_MD_STAT_STK (n : Nat) : Ref := ⟨MOD_MD_STAT n, 1, 1⟩
def MOD_MD_STAT_FRZ (n : Nat) : Ref := ⟨MOD_MD_STAT n, 0, 0⟩
def MOD_MD_DATA (n : Nat) : Nat := 0x4006010C + 0x20 * n
def MOD_MD_DATA_VALUE (n : Nat) : Ref := ⟨MOD_MD_DATA n, 31, 0⟩
def MOD_MD_MON (n : Nat) : Nat := 0x40060110 + 0x20 * n
def MOD_MD_MON_VALUE (n : Nat) : Ref := ⟨MOD_MD_MON n, 31, 0⟩
def MOD_MD_MLIM (n : Nat) : Nat := 0x40060114 + 0x20 * n
def MOD_MD_MLIM_LO (n : Nat) : Ref := ⟨MOD_MD_MLIM n, 31, 16⟩
def MOD_MD_MLIM_HI (n : Nat) : Ref := ⟨MOD_MD_MLIM n, 15, 0⟩
def HADC_CTRL : Nat := 0x40070000
def HADC_CTRL_RATE : Ref := ⟨HADC_CTRL, 27, 24⟩
def HADC_CTRL_MODE : Ref := ⟨HADC_CTRL, 23, 22⟩
def HADC_CTRL_DACSEL : Ref := ⟨HADC_CTRL, 15, 8⟩
def HADC_CTRL_CH : Ref := ⟨HADC_CTRL, 4, 0⟩
def HADC_CMD : Nat := 0x40070004
def HADC_CMD_STOP : Ref := ⟨HADC_CMD, 1, 1⟩
def HADC_CMD_GO : Ref := ⟨HADC_CMD, 0, 0⟩
def HADC_STAT : Nat := 0x40070008
def HADC_STAT_CFE : Ref := ⟨HADC_STAT, 6, 6⟩
def HADC_STAT_WLE : Ref := ⟨HADC_STAT, 5, 5⟩
def HADC_STAT_OVR : Ref := ⟨HADC_STAT, 4, 4⟩
def HADC_STAT_DONE : Ref := ⟨HADC_STAT, 3, 3⟩
def HADC_STAT_PWR : Ref := ⟨HADC_STAT, 2, 2⟩
def HADC_STAT_BUSY : Ref := ⟨HADC_STAT, 1, 1⟩
def HADC_DATA : Nat := 0x4007000C
def HADC_DATA_VALID : Ref := ⟨HADC_DATA, 31, 31⟩
def HADC_DATA_BYP : Ref := ⟨HADC_DATA, 30, 30⟩
def HADC_DATA_CH : Ref := ⟨HADC_DATA, 28, 24⟩
def HADC_DATA_VALUE : Ref := ⟨HADC_DATA, 23, 0⟩
def HADC_SCAN : Nat := 0x40070010
def HADC_SCAN_MASK : Ref := ⟨HADC_SCAN, 31, 0⟩
def BOOST_BC_CFG (n : Nat) : Nat := 0x40080000 + 0x200 * n
def BOOST_BC_CFG_EN (n : Nat) : Ref := ⟨BOOST_BC_CFG n, 31, 31⟩
def BOOST_BC_CFG_LEAD (n : Nat) : Ref := ⟨BOOST_BC_CFG n, 30, 25⟩
def BOOST_BC_CFG_NPH (n : Nat) : Ref := ⟨BOOST_BC_CFG n, 24, 22⟩
def BOOST_BC_CFG_NMIN (n : Nat) : Ref := ⟨BOOST_BC_CFG n, 21, 19⟩
def BOOST_BC_CFG_SHEN (n : Nat) : Ref := ⟨BOOST_BC_CFG n, 18, 18⟩
def BOOST_BC_CFG_SYNC (n : Nat) : Ref := ⟨BOOST_BC_CFG n, 17, 17⟩
def BOOST_BC_CFG_DMAX (n : Nat) : Ref := ⟨BOOST_BC_CFG n, 15, 8⟩
def BOOST_BC_CFG_OPENN (n : Nat) : Ref := ⟨BOOST_BC_CFG n, 7, 4⟩
def BOOST_BC_STAT (n : Nat) : Nat := 0x40080004 + 0x200 * n
def BOOST_BC_STAT_STATE (n : Nat) : Ref := ⟨BOOST_BC_STAT n, 18, 16⟩
def BOOST_BC_STAT_NACT (n : Nat) : Ref := ⟨BOOST_BC_STAT n, 15, 13⟩
def BOOST_BC_STAT_NOK (n : Nat) : Ref := ⟨BOOST_BC_STAT n, 12, 10⟩
def BOOST_BC_STAT_DRT (n : Nat) : Ref := ⟨BOOST_BC_STAT n, 9, 9⟩
def BOOST_BC_STAT_CLMP (n : Nat) : Ref := ⟨BOOST_BC_STAT n, 8, 8⟩
def BOOST_BC_STAT_SHAB (n : Nat) : Ref := ⟨BOOST_BC_STAT n, 7, 7⟩
def BOOST_BC_STAT_OPF (n : Nat) : Ref := ⟨BOOST_BC_STAT n, 6, 6⟩
def BOOST_BC_STAT_SNSF (n : Nat) : Ref := ⟨BOOST_BC_STAT n, 5, 5⟩
def BOOST_BC_STAT_ALLCT (n : Nat) : Ref := ⟨BOOST_BC_STAT n, 4, 4⟩
def BOOST_BC_STAT_SYL (n : Nat) : Ref := ⟨BOOST_BC_STAT n, 3, 3⟩
def BOOST_BC_STAT_BND (n : Nat) : Ref := ⟨BOOST_BC_STAT n, 2, 2⟩
def BOOST_BC_STAT_CFE (n : Nat) : Ref := ⟨BOOST_BC_STAT n, 1, 1⟩
def BOOST_BC_STAT_WLE (n : Nat) : Ref := ⟨BOOST_BC_STAT n, 0, 0⟩
def BOOST_BC_PHSTAT (n : Nat) : Nat := 0x40080008 + 0x200 * n
def BOOST_BC_PHSTAT_FAIL (n : Nat) : Ref := ⟨BOOST_BC_PHSTAT n, 29, 24⟩
def BOOST_BC_PHSTAT_SHD (n : Nat) : Ref := ⟨BOOST_BC_PHSTAT n, 21, 16⟩
def BOOST_BC_PHSTAT_NCD (n : Nat) : Ref := ⟨BOOST_BC_PHSTAT n, 13, 8⟩
def BOOST_BC_PHSTAT_ACT (n : Nat) : Ref := ⟨BOOST_BC_PHSTAT n, 5, 0⟩
def BOOST_BC_ICMD (n : Nat) : Nat := 0x4008000C + 0x200 * n
def BOOST_BC_ICMD_ICMD (n : Nat) : Ref := ⟨BOOST_BC_ICMD n, 15, 0⟩
def BOOST_BC_LIM (n : Nat) : Nat := 0x40080010 + 0x200 * n
def BOOST_BC_LIM_IPCEIL (n : Nat) : Ref := ⟨BOOST_BC_LIM n, 31, 22⟩
def BOOST_BC_LIM_IPL (n : Nat) : Ref := ⟨BOOST_BC_LIM n, 21, 12⟩
def BOOST_BC_LIM_ZOFS (n : Nat) : Ref := ⟨BOOST_BC_LIM n, 9, 0⟩
def BOOST_BC_RAMP (n : Nat) : Nat := 0x40080014 + 0x200 * n
def BOOST_BC_RAMP_SLOPE (n : Nat) : Ref := ⟨BOOST_BC_RAMP n, 27, 16⟩
def BOOST_BC_RAMP_FLOOR (n : Nat) : Ref := ⟨BOOST_BC_RAMP n, 9, 0⟩
def BOOST_BC_SHED (n : Nat) : Nat := 0x40080018 + 0x200 * n
def BOOST_BC_SHED_ADDTH (n : Nat) : Ref := ⟨BOOST_BC_SHED n, 31, 16⟩
def BOOST_BC_SHED_SHEDTH (n : Nat) : Ref := ⟨BOOST_BC_SHED n, 15, 0⟩
def BOOST_BC_SHTM (n : Nat) : Nat := 0x4008001C + 0x200 * n
def BOOST_BC_SHTM_SHT (n : Nat) : Ref := ⟨BOOST_BC_SHTM n, 31, 24⟩
def BOOST_BC_SHTM_ADT (n : Nat) : Ref := ⟨BOOST_BC_SHTM n, 23, 16⟩
def BOOST_BC_SHTM_SHDN (n : Nat) : Ref := ⟨BOOST_BC_SHTM n, 15, 8⟩
def BOOST_BC_STEP (n : Nat) : Nat := 0x40080020 + 0x200 * n
def BOOST_BC_STEP_STEPTH (n : Nat) : Ref := ⟨BOOST_BC_STEP n, 15, 0⟩
def BOOST_BC_SYNC (n : Nat) : Nat := 0x40080024 + 0x200 * n
def BOOST_BC_SYNC_COARSE (n : Nat) : Ref := ⟨BOOST_BC_SYNC n, 21, 6⟩
def BOOST_BC_SYNC_FINE (n : Nat) : Ref := ⟨BOOST_BC_SYNC n, 5, 0⟩
def BOOST_BC_XCHK (n : Nat) : Nat := 0x40080028 + 0x200 * n
def BOOST_BC_XCHK_XEN (n : Nat) : Ref := ⟨BOOST_BC_XCHK n, 31, 31⟩
def BOOST_BC_XCHK_ISRC (n : Nat) : Ref := ⟨BOOST_BC_XCHK n, 28, 24⟩
def BOOST_BC_XCHK_XWIN (n : Nat) : Ref := ⟨BOOST_BC_XCHK n, 23, 16⟩
def BOOST_BC_XCHK_XN (n : Nat) : Ref := ⟨BOOST_BC_XCHK n, 15, 12⟩
def BOOST_BC_XCHK_TONDEV (n : Nat) : Ref := ⟨BOOST_BC_XCHK n, 7, 0⟩
def BOOST_BC_XTOL (n : Nat) : Nat := 0x4008002C + 0x200 * n
def BOOST_BC_XTOL_XGAIN (n : Nat) : Ref := ⟨BOOST_BC_XTOL n, 31, 16⟩
def BOOST_BC_XTOL_XTOL (n : Nat) : Ref := ⟨BOOST_BC_XTOL n, 15, 0⟩
def BOOST_BC_XMIN (n : Nat) : Nat := 0x40080030 + 0x200 * n
def BOOST_BC_XMIN_XMIN (n : Nat) : Ref := ⟨BOOST_BC_XMIN n, 15, 0⟩
def BOOST_BC_MCFG (n : Nat) : Nat := 0x40080040 + 0x200 * n
def BOOST_BC_MCFG_MEN (n : Nat) : Ref := ⟨BOOST_BC_MCFG n, 31, 31⟩
def BOOST_BC_MCFG_SCST (n : Nat) : Ref := ⟨BOOST_BC_MCFG n, 30, 30⟩
def BOOST_BC_MCFG_VSRC (n : Nat) : Ref := ⟨BOOST_BC_MCFG n, 29, 25⟩
def BOOST_BC_MCFG_RCORE (n : Nat) : Ref := ⟨BOOST_BC_MCFG n, 24, 22⟩
def BOOST_BC_MCFG_NSC (n : Nat) : Ref := ⟨BOOST_BC_MCFG n, 21, 16⟩
def BOOST_BC_MCFG_TMPP (n : Nat) : Ref := ⟨BOOST_BC_MCFG n, 15, 8⟩
def BOOST_BC_MCFG_MAVG (n : Nat) : Ref := ⟨BOOST_BC_MCFG n, 7, 0⟩
def BOOST_BC_MADDR (n : Nat) : Nat := 0x40080044 + 0x200 * n
def BOOST_BC_MADDR_ADDR (n : Nat) : Ref := ⟨BOOST_BC_MADDR n, 18, 3⟩
def BOOST_BC_MADDR_WEN (n : Nat) : Ref := ⟨BOOST_BC_MADDR n, 0, 0⟩
def BOOST_BC_MVLIM (n : Nat) : Nat := 0x40080048 + 0x200 * n
def BOOST_BC_MVLIM_VMAX (n : Nat) : Ref := ⟨BOOST_BC_MVLIM n, 31, 16⟩
def BOOST_BC_MVLIM_VMIN (n : Nat) : Ref := ⟨BOOST_BC_MVLIM n, 15, 0⟩
def BOOST_BC_MSTEP (n : Nat) : Nat := 0x4008004C + 0x200 * n
def BOOST_BC_MSTEP_PDB (n : Nat) : Ref := ⟨BOOST_BC_MSTEP n, 31, 16⟩
def BOOST_BC_MSTEP_MSTEP (n : Nat) : Ref := ⟨BOOST_BC_MSTEP n, 15, 0⟩
def BOOST_BC_MSCAN (n : Nat) : Nat := 0x40080050 + 0x200 * n
def BOOST_BC_MSCAN_VSHI (n : Nat) : Ref := ⟨BOOST_BC_MSCAN n, 31, 16⟩
def BOOST_BC_MSCAN_VSLO (n : Nat) : Ref := ⟨BOOST_BC_MSCAN n, 15, 0⟩
def BOOST_BC_MTRIG (n : Nat) : Nat := 0x40080054 + 0x200 * n
def BOOST_BC_MTRIG_GO (n : Nat) : Ref := ⟨BOOST_BC_MTRIG n, 31, 31⟩
def BOOST_BC_MTRIG_SCTRIG (n : Nat) : Ref := ⟨BOOST_BC_MTRIG n, 23, 16⟩
def BOOST_BC_MTRIG_SCPER (n : Nat) : Ref := ⟨BOOST_BC_MTRIG n, 15, 8⟩
def BOOST_BC_MTRIG_SCMIN (n : Nat) : Ref := ⟨BOOST_BC_MTRIG n, 7, 0⟩
def BOOST_BC_MREF (n : Nat) : Nat := 0x40080058 + 0x200 * n
def BOOST_BC_MREF_VREF (n : Nat) : Ref := ⟨BOOST_BC_MREF n, 31, 16⟩
def BOOST_BC_MREF_SEQ (n : Nat) : Ref := ⟨BOOST_BC_MREF n, 15, 0⟩
def BOOST_BC_MPWR (n : Nat) : Nat := 0x4008005C + 0x200 * n
def BOOST_BC_MPWR_P (n : Nat) : Ref := ⟨BOOST_BC_MPWR n, 31, 0⟩
def BOOST_BC_MSTAT (n : Nat) : Nat := 0x40080060 + 0x200 * n
def BOOST_BC_MSTAT_BEST (n : Nat) : Ref := ⟨BOOST_BC_MSTAT n, 21, 16⟩
def BOOST_BC_MSTAT_SCN (n : Nat) : Ref := ⟨BOOST_BC_MSTAT n, 15, 15⟩
def BOOST_BC_MSTAT_DIR (n : Nat) : Ref := ⟨BOOST_BC_MSTAT n, 14, 14⟩
def BOOST_BC_MSTAT_INV (n : Nat) : Ref := ⟨BOOST_BC_MSTAT n, 13, 13⟩
def BOOST_BC_MSTAT_SCDF (n : Nat) : Ref := ⟨BOOST_BC_MSTAT n, 12, 12⟩
def BOOST_BC_MSTAT_SCDN (n : Nat) : Ref := ⟨BOOST_BC_MSTAT n, 11, 11⟩
def BOOST_BC_MTAB (n k : Nat) : Nat := 0x40080100 + 0x200 * n + 0x4 * k
def BOOST_BC_MTAB_V (n k : Nat) : Ref := ⟨BOOST_BC_MTAB n k, 31, 16⟩
def BOOST_BC_MTAB_I (n k : Nat) : Ref := ⟨BOOST_BC_MTAB n k, 15, 0⟩
def METER_CTRL (n : Nat) : Nat := 0x40090000 + 0x1000 * n
def METER_CTRL_EN (n : Nat) : Ref := ⟨METER_CTRL n, 31, 31⟩
def METER_CTRL_CLR (n : Nat) : Ref := ⟨METER_CTRL n, 30, 30⟩
def METER_CTRL_NEL (n : Nat) : Ref := ⟨METER_CTRL n, 29, 28⟩
def METER_CTRL_CDIR (n : Nat) : Ref := ⟨METER_CTRL n, 27, 27⟩
def METER_CTRL_NSEL (n : Nat) : Ref := ⟨METER_CTRL n, 26, 24⟩
def METER_CTRL_NEN (n : Nat) : Ref := ⟨METER_CTRL n, 23, 23⟩
def METER_CTRL_ISTART (n : Nat) : Ref := ⟨METER_CTRL n, 15, 0⟩
def METER_STAT (n : Nat) : Nat := 0x40090004 + 0x1000 * n
def METER_STAT_RUN (n : Nat) : Ref := ⟨METER_STAT n, 10, 10⟩
def METER_STAT_CREEP (n : Nat) : Ref := ⟨METER_STAT n, 9, 9⟩
def METER_STAT_BYP (n : Nat) : Ref := ⟨METER_STAT n, 8, 8⟩
def METER_STAT_IFLT (n : Nat) : Ref := ⟨METER_STAT n, 7, 7⟩
def METER_STAT_OVL (n : Nat) : Ref := ⟨METER_STAT n, 6, 6⟩
def METER_STAT_STEP (n : Nat) : Ref := ⟨METER_STAT n, 5, 5⟩
def METER_STAT_BND (n : Nat) : Ref := ⟨METER_STAT n, 4, 4⟩
def METER_STAT_CFE (n : Nat) : Ref := ⟨METER_STAT n, 1, 1⟩
def METER_STAT_WLE (n : Nat) : Ref := ⟨METER_STAT n, 0, 0⟩
def METER_CHMAP (n : Nat) : Nat := 0x40090008 + 0x1000 * n
def METER_CHMAP_VSEL0 (n : Nat) : Ref := ⟨METER_CHMAP n, 6, 4⟩
def METER_CHMAP_VSEL1 (n : Nat) : Ref := ⟨METER_CHMAP n, 14, 12⟩
def METER_CHMAP_VSEL2 (n : Nat) : Ref := ⟨METER_CHMAP n, 22, 20⟩
def METER_CHMAP_ISEL0 (n : Nat) : Ref := ⟨METER_CHMAP n, 2, 0⟩
def METER_CHMAP_ISEL1 (n : Nat) : Ref := ⟨METER_CHMAP n, 10, 8⟩
def METER_CHMAP_ISEL2 (n : Nat) : Ref := ⟨METER_CHMAP n, 18, 16⟩
def METER_QL (n : Nat) : Nat := 0x40090010 + 0x1000 * n
def METER_QL_Q (n : Nat) : Ref := ⟨METER_QL n, 31, 0⟩
def METER_QM (n : Nat) : Nat := 0x40090014 + 0x1000 * n
def METER_QM_Q (n : Nat) : Ref := ⟨METER_QM n, 31, 0⟩
def METER_QH (n : Nat) : Nat := 0x40090018 + 0x1000 * n
def METER_QH_Q (n : Nat) : Ref := ⟨METER_QH n, 31, 0⟩
def METER_PRATEDQ (n : Nat) : Nat := 0x4009001C + 0x1000 * n
def METER_PRATEDQ_PRQ (n : Nat) : Ref := ⟨METER_PRATEDQ n, 31, 0⟩
def METER_IPER (n : Nat) : Nat := 0x40090020 + 0x1000 * n
def METER_IPER_IOFS (n : Nat) : Ref := ⟨METER_IPER n, 24, 8⟩
def METER_IPER_IPER (n : Nat) : Ref := ⟨METER_IPER n, 7, 0⟩
def METER_ACC_CNTL (n k : Nat) : Nat := 0x40090100 + 0x1000 * n + 0x10 * k
def METER_ACC_CNTL_C (n k : Nat) : Ref := ⟨METER_ACC_CNTL n k, 31, 0⟩
def METER_ACC_CNTH (n k : Nat) : Nat := 0x40090104 + 0x1000 * n + 0x10 * k
def METER_ACC_CNTH_C (n k : Nat) : Ref := ⟨METER_ACC_CNTH n k, 31, 0⟩
def METER_ACC_FRAC (n k : Nat) : Nat := 0x40090108 + 0x1000 * n + 0x10 * k
def METER_ACC_FRAC_FRAC (n k : Nat) : Ref := ⟨METER_ACC_FRAC n k, 15, 0⟩
def METER_IVSEC (n : Nat) : Nat := 0x40090180 + 0x1000 * n
def METER_IVSEC_SEC (n : Nat) : Ref := ⟨METER_IVSEC n, 31, 0⟩
def METER_IVFLG (n : Nat) : Nat := 0x40090184 + 0x1000 * n
def METER_IVFLG_FLG (n : Nat) : Ref := ⟨METER_IVFLG n, 8, 0⟩
def METER_IV_LO (n k : Nat) : Nat := 0x40090188 + 0x1000 * n + 0x8 * k
def METER_IV_HI (n k : Nat) : Nat := 0x4009018C + 0x1000 * n + 0x8 * k
def METER_BLK_VRMS (n k : Nat) : Nat := 0x40090200 + 0x1000 * n + 0x20 * k
def METER_BLK_IRMS (n k : Nat) : Nat := 0x40090204 + 0x1000 * n + 0x20 * k
def METER_BLK_P (n k : Nat) : Nat := 0x40090208 + 0x1000 * n + 0x20 * k
def METER_BLK_Q (n k : Nat) : Nat := 0x4009020C + 0x1000 * n + 0x20 * k
def METER_BLK_S (n k : Nat) : Nat := 0x40090210 + 0x1000 * n + 0x20 * k
def METER_NRMS (n : Nat) : Nat := 0x40090260 + 0x1000 * n
def METER_BLKSEC (n : Nat) : Nat := 0x40090264 + 0x1000 * n
def METER_BLKSEC_T (n : Nat) : Ref := ⟨METER_BLKSEC n, 31, 0⟩
def METER_BLKNS (n : Nat) : Nat := 0x40090268 + 0x1000 * n
def METER_BLKNS_T (n : Nat) : Ref := ⟨METER_BLKNS n, 31, 0⟩
def METER_CORR_A (m c j : Nat) : Nat := 0x40090400 + 0x1000 * m + 8 * (9 * c + j)
def METER_CORR_A_BRK (m c j : Nat) : Ref := ⟨METER_CORR_A m c j, 31, 16⟩
def METER_CORR_A_DLY (m c j : Nat) : Ref := ⟨METER_CORR_A m c j, 11, 0⟩
def METER_CORR_B (m c j : Nat) : Nat := 0x40090404 + 0x1000 * m + 8 * (9 * c + j)
def METER_CORR_B_GAIN (m c j : Nat) : Ref := ⟨METER_CORR_B m c j, 23, 0⟩
def METER_CKSTAT : Nat := 0x40098000
def METER_CKSTAT_EWM : Ref := ⟨METER_CKSTAT, 31, 31⟩
def METER_CKSTAT_CKD : Ref := ⟨METER_CKSTAT, 30, 30⟩
def METER_CKSTAT_UNS : Ref := ⟨METER_CKSTAT, 29, 29⟩
def METER_CKSTAT_JFULL : Ref := ⟨METER_CKSTAT, 28, 28⟩
def METER_CKSTAT_SLOT : Ref := ⟨METER_CKSTAT, 16, 16⟩
def METER_CKSTAT_SEQ : Ref := ⟨METER_CKSTAT, 15, 0⟩
def METER_LPSTAT : Nat := 0x40098004
def METER_LPSTAT_WRAP : Ref := ⟨METER_LPSTAT, 31, 31⟩
def METER_LPSTAT_NEXT : Ref := ⟨METER_LPSTAT, 10, 0⟩
def METER_PLS (n : Nat) : Nat := 0x40098010 + 0x4 * n
def METER_PLS_EN (n : Nat) : Ref := ⟨METER_PLS n, 31, 31⟩
def METER_PLS_POL (n : Nat) : Ref := ⟨METER_PLS n, 30, 30⟩
def METER_PLS_INST (n : Nat) : Ref := ⟨METER_PLS n, 29, 29⟩
def METER_PLS_ACC (n : Nat) : Ref := ⟨METER_PLS n, 28, 26⟩
def METER_PLS_POV (n : Nat) : Ref := ⟨METER_PLS n, 25, 25⟩
def METER_PLS_PEND (n : Nat) : Ref := ⟨METER_PLS n, 15, 0⟩
def SAFE_STAT : Nat := 0x400A0000
def SAFE_STAT_STATE : Ref := ⟨SAFE_STAT, 31, 29⟩
def SAFE_STAT_UNLST : Ref := ⟨SAFE_STAT, 28, 27⟩
def SAFE_STAT_PURP : Ref := ⟨SAFE_STAT, 26, 26⟩
def SAFE_STAT_PW : Ref := ⟨SAFE_STAT, 25, 25⟩
def SAFE_STAT_PF : Ref := ⟨SAFE_STAT, 24, 24⟩
def SAFE_STAT_SPI : Ref := ⟨SAFE_STAT, 23, 23⟩
def SAFE_STAT_CNFE : Ref := ⟨SAFE_STAT, 15, 15⟩
def SAFE_STAT_UNLF : Ref := ⟨SAFE_STAT, 14, 14⟩
def SAFE_STAT_SRJ : Ref := ⟨SAFE_STAT, 13, 13⟩
def SAFE_STAT_PARW : Ref := ⟨SAFE_STAT, 12, 12⟩
def SAFE_CMD : Nat := 0x400A0004
def SAFE_CMD_EDIT : Ref := ⟨SAFE_CMD, 16, 16⟩
def SAFE_CMD_RST : Ref := ⟨SAFE_CMD, 15, 8⟩
def SAFE_CMD_CNTCLR : Ref := ⟨SAFE_CMD, 1, 1⟩
def SAFE_CMD_STOP : Ref := ⟨SAFE_CMD, 0, 0⟩
def SAFE_LOCK : Nat := 0x400A0008
def SAFE_LOCK_LCNT : Ref := ⟨SAFE_LOCK, 31, 24⟩
def SAFE_LOCK_CAUSE : Ref := ⟨SAFE_LOCK, 13, 0⟩
def SAFE_PARCRC : Nat := 0x400A000C
def SAFE_PARCRC_CRC : Ref := ⟨SAFE_PARCRC, 31, 0⟩
def SAFE_CONFIRM : Nat := 0x400A0010
def SAFE_UNLREQ : Nat := 0x400A0014
def SAFE_UNLREQ_PURP : Ref := ⟨SAFE_UNLREQ, 7, 0⟩
def SAFE_UNLCH (n : Nat) : Nat := 0x400A0018 + 0x4 * n
def SAFE_UNLCH_N (n : Nat) : Ref := ⟨SAFE_UNLCH n, 31, 0⟩
def SAFE_UNLRSP (n : Nat) : Nat := 0x400A0020 + 0x4 * n
def SAFE_UNLRSP_HMAC (n : Nat) : Ref := ⟨SAFE_UNLRSP n, 31, 0⟩
def SAFE_SF : Nat := 0x400A0040
def SAFE_SF_RSTW : Ref := ⟨SAFE_SF, 23, 16⟩
def SAFE_SF_DEMW : Ref := ⟨SAFE_SF, 15, 8⟩
def SAFE_SF_DEMF : Ref := ⟨SAFE_SF, 7, 0⟩
def SAFE_SI : Nat := 0x400A0044
def SAFE_SI_DEM : Ref := ⟨SAFE_SI, 31, 16⟩
def SAFE_SI_LVL : Ref := ⟨SAFE_SI, 15, 0⟩
def SAFE_SIF : Nat := 0x400A0048
def SAFE_SIF_XSH : Ref := ⟨SAFE_SIF, 31, 16⟩
def SAFE_SIF_MISS : Ref := ⟨SAFE_SIF, 15, 0⟩
def SAFE_SIP : Nat := 0x400A004C
def SAFE_SIP_PDEM : Ref := ⟨SAFE_SIP, 15, 8⟩
def SAFE_SIP_DISC : Ref := ⟨SAFE_SIP, 7, 0⟩
def SAFE_RCREQ : Nat := 0x400A0050
def SAFE_RCREQ_CLOSE : Ref := ⟨SAFE_RCREQ, 3, 0⟩
def SAFE_CLKMON : Nat := 0x400A0054
def SAFE_CLKMON_WBAD : Ref := ⟨SAFE_CLKMON, 28, 16⟩
def SAFE_CLKMON_FBAD : Ref := ⟨SAFE_CLKMON, 12, 0⟩
def SAFE_RC (n : Nat) : Nat := 0x400A0060 + 0x4 * n
def SAFE_RC_RBH (n : Nat) : Ref := ⟨SAFE_RC n, 31, 31⟩
def SAFE_RC_RBL (n : Nat) : Ref := ⟨SAFE_RC n, 30, 30⟩
def SAFE_RC_CMDH (n : Nat) : Ref := ⟨SAFE_RC n, 29, 29⟩
def SAFE_RC_CMDL (n : Nat) : Ref := ⟨SAFE_RC n, 28, 28⟩
def SAFE_RC_EDM (n : Nat) : Ref := ⟨SAFE_RC n, 27, 27⟩
def SAFE_RC_TCNT (n : Nat) : Ref := ⟨SAFE_RC n, 23, 8⟩
def SAFE_RC_SCH (n : Nat) : Ref := ⟨SAFE_RC n, 7, 7⟩
def SAFE_RC_SCL (n : Nat) : Ref := ⟨SAFE_RC n, 6, 6⟩
def SAFE_RC_SOH (n : Nat) : Ref := ⟨SAFE_RC n, 5, 5⟩
def SAFE_RC_SOL (n : Nat) : Ref := ⟨SAFE_RC n, 4, 4⟩
def SAFE_RC_EDMF (n : Nat) : Ref := ⟨SAFE_RC n, 3, 3⟩
def SAFE_RX_STAT (n : Nat) : Nat := 0x400A0080 + 0x10 * n
def SAFE_RX_STAT_EN (n : Nat) : Ref := ⟨SAFE_RX_STAT n, 31, 31⟩
def SAFE_RX_STAT_WDEL (n : Nat) : Ref := ⟨SAFE_RX_STAT n, 30, 30⟩
def SAFE_RX_STAT_NDA (n : Nat) : Ref := ⟨SAFE_RX_STAT n, 29, 29⟩
def SAFE_RX_STAT_NDB (n : Nat) : Ref := ⟨SAFE_RX_STAT n, 28, 28⟩
def SAFE_RX_STAT_NSES (n : Nat) : Ref := ⟨SAFE_RX_STAT n, 4, 4⟩
def SAFE_RX_STAT_WDE (n : Nat) : Ref := ⟨SAFE_RX_STAT n, 3, 3⟩
def SAFE_RX_STAT_LOST (n : Nat) : Ref := ⟨SAFE_RX_STAT n, 2, 2⟩
def SAFE_RX_STAT_OLD (n : Nat) : Ref := ⟨SAFE_RX_STAT n, 1, 1⟩
def SAFE_RX_STAT_LATE (n : Nat) : Ref := ⟨SAFE_RX_STAT n, 0, 0⟩
def SAFE_RX_CMD (n : Nat) : Nat := 0x400A0084 + 0x10 * n
def SAFE_RX_CMD_STATUS (n : Nat) : Ref := ⟨SAFE_RX_CMD n, 31, 16⟩
def SAFE_RX_CMD_CMD (n : Nat) : Ref := ⟨SAFE_RX_CMD n, 15, 0⟩
def SAFE_RX_SEQ (n : Nat) : Nat := 0x400A0088 + 0x10 * n
def SAFE_RX_SEQ_L (n : Nat) : Ref := ⟨SAFE_RX_SEQ n, 31, 0⟩
def SAFE_RX_CNT (n : Nat) : Nat := 0x400A008C + 0x10 * n
def SAFE_RX_CNT_CRCE (n : Nat) : Ref := ⟨SAFE_RX_CNT n, 31, 24⟩
def SAFE_RX_CNT_ADR (n : Nat) : Ref := ⟨SAFE_RX_CNT n, 23, 16⟩
def SAFE_RX_CNT_STL (n : Nat) : Ref := ⟨SAFE_RX_CNT n, 15, 8⟩
def SAFE_RX_CNT_SGL (n : Nat) : Ref := ⟨SAFE_RX_CNT n, 7, 0⟩
def SAFE_TX_CTRL (n : Nat) : Nat := 0x400A00C0 + 0x10 * n
def SAFE_TX_CTRL_EN (n : Nat) : Ref := ⟨SAFE_TX_CTRL n, 31, 31⟩
def SAFE_TX_CTRL_SUPR (n : Nat) : Ref := ⟨SAFE_TX_CTRL n, 16, 16⟩
def SAFE_TX_CTRL_SEQL (n : Nat) : Ref := ⟨SAFE_TX_CTRL n, 15, 0⟩
def SAFE_TX_DATA (n k : Nat) : Nat := 0x400A00C4 + 0x10 * n + 0x4 * k
def SAFE_TX_DATA_DATA (n k : Nat) : Ref := ⟨SAFE_TX_DATA n k, 31, 0⟩
def SAFE_PAR (n : Nat) : Nat := 0x400A0200 + 0x4 * n
def PURLIN_LANE_CFG (n : Nat) : Nat := 0x400B0000 + 0x100 * n
def PURLIN_LANE_CFG_EN (n : Nat) : Ref := ⟨PURLIN_LANE_CFG n, 31, 31⟩
def PURLIN_LANE_CFG_MODE (n : Nat) : Ref := ⟨PURLIN_LANE_CFG n, 30, 28⟩
def PURLIN_LANE_CFG_RATE (n : Nat) : Ref := ⟨PURLIN_LANE_CFG n, 27, 25⟩
def PURLIN_LANE_CFG_TXPOL (n : Nat) : Ref := ⟨PURLIN_LANE_CFG n, 24, 24⟩
def PURLIN_LANE_CFG_RXPOL (n : Nat) : Ref := ⟨PURLIN_LANE_CFG n, 23, 23⟩
def PURLIN_LANE_CFG_PRE (n : Nat) : Ref := ⟨PURLIN_LANE_CFG n, 19, 16⟩
def PURLIN_LANE_CFG_POST (n : Nat) : Ref := ⟨PURLIN_LANE_CFG n, 15, 12⟩
def PURLIN_LANE_CFG_SWING (n : Nat) : Ref := ⟨PURLIN_LANE_CFG n, 11, 8⟩
def PURLIN_LANE_CFG_CTLE (n : Nat) : Ref := ⟨PURLIN_LANE_CFG n, 7, 4⟩
def PURLIN_LANE_CFG_DFE (n : Nat) : Ref := ⟨PURLIN_LANE_CFG n, 3, 3⟩
def PURLIN_LANE_CMD (n : Nat) : Nat := 0x400B0004 + 0x100 * n
def PURLIN_LANE_CMD_CNTCLR (n : Nat) : Ref := ⟨PURLIN_LANE_CMD n, 4, 4⟩
def PURLIN_LANE_CMD_ESGO (n : Nat) : Ref := ⟨PURLIN_LANE_CMD n, 3, 3⟩
def PURLIN_LANE_CMD_UNALIGN (n : Nat) : Ref := ⟨PURLIN_LANE_CMD n, 2, 2⟩
def PURLIN_LANE_CMD_ALIGN (n : Nat) : Ref := ⟨PURLIN_LANE_CMD n, 1, 1⟩
def PURLIN_LANE_CMD_SLIP (n : Nat) : Ref := ⟨PURLIN_LANE_CMD n, 0, 0⟩
def PURLIN_LANE_STAT (n : Nat) : Nat := 0x400B0008 + 0x100 * n
def PURLIN_LANE_STAT_RXLOCK (n : Nat) : Ref := ⟨PURLIN_LANE_STAT n, 31, 31⟩
def PURLIN_LANE_STAT_ALIGNED (n : Nat) : Ref := ⟨PURLIN_LANE_STAT n, 30, 30⟩
def PURLIN_LANE_STAT_LATV (n : Nat) : Ref := ⟨PURLIN_LANE_STAT n, 29, 29⟩
def PURLIN_LANE_STAT_LUP (n : Nat) : Ref := ⟨PURLIN_LANE_STAT n, 28, 28⟩
def PURLIN_LANE_STAT_MMX (n : Nat) : Ref := ⟨PURLIN_LANE_STAT n, 27, 27⟩
def PURLIN_LANE_STAT_HBAD (n : Nat) : Ref := ⟨PURLIN_LANE_STAT n, 26, 16⟩
def PURLIN_LANE_STAT_ALOST (n : Nat) : Ref := ⟨PURLIN_LANE_STAT n, 15, 15⟩
def PURLIN_LANE_STAT_BURST (n : Nat) : Ref := ⟨PURLIN_LANE_STAT n, 14, 14⟩
def PURLIN_LANE_STAT_LLE (n : Nat) : Ref := ⟨PURLIN_LANE_STAT n, 13, 13⟩
def PURLIN_LANE_STAT_KEYW (n : Nat) : Ref := ⟨PURLIN_LANE_STAT n, 12, 12⟩
def PURLIN_LANE_STAT_TRNF (n : Nat) : Ref := ⟨PURLIN_LANE_STAT n, 11, 11⟩
def PURLIN_LANE_STAT_DMS (n : Nat) : Ref := ⟨PURLIN_LANE_STAT n, 10, 10⟩
def PURLIN_LANE_STAT_ESD (n : Nat) : Ref := ⟨PURLIN_LANE_STAT n, 9, 9⟩
def PURLIN_LANE_STAT_TWF (n : Nat) : Ref := ⟨PURLIN_LANE_STAT n, 8, 8⟩
def PURLIN_LANE_STAT_OVLT (n : Nat) : Ref := ⟨PURLIN_LANE_STAT n, 7, 7⟩
def PURLIN_LANE_STAT_CFE (n : Nat) : Ref := ⟨PURLIN_LANE_STAT n, 6, 6⟩
def PURLIN_LANE_STAT_WLE (n : Nat) : Ref := ⟨PURLIN_LANE_STAT n, 5, 5⟩
def PURLIN_LANE_STAT_MTB (n : Nat) : Ref := ⟨PURLIN_LANE_STAT n, 4, 4⟩
def PURLIN_LANE_TILE (n : Nat) : Nat := 0x400B000C + 0x100 * n
def PURLIN_LANE_TILE_NSAMP (n : Nat) : Ref := ⟨PURLIN_LANE_TILE n, 31, 27⟩
def PURLIN_LANE_TILE_ESCB (n : Nat) : Ref := ⟨PURLIN_LANE_TILE n, 26, 22⟩
def PURLIN_LANE_TILE_TRIPACT (n : Nat) : Ref := ⟨PURLIN_LANE_TILE n, 21, 20⟩
def PURLIN_LANE_TILE_TWD (n : Nat) : Ref := ⟨PURLIN_LANE_TILE n, 15, 0⟩
def PURLIN_LANE_TPROC (n : Nat) : Nat := 0x400B0010 + 0x100 * n
def PURLIN_LANE_TPROC_TPROC (n : Nat) : Ref := ⟨PURLIN_LANE_TPROC n, 9, 0⟩
def PURLIN_LANE_LAT (n : Nat) : Nat := 0x400B0014 + 0x100 * n
def PURLIN_LANE_LAT_LAT (n : Nat) : Ref := ⟨PURLIN_LANE_LAT n, 31, 0⟩
def PURLIN_LANE_LMIN (n : Nat) : Nat := 0x400B0018 + 0x100 * n
def PURLIN_LANE_LMIN_LMIN (n : Nat) : Ref := ⟨PURLIN_LANE_LMIN n, 15, 0⟩
def PURLIN_LANE_ASYM (n : Nat) : Nat := 0x400B001C + 0x100 * n
def PURLIN_LANE_ASYM_ASYM (n : Nat) : Ref := ⟨PURLIN_LANE_ASYM n, 23, 0⟩
def PURLIN_LANE_ESCAN (n : Nat) : Nat := 0x400B0020 + 0x100 * n
def PURLIN_LANE_ESCAN_PH (n : Nat) : Ref := ⟨PURLIN_LANE_ESCAN n, 21, 16⟩
def PURLIN_LANE_ESCAN_VOFS (n : Nat) : Ref := ⟨PURLIN_LANE_ESCAN n, 14, 8⟩
def PURLIN_LANE_ESCAN_BITS (n : Nat) : Ref := ⟨PURLIN_LANE_ESCAN n, 4, 0⟩
def PURLIN_LANE_ESERR (n : Nat) : Nat := 0x400B0024 + 0x100 * n
def PURLIN_LANE_ESERR_ERR (n : Nat) : Ref := ⟨PURLIN_LANE_ESERR n, 31, 0⟩
def PURLIN_LANE_CNT (n : Nat) : Nat := 0x400B0028 + 0x100 * n
def PURLIN_LANE_CNT_CRCE (n : Nat) : Ref := ⟨PURLIN_LANE_CNT n, 31, 24⟩
def PURLIN_LANE_CNT_SEQG (n : Nat) : Ref := ⟨PURLIN_LANE_CNT n, 23, 16⟩
def PURLIN_LANE_CNT_TRNC (n : Nat) : Ref := ⟨PURLIN_LANE_CNT n, 15, 8⟩
def PURLIN_LANE_CNT_ALC (n : Nat) : Ref := ⟨PURLIN_LANE_CNT n, 7, 0⟩
def PURLIN_LANE_TRIP (n : Nat) : Nat := 0x400B002C + 0x100 * n
def PURLIN_LANE_TRIP_TRIP (n : Nat) : Ref := ⟨PURLIN_LANE_TRIP n, 5, 0⟩
def PURLIN_LANE_MSG (n : Nat) : Nat := 0x400B0030 + 0x100 * n
def PURLIN_LANE_MSG_TXQ (n : Nat) : Ref := ⟨PURLIN_LANE_MSG n, 28, 24⟩
def PURLIN_LANE_MSG_RXQ (n : Nat) : Ref := ⟨PURLIN_LANE_MSG n, 20, 16⟩
def PURLIN_LANE_MSG_PEER (n : Nat) : Ref := ⟨PURLIN_LANE_MSG n, 8, 0⟩
def PURLIN_LUP : Nat := 0x400B2000
def ENET_CFG (n : Nat) : Nat := 0x400C0000 + 0x400 * n
def ENET_CFG_EN (n : Nat) : Ref := ⟨ENET_CFG n, 31, 31⟩
def ENET_CFG_SGMII (n : Nat) : Ref := ⟨ENET_CFG n, 30, 30⟩
def ENET_CFG_ANEN (n : Nat) : Ref := ⟨ENET_CFG n, 29, 29⟩
def ENET_CFG_PROM (n : Nat) : Ref := ⟨ENET_CFG n, 28, 28⟩
def ENET_CFG_SAFE (n : Nat) : Ref := ⟨ENET_CFG n, 27, 27⟩
def ENET_STAT (n : Nat) : Nat := 0x400C0004 + 0x400 * n
def ENET_STAT_LINK (n : Nat) : Ref := ⟨ENET_STAT n, 31, 31⟩
def ENET_STAT_ANDONE (n : Nat) : Ref := ⟨ENET_STAT n, 30, 30⟩
def ENET_STAT_RXO (n : Nat) : Ref := ⟨ENET_STAT n, 5, 5⟩
def ENET_STAT_FCSE (n : Nat) : Ref := ⟨ENET_STAT n, 4, 4⟩
def ENET_STAT_LONG (n : Nat) : Ref := ⟨ENET_STAT n, 3, 3⟩
def ENET_STAT_CFE (n : Nat) : Ref := ⟨ENET_STAT n, 2, 2⟩
def ENET_STAT_WLE (n : Nat) : Ref := ⟨ENET_STAT n, 1, 1⟩
def ENET_MACL (n : Nat) : Nat := 0x400C0008 + 0x400 * n
def ENET_MACL_ADDR (n : Nat) : Ref := ⟨ENET_MACL n, 31, 0⟩
def ENET_MACH (n : Nat) : Nat := 0x400C000C + 0x400 * n
def ENET_MACH_ADDR (n : Nat) : Ref := ⟨ENET_MACH n, 15, 0⟩
def ENET_RXBASE (n : Nat) : Nat := 0x400C0010 + 0x400 * n
def ENET_RXBASE_BASE (n : Nat) : Ref := ⟨ENET_RXBASE n, 31, 4⟩
def ENET_TXBASE (n : Nat) : Nat := 0x400C0014 + 0x400 * n
def ENET_TXBASE_BASE (n : Nat) : Ref := ⟨ENET_TXBASE n, 31, 4⟩
def ENET_RING (n : Nat) : Nat := 0x400C0018 + 0x400 * n
def ENET_RING_RXN (n : Nat) : Ref := ⟨ENET_RING n, 15, 8⟩
def ENET_RING_TXN (n : Nat) : Ref := ⟨ENET_RING n, 7, 0⟩
def ENET_RXIDX (n : Nat) : Nat := 0x400C001C + 0x400 * n
def ENET_RXIDX_NEXT (n : Nat) : Ref := ⟨ENET_RXIDX n, 7, 0⟩
def ENET_TXIDX (n : Nat) : Nat := 0x400C0020 + 0x400 * n
def ENET_TXIDX_KICK (n : Nat) : Ref := ⟨ENET_TXIDX n, 31, 31⟩
def ENET_TXIDX_NEXT (n : Nat) : Ref := ⟨ENET_TXIDX n, 7, 0⟩
def ENET_SFDAL (n : Nat) : Nat := 0x400C0024 + 0x400 * n
def ENET_SFDAL_DA (n : Nat) : Ref := ⟨ENET_SFDAL n, 31, 0⟩
def ENET_SFDAH (n : Nat) : Nat := 0x400C0028 + 0x400 * n
def ENET_SFDAH_DA (n : Nat) : Ref := ⟨ENET_SFDAH n, 15, 0⟩
def ENET_SFVLAN (n : Nat) : Nat := 0x400C002C + 0x400 * n
def ENET_SFVLAN_TAG (n : Nat) : Ref := ⟨ENET_SFVLAN n, 31, 31⟩
def ENET_SFVLAN_PCP (n : Nat) : Ref := ⟨ENET_SFVLAN n, 15, 13⟩
def ENET_SFVLAN_VID (n : Nat) : Ref := ⟨ENET_SFVLAN n, 11, 0⟩
def ENET_ERR (n : Nat) : Nat := 0x400C0030 + 0x400 * n
def ENET_ERR_FCSC (n : Nat) : Ref := ⟨ENET_ERR n, 31, 24⟩
def ENET_ERR_RXDC (n : Nat) : Ref := ⟨ENET_ERR n, 23, 16⟩
def ENET_ERR_LONGC (n : Nat) : Ref := ⟨ENET_ERR n, 15, 8⟩
def RIDGE_CFG : Nat := 0x400D0000
def RIDGE_CFG_RXEN : Ref := ⟨RIDGE_CFG, 31, 31⟩
def RIDGE_CFG_GSRC : Ref := ⟨RIDGE_CFG, 15, 0⟩
def RIDGE_CMD : Nat := 0x400D0004
def RIDGE_CMD_CLR : Ref := ⟨RIDGE_CMD, 1, 1⟩
def RIDGE_CMD_TRIP : Ref := ⟨RIDGE_CMD, 0, 0⟩
def RIDGE_STAT : Nat := 0x400D0008
def RIDGE_STAT_RTL : Ref := ⟨RIDGE_STAT, 31, 31⟩
def RIDGE_STAT_LVL : Ref := ⟨RIDGE_STAT, 30, 30⟩
def RIDGE_STAT_SRC : Ref := ⟨RIDGE_STAT, 29, 29⟩
def RIDGE_STAT_RSTK : Ref := ⟨RIDGE_STAT, 28, 28⟩
def RIDGE_STAT_RSC : Ref := ⟨RIDGE_STAT, 27, 27⟩
def RIDGE_STAT_RSE : Ref := ⟨RIDGE_STAT, 26, 26⟩
def RIDGE_STAT_TCNT : Ref := ⟨RIDGE_STAT, 15, 0⟩
def RIDGE_TS : Nat := 0x400D000C
def RIDGE_TS_STAMP : Ref := ⟨RIDGE_TS, 31, 0⟩
def RIDGE_RSYNC : Nat := 0x400D0010
def RIDGE_RSYNC_DLY : Ref := ⟨RIDGE_RSYNC, 23, 0⟩
def RIDGE_RSTS : Nat := 0x400D0014
def RIDGE_RSTS_STAMP : Ref := ⟨RIDGE_RSTS, 31, 0⟩
def EAVES_STAT : Nat := 0x400E0000
def EAVES_STAT_VMAIN : Ref := ⟨EAVES_STAT, 31, 31⟩
def EAVES_STAT_HRUN : Ref := ⟨EAVES_STAT, 30, 30⟩
def EAVES_STAT_CONT : Ref := ⟨EAVES_STAT, 29, 29⟩
def EAVES_STAT_HOT : Ref := ⟨EAVES_STAT, 28, 28⟩
def EAVES_STAT_OK45 : Ref := ⟨EAVES_STAT, 27, 27⟩
def EAVES_STAT_LOSSV : Ref := ⟨EAVES_STAT, 26, 26⟩
def EAVES_STAT_RCF : Ref := ⟨EAVES_STAT, 7, 7⟩
def EAVES_STAT_DEFF : Ref := ⟨EAVES_STAT, 6, 6⟩
def EAVES_STAT_LOGL : Ref := ⟨EAVES_STAT, 5, 5⟩
def EAVES_STAT_TMPF : Ref := ⟨EAVES_STAT, 4, 4⟩
def EAVES_STAT_COLD : Ref := ⟨EAVES_STAT, 3, 3⟩
def EAVES_STAT_MFL : Ref := ⟨EAVES_STAT, 2, 2⟩
def EAVES_CFG : Nat := 0x400E0004
def EAVES_CFG_LSCHG : Ref := ⟨EAVES_CFG, 31, 30⟩
def EAVES_CFG_VLSMAX : Ref := ⟨EAVES_CFG, 29, 28⟩
def EAVES_CFG_HEN : Ref := ⟨EAVES_CFG, 27, 27⟩
def EAVES_CFG_FCONT : Ref := ⟨EAVES_CFG, 26, 26⟩
def EAVES_CFG_ALEN : Ref := ⟨EAVES_CFG, 25, 25⟩
def EAVES_CFG_AUTOTRIM : Ref := ⟨EAVES_CFG, 24, 24⟩
def EAVES_CFG_CKPER : Ref := ⟨EAVES_CFG, 15, 0⟩
def EAVES_STORE : Nat := 0x400E0008
def EAVES_STORE_QSC : Ref := ⟨EAVES_STORE, 31, 16⟩
def EAVES_STORE_LSC : Ref := ⟨EAVES_STORE, 15, 0⟩
def EAVES_VMEAS : Nat := 0x400E000C
def EAVES_VMEAS_VQS : Ref := ⟨EAVES_VMEAS, 31, 16⟩
def EAVES_VMEAS_VLS : Ref := ⟨EAVES_VMEAS, 15, 0⟩
def EAVES_SECL : Nat := 0x400E0010
def EAVES_SECL_SEC : Ref := ⟨EAVES_SECL, 31, 0⟩
def EAVES_SECH : Nat := 0x400E0014
def EAVES_SECH_SUB : Ref := ⟨EAVES_SECH, 30, 16⟩
def EAVES_SECH_SEC : Ref := ⟨EAVES_SECH, 15, 0⟩
def EAVES_TRIM : Nat := 0x400E0018
def EAVES_TRIM_TRIM : Ref := ⟨EAVES_TRIM, 11, 0⟩
def EAVES_TAMP : Nat := 0x400E001C
def EAVES_TAMP_EN : Ref := ⟨EAVES_TAMP, 31, 28⟩
def EAVES_TAMP_POL : Ref := ⟨EAVES_TAMP, 27, 24⟩
def EAVES_TAMP_WK : Ref := ⟨EAVES_TAMP, 23, 20⟩
def EAVES_TAMP_LVL : Ref := ⟨EAVES_TAMP, 7, 4⟩
def EAVES_TAMP_TF : Ref := ⟨EAVES_TAMP, 3, 0⟩
def EAVES_WAKE : Nat := 0x400E0020
def EAVES_WAKE_ASEC : Ref := ⟨EAVES_WAKE, 31, 0⟩
def EAVES_LOSSSEC : Nat := 0x400E0024
def EAVES_LOSSSEC_SEC : Ref := ⟨EAVES_LOSSSEC, 31, 0⟩
def EAVES_LOSSNS : Nat := 0x400E0028
def EAVES_LOSSNS_NS : Ref := ⟨EAVES_LOSSNS, 31, 0⟩
def EAVES_DEFCNT : Nat := 0x400E002C
def EAVES_DEFCNT_CLR : Ref := ⟨EAVES_DEFCNT, 31, 31⟩
def EAVES_DEFCNT_CNT : Ref := ⟨EAVES_DEFCNT, 15, 0⟩
def EAVES_BSRC : Nat := 0x400E0030
def EAVES_BSRC_ADDR : Ref := ⟨EAVES_BSRC, 31, 2⟩
def EAVES_BDST : Nat := 0x400E0034
def EAVES_BDST_ADDR : Ref := ⟨EAVES_BDST, 31, 2⟩
def EAVES_BCTL : Nat := 0x400E0038
def EAVES_BCTL_GO : Ref := ⟨EAVES_BCTL, 31, 31⟩
def EAVES_BCTL_MARK : Ref := ⟨EAVES_BCTL, 24, 16⟩
def EAVES_BCTL_LENW : Ref := ⟨EAVES_BCTL, 9, 0⟩
def EAVES_BSTAT : Nat := 0x400E003C
def EAVES_BSTAT_BUSY : Ref := ⟨EAVES_BSTAT, 31, 31⟩
def EAVES_BSTAT_CODE : Ref := ⟨EAVES_BSTAT, 7, 0⟩
def THATCH_STAT : Nat := 0x400F0000
def THATCH_STAT_RDEN : Ref := ⟨THATCH_STAT, 31, 31⟩
def THATCH_STAT_CLREN : Ref := ⟨THATCH_STAT, 30, 30⟩
def THATCH_STAT_SCAN : Ref := ⟨THATCH_STAT, 29, 29⟩
def THATCH_STAT_CST : Ref := ⟨THATCH_STAT, 28, 27⟩
def THATCH_STAT_VALID : Ref := ⟨THATCH_STAT, 26, 26⟩
def THATCH_STAT_FIFO : Ref := ⟨THATCH_STAT, 15, 8⟩
def THATCH_STAT_PSTE : Ref := ⟨THATCH_STAT, 2, 2⟩
def THATCH_STAT_CLF : Ref := ⟨THATCH_STAT, 1, 1⟩
def THATCH_STAT_CLD : Ref := ⟨THATCH_STAT, 0, 0⟩
def THATCH_HEAD : Nat := 0x400F0004
def THATCH_HEAD_SEQ : Ref := ⟨THATCH_HEAD, 31, 0⟩
def THATCH_TAIL : Nat := 0x400F0008
def THATCH_TAIL_SEQ : Ref := ⟨THATCH_TAIL, 31, 0⟩
def THATCH_CUR : Nat := 0x400F000C
def THATCH_CUR_SEQ : Ref := ⟨THATCH_CUR, 31, 0⟩
def THATCH_LOST : Nat := 0x400F0010
def THATCH_LOST_CNT : Ref := ⟨THATCH_LOST, 31, 0⟩
def THATCH_REPWIN : Nat := 0x400F0014
def THATCH_REPWIN_WIN : Ref := ⟨THATCH_REPWIN, 15, 0⟩
def THATCH_WIN (n : Nat) : Nat := 0x400F0020 + 0x4 * n
def THATCH_WIN_DATA (n : Nat) : Ref := ⟨THATCH_WIN n, 31, 0⟩
def THATCH_POST0 : Nat := 0x400F0040
def THATCH_POST0_EVENT : Ref := ⟨THATCH_POST0, 31, 16⟩
def THATCH_POST1 : Nat := 0x400F0044
def THATCH_POST1_PAYLOAD : Ref := ⟨THATCH_POST1, 31, 0⟩
def THATCH_POST2 : Nat := 0x400F0048
def THATCH_POST2_PAYLOAD : Ref := ⟨THATCH_POST2, 31, 0⟩
def THATCH_POST3 : Nat := 0x400F004C
def THATCH_POST3_PAYLOAD : Ref := ⟨THATCH_POST3, 31, 0⟩
def THATCH_CLRREQ : Nat := 0x400F0050
def THATCH_CLRREQ_PURP : Ref := ⟨THATCH_CLRREQ, 7, 0⟩
def THATCH_CH (n : Nat) : Nat := 0x400F0054 + 0x4 * n
def THATCH_CH_N (n : Nat) : Ref := ⟨THATCH_CH n, 31, 0⟩
def THATCH_RSP (n : Nat) : Nat := 0x400F0060 + 0x4 * n
def THATCH_RSP_HMAC (n : Nat) : Ref := ⟨THATCH_RSP n, 31, 0⟩
def QUEUE_CFG (n : Nat) : Nat := 0x40100000 + 0x20 * n
def QUEUE_CFG_EN (n : Nat) : Ref := ⟨QUEUE_CFG n, 31, 31⟩
def QUEUE_CFG_DEST (n : Nat) : Ref := ⟨QUEUE_CFG n, 30, 27⟩
def QUEUE_CFG_ESZ (n : Nat) : Ref := ⟨QUEUE_CFG n, 21, 16⟩
def QUEUE_CFG_DEPTH (n : Nat) : Ref := ⟨QUEUE_CFG n, 8, 0⟩
def QUEUE_BASE (n : Nat) : Nat := 0x40100004 + 0x20 * n
def QUEUE_BASE_ADDR (n : Nat) : Ref := ⟨QUEUE_BASE n, 31, 2⟩
def QUEUE_RIGHTS (n : Nat) : Nat := 0x40100008 + 0x20 * n
def QUEUE_RIGHTS_POP (n : Nat) : Ref := ⟨QUEUE_RIGHTS n, 26, 16⟩
def QUEUE_RIGHTS_PUSH (n : Nat) : Ref := ⟨QUEUE_RIGHTS n, 10, 0⟩
def QUEUE_STAT (n : Nat) : Nat := 0x4010000C + 0x20 * n
def QUEUE_STAT_FREE (n : Nat) : Ref := ⟨QUEUE_STAT n, 24, 16⟩
def QUEUE_STAT_CFE (n : Nat) : Ref := ⟨QUEUE_STAT n, 15, 15⟩
def QUEUE_STAT_WLE (n : Nat) : Ref := ⟨QUEUE_STAT n, 14, 14⟩
def QUEUE_STAT_FULLE (n : Nat) : Ref := ⟨QUEUE_STAT n, 13, 13⟩
def QUEUE_STAT_TBE (n : Nat) : Ref := ⟨QUEUE_STAT n, 12, 12⟩
def QUEUE_STAT_PRV (n : Nat) : Ref := ⟨QUEUE_STAT n, 11, 11⟩
def QUEUE_STAT_DSC (n : Nat) : Ref := ⟨QUEUE_STAT n, 10, 10⟩
def QUEUE_STAT_OCC (n : Nat) : Ref := ⟨QUEUE_STAT n, 8, 0⟩
def QUEUE_IRQ (n : Nat) : Nat := 0x40100010 + 0x20 * n
def QUEUE_IRQ_NEEN (n : Nat) : Ref := ⟨QUEUE_IRQ n, 31, 31⟩
def QUEUE_IRQ_SPEN (n : Nat) : Ref := ⟨QUEUE_IRQ n, 30, 30⟩
def QUEUE_IRQ_SPTH (n : Nat) : Ref := ⟨QUEUE_IRQ n, 8, 0⟩
def QUEUE_PEND : Nat := 0x40100400
def QUEUE_PEND_Q : Ref := ⟨QUEUE_PEND, 31, 0⟩
def QUEUE_HBUF (n : Nat) : Nat := 0x40108000 + 0x4 * n
def QUEUE_HBUF_DATA (n : Nat) : Ref := ⟨QUEUE_HBUF n, 31, 0⟩
def QUEUE_HCMD : Nat := 0x40108100
def QUEUE_HCMD_LEN : Ref := ⟨QUEUE_HCMD, 24, 16⟩
def QUEUE_HCMD_QNUM : Ref := ⟨QUEUE_HCMD, 12, 8⟩
def QUEUE_HCMD_OP : Ref := ⟨QUEUE_HCMD, 1, 0⟩
def QUEUE_HRES : Nat := 0x40108104
def QUEUE_HRES_RES : Ref := ⟨QUEUE_HRES, 31, 0⟩
def RAFTER_CTX_STAT (n : Nat) : Nat := 0x40110000 + 0x4 * n
def RAFTER_CTX_STAT_FBP (n : Nat) : Ref := ⟨RAFTER_CTX_STAT n, 13, 12⟩
def RAFTER_CTX_STAT_WLE (n : Nat) : Ref := ⟨RAFTER_CTX_STAT n, 11, 11⟩
def RAFTER_CTX_STAT_YLF (n : Nat) : Ref := ⟨RAFTER_CTX_STAT n, 10, 10⟩
def RAFTER_CTX_STAT_DRP (n : Nat) : Ref := ⟨RAFTER_CTX_STAT n, 9, 9⟩
def RAFTER_CTX_STAT_RLX (n : Nat) : Ref := ⟨RAFTER_CTX_STAT n, 8, 8⟩
def RAFTER_CTX_STAT_OVRN (n : Nat) : Ref := ⟨RAFTER_CTX_STAT n, 7, 7⟩
def RAFTER_CTX_STAT_FBEV (n : Nat) : Ref := ⟨RAFTER_CTX_STAT n, 6, 6⟩
def RAFTER_CTX_STAT_FIRST (n : Nat) : Ref := ⟨RAFTER_CTX_STAT n, 5, 5⟩
def RAFTER_CTX_STAT_PEND (n : Nat) : Ref := ⟨RAFTER_CTX_STAT n, 4, 4⟩
def RAFTER_CTX_STAT_SWP (n : Nat) : Ref := ⟨RAFTER_CTX_STAT n, 3, 3⟩
def RAFTER_CTX_STAT_FBL (n : Nat) : Ref := ⟨RAFTER_CTX_STAT n, 2, 2⟩
def RAFTER_CTX_STAT_CFG (n : Nat) : Ref := ⟨RAFTER_CTX_STAT n, 1, 1⟩
def RAFTER_CTX_STAT_OPN (n : Nat) : Ref := ⟨RAFTER_CTX_STAT n, 0, 0⟩
def RAFTER_CORE_MODE (n : Nat) : Nat := 0x40110400 + 0x20 * n
def RAFTER_CORE_MODE_DSPEN (n : Nat) : Ref := ⟨RAFTER_CORE_MODE n, 8, 8⟩
def RAFTER_CORE_MODE_SVYR (n : Nat) : Ref := ⟨RAFTER_CORE_MODE n, 1, 1⟩
def RAFTER_CORE_MODE_SVY (n : Nat) : Ref := ⟨RAFTER_CORE_MODE n, 0, 0⟩
def RAFTER_CORE_STAT (n : Nat) : Nat := 0x40110404 + 0x20 * n
def RAFTER_CORE_STAT_RCNT (n : Nat) : Ref := ⟨RAFTER_CORE_STAT n, 23, 16⟩
def RAFTER_CORE_STAT_RSTR (n : Nat) : Ref := ⟨RAFTER_CORE_STAT n, 15, 15⟩
def RAFTER_CORE_STAT_UNDO (n : Nat) : Ref := ⟨RAFTER_CORE_STAT n, 6, 0⟩
def RAFTER_CORE_UTIL (n : Nat) : Nat := 0x40110408 + 0x20 * n
def RAFTER_CORE_UTIL_BUSY (n : Nat) : Ref := ⟨RAFTER_CORE_UTIL n, 15, 0⟩
def RAFTER_CORE_CTXCMD (n : Nat) : Nat := 0x4011040C + 0x20 * n
def RAFTER_CORE_CTXCMD_OP (n : Nat) : Ref := ⟨RAFTER_CORE_CTXCMD n, 9, 8⟩
def RAFTER_CORE_CTXCMD_CTX (n : Nat) : Ref := ⟨RAFTER_CORE_CTXCMD n, 7, 0⟩
def RAFTER_CORE_CTXRES (n : Nat) : Nat := 0x40110410 + 0x20 * n
def RAFTER_CORE_CTXRES_SRC (n : Nat) : Ref := ⟨RAFTER_CORE_CTXRES n, 19, 16⟩
def RAFTER_CORE_CTXRES_CTX (n : Nat) : Ref := ⟨RAFTER_CORE_CTXRES n, 15, 8⟩
def RAFTER_CORE_CTXRES_CODE (n : Nat) : Ref := ⟨RAFTER_CORE_CTXRES n, 7, 0⟩
def RAFTER_PU_CFG (n : Nat) : Nat := 0x40110800 + 0x800 * n
def RAFTER_PU_CFG_EN (n : Nat) : Ref := ⟨RAFTER_PU_CFG n, 31, 31⟩
def RAFTER_PU_CFG_FNOM (n : Nat) : Ref := ⟨RAFTER_PU_CFG n, 30, 30⟩
def RAFTER_PU_CFG_RATE (n : Nat) : Ref := ⟨RAFTER_PU_CFG n, 29, 26⟩
def RAFTER_PU_CFG_HEN (n : Nat) : Ref := ⟨RAFTER_PU_CFG n, 25, 25⟩
def RAFTER_PU_CFG_QEN (n : Nat) : Ref := ⟨RAFTER_PU_CFG n, 24, 24⟩
def RAFTER_PU_CFG_QNUM (n : Nat) : Ref := ⟨RAFTER_PU_CFG n, 22, 18⟩
def RAFTER_PU_CFG_CHEN (n : Nat) : Ref := ⟨RAFTER_PU_CFG n, 5, 0⟩
def RAFTER_PU_SRC (n : Nat) : Nat := 0x40110804 + 0x800 * n
def RAFTER_PU_SRC_CH0 (n : Nat) : Ref := ⟨RAFTER_PU_SRC n, 4, 0⟩
def RAFTER_PU_SRC_CH1 (n : Nat) : Ref := ⟨RAFTER_PU_SRC n, 9, 5⟩
def RAFTER_PU_SRC_CH2 (n : Nat) : Ref := ⟨RAFTER_PU_SRC n, 14, 10⟩
def RAFTER_PU_SRC_CH3 (n : Nat) : Ref := ⟨RAFTER_PU_SRC n, 19, 15⟩
def RAFTER_PU_SRC_CH4 (n : Nat) : Ref := ⟨RAFTER_PU_SRC n, 24, 20⟩
def RAFTER_PU_SRC_CH5 (n : Nat) : Ref := ⟨RAFTER_PU_SRC n, 29, 25⟩
def RAFTER_PU_STAT (n : Nat) : Nat := 0x40110808 + 0x800 * n
def RAFTER_PU_STAT_QDRP (n : Nat) : Ref := ⟨RAFTER_PU_STAT n, 21, 21⟩
def RAFTER_PU_STAT_ISL (n : Nat) : Ref := ⟨RAFTER_PU_STAT n, 20, 20⟩
def RAFTER_PU_STAT_FRQ (n : Nat) : Ref := ⟨RAFTER_PU_STAT n, 19, 19⟩
def RAFTER_PU_STAT_VSF (n : Nat) : Ref := ⟨RAFTER_PU_STAT n, 18, 18⟩
def RAFTER_PU_STAT_ROCF (n : Nat) : Ref := ⟨RAFTER_PU_STAT n, 17, 17⟩
def RAFTER_PU_STAT_CFE (n : Nat) : Ref := ⟨RAFTER_PU_STAT n, 16, 16⟩
def RAFTER_PU_STAT_ABST (n : Nat) : Ref := ⟨RAFTER_PU_STAT n, 12, 12⟩
def RAFTER_PU_STAT_FL (n : Nat) : Ref := ⟨RAFTER_PU_STAT n, 11, 11⟩
def RAFTER_PU_STAT_VSL (n : Nat) : Ref := ⟨RAFTER_PU_STAT n, 10, 10⟩
def RAFTER_PU_STAT_ROCL (n : Nat) : Ref := ⟨RAFTER_PU_STAT n, 9, 9⟩
def RAFTER_PU_STAT_SETL (n : Nat) : Ref := ⟨RAFTER_PU_STAT n, 8, 8⟩
def RAFTER_PU_STAT_VALID (n : Nat) : Ref := ⟨RAFTER_PU_STAT n, 7, 7⟩
def RAFTER_PU_STAT_HV (n : Nat) : Ref := ⟨RAFTER_PU_STAT n, 6, 6⟩
def RAFTER_PU_STAT_CHBAD (n : Nat) : Ref := ⟨RAFTER_PU_STAT n, 5, 0⟩
def RAFTER_PU_PADDR (n : Nat) : Nat := 0x4011080C + 0x800 * n
def RAFTER_PU_PADDR_ADDR (n : Nat) : Ref := ⟨RAFTER_PU_PADDR n, 18, 3⟩
def RAFTER_PU_PADDR_PWEN (n : Nat) : Ref := ⟨RAFTER_PU_PADDR n, 0, 0⟩
def RAFTER_PU_ROC (n : Nat) : Nat := 0x40110810 + 0x800 * n
def RAFTER_PU_ROC_ROCLIM (n : Nat) : Ref := ⟨RAFTER_PU_ROC n, 31, 16⟩
def RAFTER_PU_ROC_FT (n : Nat) : Ref := ⟨RAFTER_PU_ROC n, 15, 8⟩
def RAFTER_PU_ROC_ROCT (n : Nat) : Ref := ⟨RAFTER_PU_ROC n, 7, 0⟩
def RAFTER_PU_VS (n : Nat) : Nat := 0x40110814 + 0x800 * n
def RAFTER_PU_VS_VSLIM (n : Nat) : Ref := ⟨RAFTER_PU_VS n, 31, 16⟩
def RAFTER_PU_FLIM (n : Nat) : Nat := 0x40110818 + 0x800 * n
def RAFTER_PU_FLIM_FHI (n : Nat) : Ref := ⟨RAFTER_PU_FLIM n, 31, 16⟩
def RAFTER_PU_FLIM_FLO (n : Nat) : Ref := ⟨RAFTER_PU_FLIM n, 15, 0⟩
def RAFTER_PU_FREQ (n : Nat) : Nat := 0x40110820 + 0x800 * n
def RAFTER_PU_FREQ_FREQ (n : Nat) : Ref := ⟨RAFTER_PU_FREQ n, 31, 0⟩
def RAFTER_PU_ROCOF (n : Nat) : Nat := 0x40110824 + 0x800 * n
def RAFTER_PU_ROCOF_ROCOF (n : Nat) : Ref := ⟨RAFTER_PU_ROCOF n, 31, 0⟩
def RAFTER_PU_TSEC (n : Nat) : Nat := 0x40110828 + 0x800 * n
def RAFTER_PU_TSEC_SEC (n : Nat) : Ref := ⟨RAFTER_PU_TSEC n, 31, 0⟩
def RAFTER_PU_TNS (n : Nat) : Nat := 0x4011082C + 0x800 * n
def RAFTER_PU_TNS_NS (n : Nat) : Ref := ⟨RAFTER_PU_TNS n, 31, 0⟩
def RAFTER_PU_VPMAG (n : Nat) : Nat := 0x40110860 + 0x800 * n
def RAFTER_PU_VPMAG_Vp (n : Nat) : Ref := ⟨RAFTER_PU_VPMAG n, 31, 0⟩
def RAFTER_PU_VPANG (n : Nat) : Nat := 0x40110864 + 0x800 * n
def RAFTER_PU_VPANG_Vp (n : Nat) : Ref := ⟨RAFTER_PU_VPANG n, 31, 0⟩
def RAFTER_PU_IPMAG (n : Nat) : Nat := 0x40110868 + 0x800 * n
def RAFTER_PU_IPMAG_Ip (n : Nat) : Ref := ⟨RAFTER_PU_IPMAG n, 31, 0⟩
def RAFTER_PU_IPANG (n : Nat) : Nat := 0x4011086C + 0x800 * n
def RAFTER_PU_IPANG_Ip (n : Nat) : Ref := ⟨RAFTER_PU_IPANG n, 31, 0⟩
def RAFTER_PU_VNMAG (n : Nat) : Nat := 0x40110870 + 0x800 * n
def RAFTER_PU_VNMAG_VN (n : Nat) : Ref := ⟨RAFTER_PU_VNMAG n, 31, 0⟩
def RAFTER_PU_VSV (n : Nat) : Nat := 0x40110874 + 0x800 * n
def RAFTER_PU_VSV_VS (n : Nat) : Ref := ⟨RAFTER_PU_VSV n, 31, 0⟩
def RAFTER_PU_MAG (n k : Nat) : Nat := 0x40110830 + 0x800 * n + 0x8 * k
def RAFTER_PU_MAG_MAG (n k : Nat) : Ref := ⟨RAFTER_PU_MAG n k, 31, 0⟩
def RAFTER_PU_ANG (n k : Nat) : Nat := 0x40110834 + 0x800 * n + 0x8 * k
def RAFTER_PU_ANG_ANG (n k : Nat) : Ref := ⟨RAFTER_PU_ANG n k, 31, 0⟩
def RAFTER_PU_ISEPL (n : Nat) : Nat := 0x40110880 + 0x800 * n
def RAFTER_PU_ISEPL_EPL (n : Nat) : Ref := ⟨RAFTER_PU_ISEPL n, 31, 0⟩
def RAFTER_PU_ISEPH (n : Nat) : Nat := 0x40110884 + 0x800 * n
def RAFTER_PU_ISEPH_EPH (n : Nat) : Ref := ⟨RAFTER_PU_ISEPH n, 15, 0⟩
def RAFTER_PU_ISPER (n : Nat) : Nat := 0x40110888 + 0x800 * n
def RAFTER_PU_ISPER_PER (n : Nat) : Ref := ⟨RAFTER_PU_ISPER n, 15, 0⟩
def RAFTER_PU_ISOFF (n : Nat) : Nat := 0x4011088C + 0x800 * n
def RAFTER_PU_ISOFF_OFF (n : Nat) : Ref := ⟨RAFTER_PU_ISOFF n, 30, 0⟩
def RAFTER_PU_ISBIAS (n : Nat) : Nat := 0x40110890 + 0x800 * n
def RAFTER_PU_ISBIAS_BIAS (n : Nat) : Ref := ⟨RAFTER_PU_ISBIAS n, 16, 0⟩
def RAFTER_PU_ISSIGN (n : Nat) : Nat := 0x40110894 + 0x800 * n
def RAFTER_PU_ISSIGN_SIGN (n : Nat) : Ref := ⟨RAFTER_PU_ISSIGN n, 31, 0⟩
def RAFTER_PU_ISCFG (n : Nat) : Nat := 0x40110898 + 0x800 * n
def RAFTER_PU_ISCFG_IEN (n : Nat) : Ref := ⟨RAFTER_PU_ISCFG n, 31, 31⟩
def RAFTER_PU_ISCFG_SOLO (n : Nat) : Ref := ⟨RAFTER_PU_ISCFG n, 30, 30⟩
def RAFTER_PU_ISCFG_NRESP (n : Nat) : Ref := ⟨RAFTER_PU_ISCFG n, 27, 24⟩
def RAFTER_PU_ISCFG_APTH (n : Nat) : Ref := ⟨RAFTER_PU_ISCFG n, 15, 0⟩
def RAFTER_PU_ISSTAT (n : Nat) : Nat := 0x4011089C + 0x800 * n
def RAFTER_PU_ISSTAT_KLO (n : Nat) : Ref := ⟨RAFTER_PU_ISSTAT n, 31, 16⟩
def RAFTER_PU_ISSTAT_RCNT (n : Nat) : Ref := ⟨RAFTER_PU_ISSTAT n, 15, 12⟩
def RAFTER_PU_ISSTAT_WIN (n : Nat) : Ref := ⟨RAFTER_PU_ISSTAT n, 0, 0⟩
def RAFTER_PU_ISDF (n : Nat) : Nat := 0x401108A0 + 0x800 * n
def RAFTER_PU_ISDF_DF (n : Nat) : Ref := ⟨RAFTER_PU_ISDF n, 31, 0⟩
def RAFTER_PU_HARM0 (n k : Nat) : Nat := 0x40110900 + 0x800 * n + 0x4 * k
def RAFTER_PU_HARM0_RMS (n k : Nat) : Ref := ⟨RAFTER_PU_HARM0 n k, 31, 0⟩
def RAFTER_PU_TRSS0 (n : Nat) : Nat := 0x401109A0 + 0x800 * n
def RAFTER_PU_TRSS0_TRSS (n : Nat) : Ref := ⟨RAFTER_PU_TRSS0 n, 31, 0⟩
def RAFTER_PU_HARM1 (n k : Nat) : Nat := 0x40110A00 + 0x800 * n + 0x4 * k
def RAFTER_PU_HARM1_RMS (n k : Nat) : Ref := ⟨RAFTER_PU_HARM1 n k, 31, 0⟩
def RAFTER_PU_TRSS1 (n : Nat) : Nat := 0x40110AA0 + 0x800 * n
def RAFTER_PU_TRSS1_TRSS (n : Nat) : Ref := ⟨RAFTER_PU_TRSS1 n, 31, 0⟩
def RAFTER_PU_HARM2 (n k : Nat) : Nat := 0x40110B00 + 0x800 * n + 0x4 * k
def RAFTER_PU_HARM2_RMS (n k : Nat) : Ref := ⟨RAFTER_PU_HARM2 n k, 31, 0⟩
def RAFTER_PU_TRSS2 (n : Nat) : Nat := 0x40110BA0 + 0x800 * n
def RAFTER_PU_TRSS2_TRSS (n : Nat) : Ref := ⟨RAFTER_PU_TRSS2 n, 31, 0⟩
def CFGSET_CTRL : Nat := 0x40120000
def CFGSET_CTRL_IMG : Ref := ⟨CFGSET_CTRL, 25, 25⟩
def CFGSET_CTRL_NEXT : Ref := ⟨CFGSET_CTRL, 24, 24⟩
def CFGSET_CTRL_SCH : Ref := ⟨CFGSET_CTRL, 23, 16⟩
def CFGSET_CTRL_PCNT : Ref := ⟨CFGSET_CTRL, 15, 0⟩
def CFGSET_CMD : Nat := 0x40120004
def CFGSET_CMD_SWAP : Ref := ⟨CFGSET_CMD, 2, 2⟩
def CFGSET_CMD_CHECK : Ref := ⟨CFGSET_CMD, 1, 1⟩
def CFGSET_CMD_LOAD : Ref := ⟨CFGSET_CMD, 0, 0⟩
def CFGSET_STAT : Nat := 0x40120008
def CFGSET_STAT_STATE : Ref := ⟨CFGSET_STAT, 31, 29⟩
def CFGSET_STAT_SWL : Ref := ⟨CFGSET_STAT, 28, 28⟩
def CFGSET_STAT_STU : Ref := ⟨CFGSET_STAT, 27, 27⟩
def CFGSET_STAT_DONE : Ref := ⟨CFGSET_STAT, 26, 26⟩
def CFGSET_STAT_WLE : Ref := ⟨CFGSET_STAT, 25, 25⟩
def CFGSET_STAT_SLOT : Ref := ⟨CFGSET_STAT, 24, 24⟩
def CFGSET_STAT_CODE : Ref := ⟨CFGSET_STAT, 23, 16⟩
def CFGSET_STAT_ERRIDX : Ref := ⟨CFGSET_STAT, 15, 0⟩
def CFGSET_MSEQ : Nat := 0x4012000C
def CFGSET_MSEQ_SEQ : Ref := ⟨CFGSET_MSEQ, 31, 0⟩
def CFGSET_IMG : Nat := 0x40120020
def CFGSET_IMG_VERIFY : Ref := ⟨CFGSET_IMG, 31, 31⟩
def CFGSET_IMG_SLOT : Ref := ⟨CFGSET_IMG, 0, 0⟩
def CFGSET_IMGSTAT : Nat := 0x40120024
def CFGSET_IMGSTAT_ST : Ref := ⟨CFGSET_IMGSTAT, 31, 30⟩
def CFGSET_IMGSTAT_CODE : Ref := ⟨CFGSET_IMGSTAT, 23, 16⟩
def CFGSET_IMGSTAT_VERL : Ref := ⟨CFGSET_IMGSTAT, 15, 0⟩
def CFGSET_BANK : Nat := 0x40120028
def CFGSET_BANK_SPLIT : Ref := ⟨CFGSET_BANK, 15, 8⟩
def CFGSET_BANK_ACT : Ref := ⟨CFGSET_BANK, 7, 0⟩
def HOST_CFG : Nat := 0x40130000
def HOST_CFG_HOLDTO : Ref := ⟨HOST_CFG, 31, 16⟩
def HOST_CFG_HOD : Ref := ⟨HOST_CFG, 1, 1⟩
def HOST_CFG_SPIEN : Ref := ⟨HOST_CFG, 0, 0⟩
def HOST_STAT : Nat := 0x40130004
def HOST_STAT_HELD : Ref := ⟨HOST_STAT, 7, 7⟩
def HOST_STAT_RAB : Ref := ⟨HOST_STAT, 6, 6⟩
def HOST_STAT_BERR : Ref := ⟨HOST_STAT, 5, 5⟩
def HOST_STAT_PWE : Ref := ⟨HOST_STAT, 4, 4⟩
def HOST_STAT_SPE : Ref := ⟨HOST_STAT, 3, 3⟩
def HOST_STAT_SWE : Ref := ⟨HOST_STAT, 2, 2⟩
def HOST_EADDR : Nat := 0x40130008
def HOST_EADDR_ADDR : Ref := ⟨HOST_EADDR, 31, 0⟩
def HOST_HADDR : Nat := 0x4013000C
def HOST_HADDR_ADDR : Ref := ⟨HOST_HADDR, 31, 0⟩
def HOST_DBSET : Nat := 0x40130010
def HOST_DBSET_SET : Ref := ⟨HOST_DBSET, 3, 0⟩
def HOST_DBELL : Nat := 0x40130014
def HOST_DBELL_DB : Ref := ⟨HOST_DBELL, 3, 0⟩
def HOST_ISUM (n : Nat) : Nat := 0x40130040 + 0x4 * n
def HOST_ISUM_DB (n : Nat) : Ref := ⟨HOST_ISUM n, 23, 20⟩
def HOST_ISUM_LINE (n : Nat) : Ref := ⟨HOST_ISUM n, 19, 0⟩
def HOST_IEN (n : Nat) : Nat := 0x40130080 + 0x4 * n
def HOST_IEN_EN (n : Nat) : Ref := ⟨HOST_IEN n, 23, 0⟩

end Sys2Proof.Machine.R
end

