-- ==== Sys2Proof/Machine/Table.lean ====
section
/-!
DEFINITION. Sparse tables in one canonical form: the keys strictly rise and no entry equals what an unlisted key
reads as, so equal tables are equal lists. `State` holds the mapped registers, the memories and the per-instance
hidden state in such tables.
-/

namespace Sys2Proof.Machine

/-- A sparse table; what an unlisted key reads as is given to the operations. -/
abbrev Tbl (α : Type) := List (Nat × α)

/-- The entry at a key, or what an unlisted key reads as. -/
def tblGet {α : Type} (d : Nat → α) : Tbl α → Nat → α
  | [], k => d k
  | (j, v) :: t, k => if k = j then v else tblGet d t k

/-- Remove a key. -/
def tblErase {α : Type} : Tbl α → Nat → Tbl α
  | [], _ => []
  | (j, v) :: t, k => if k = j then tblErase t k else (j, v) :: tblErase t k

/-- Insert an entry at a key, replacing the one there, keeping the keys rising. -/
def tblInsert {α : Type} : Tbl α → Nat → α → Tbl α
  | [], k, v => [(k, v)]
  | (j, w) :: t, k, v =>
    if k < j then (k, v) :: (j, w) :: t
    else if k = j then (k, v) :: t
    else (j, w) :: tblInsert t k v

/-- Write an entry; writing what an unlisted key reads as removes it. -/
def tblSet {α : Type} [DecidableEq α] (d : Nat → α) (t : Tbl α) (k : Nat) (v : α) : Tbl α :=
  if v = d k then tblErase t k else tblInsert t k v

/-- Every key is above the bound, the keys strictly rise, and no entry equals the default. -/
def tblWfFrom {α : Type} [DecidableEq α] (d : Nat → α) : Option Nat → Tbl α → Bool
  | _, [] => true
  | b, (k, v) :: t =>
    (match b with | none => true | some j => decide (j < k)) && !decide (v = d k) && tblWfFrom d (some k) t

/-- The canonical form of a table. -/
def tblWf {α : Type} [DecidableEq α] (d : Nat → α) (t : Tbl α) : Bool := tblWfFrom d none t

/-- Keep the entries whose key satisfies the test: the others return to their defaults. -/
def tblKeep {α : Type} (p : Nat → Bool) : Tbl α → Tbl α
  | [] => []
  | (k, v) :: t => if p k then (k, v) :: tblKeep p t else tblKeep p t

end Sys2Proof.Machine
end

