-- ==== Sys2Proof/Machine/State.lean ====
section
/-!
DEFINITION. The state of the block, as plain data: the mapped registers in one sparse table, the memories, the state
that is no mapped register block by block, and the queue of waiting commands.
-/

namespace Sys2Proof.Machine

/-- Why the block stops. It has no constructor: no command of the spec stops the device; its faults are states. -/
inductive Fault
  deriving DecidableEq, Repr

/-- Why a command is refused. -/
inductive Refusal where
  /-- Raised by the arm of `exec` of a command that has no meaning yet; safe, the block does nothing. -/
  | notModelled (mnemonic : String)
  deriving DecidableEq, Repr

/-! ### Jenmel cores (R53 to R105, R110 to R142) -/

/-- Whether a core is inside a run-ahead region (R110). -/
inductive Region where
  /-- outside any region -/
  | none
  /-- inside a region that is not resolved -/
  | spec
  /-- inside a region that has passed, was present or refused, or re-executes -/
  | live
  deriving DecidableEq, Repr

/-- One entry of a commit buffer (R123): register select, channel code, value. -/
structure CbEntry where
  sel : Nat
  ch : Nat
  val : Word
  deriving DecidableEq, Repr

/-- The checkpoint of a run-ahead region (R112); the context state words are restored through the undo log (R163). -/
structure Checkpoint where
  g : Tbl Word
  acc : Tbl (BitVec 72)
  f : Tbl Word
  k : Tbl Bool
  accstat : Word
  fcsr : Word
  cbLen : Nat
  pc : Word
  deriving DecidableEq, Repr

/-- One processor core. G0 and K0 are never stored; the tables read 0 elsewhere (R62, R63). -/
structure CoreSt where
  pc : Word
  g : Tbl Word
  acc : Tbl (BitVec 72)
  f : Tbl Word
  k : Tbl Bool
  /-- the stored CSRs by number (R88, R140) -/
  csr : Tbl Word
  /-- CSR_CYCLE, 64 bits (R88) -/
  cycle : BitVec 64
  /-- locked up (R99) -/
  lockup : Bool
  /-- stopped in WAIT (R85) -/
  waiting : Bool
  /-- a bundle that waits to issue, slot 0 and slot 1 (R114, R116, R117) -/
  stalled : Option (Word × Word)
  region : Region
  /-- d of the SPEC that opened the region (R111) -/
  specDst : Nat
  ckpt : Checkpoint
  /-- undo log, newest first: address and old word (R163) -/
  undo : List (Nat × Word)
  /-- commit buffer, oldest first (R123) -/
  cb : List CbEntry
  /-- the dispatched context (R153) -/
  ctx : Option Nat
  /-- the current dispatch has taken its real vector, component by component (R114) -/
  real : Option (List Word)
  /-- background code is stopped in WAIT under the running dispatches (R648) -/
  bgWait : Bool
  bgPc : Word
  /-- a dispatch has ended and no background bundle has issued since (R648) -/
  between : Bool
  /-- Survey mode in effect (R178) -/
  survey : Bool
  /-- Survey mode requested, not yet in effect -/
  surveyReq : Bool
  /-- a rollback has ended and its COMMIT has not retired (R161) -/
  reexec : Bool
  /-- the tag of the next epoch (R125, R231) -/
  epochSeq : Nat
  deriving DecidableEq, Repr

/-! ### Loop contexts (R145 to R184) -/

/-- A yealm slot (R172, R173). -/
structure Yealm where
  marked : Bool
  /-- counts the copies, so that the newer slot is known -/
  age : Nat
  block : List Word
  opn : Bool
  pendOpen : Bool
  pendClose : Bool
  fbp : Nat
  fbCount : Nat
  last : Tbl Word
  pred : Tbl Word
  committed : Tbl (Option Word)
  stamp : Word
  /-- the CRC-32 over what stands above -/
  crc : Word
  deriving DecidableEq, Repr

/-- The open block of a trace node (R179 to R184). -/
structure TraceNode where
  /-- a block is open -/
  live : Bool
  /-- number of the block within the region -/
  pos : Nat
  count : Nat
  seq : Nat
  gap : Bool
  /-- GAP of the open block -/
  bgap : Bool
  stamp : Word
  tags : Nat
  used : Nat
  /-- the value, or the reconstructed value, before (R181, R182) -/
  prev : Word
  full : Bool
  /-- DESC_TRCk as it stood when the node wrote last -/
  bind : Word
  deriving DecidableEq, Repr

/-- The vector of one dispatch event, awaited: the stamp of the event, the parts that PD13 and PD14 have presented, by
component (R276, R512), and whether a bound input has been reported since the wait began (R168). -/
structure Awaited where
  stamp : Word
  part : Tbl (Option Word)
  rep : Bool
  deriving DecidableEq, Repr

/-- A loop context beside its status register, descriptor and areas. -/
structure CtxSt where
  pendOpen : Bool
  pendClose : Bool
  ready : Bool
  readyStamp : Word
  /-- the stamp of the event of the dispatch that runs or ran last -/
  dispStamp : Word
  divCount : Nat
  /-- dispatch events since the flag (R170) -/
  fbCount : Nat
  /-- consecutive good vectors under the flag (R168) -/
  good : Nat
  /-- last real value of each component (R169) -/
  last : Tbl Word
  /-- prediction of each component (R113) -/
  pred : Tbl Word
  /-- the vectors awaited, oldest first (R156) -/
  waits : List Awaited
  /-- a vector held for the next dispatch (R156) -/
  vec : Option (List Word)
  /-- last committed value by channel code * 8 + select, once one has been committed (R165) -/
  committed : Tbl (Option Word)
  /-- what bound channels hold while the context is open, by channel code (R165, R166) -/
  held : Tbl (Option Word)
  yealmA : Yealm
  yealmB : Yealm
  /-- a yealm copy runs (R173): the copy not yet valid -/
  copy : Option Yealm
  /-- the restore's pulse inhibit waits for the first commit (R174) -/
  restoring : Bool
  /-- opened by a SWAP, to close after the swap period (R589) -/
  swapClose : Bool
  trace : Tbl TraceNode
  deriving DecidableEq, Repr

/-! ### Batten (R190 to R234) -/

/-- A transition of LPULSE to come: offset from the period start in fine units, the level after it, and whether it is the
nominal end of a PCM pulse (R198, R209). -/
structure Edge where
  t : Int
  lv : Bool
  nom : Bool
  deriving DecidableEq, Repr

/-- An edge sequence under way, LEN being low: the level that LPULSE takes, how long after the fall of LEN it changes and LEN
rises, in fine units, and whether LPULSE has changed (R200). In a stop LEN does not rise, and a last fall of LPULSE counts
from LEN going low or from the change before it (R221). -/
structure EdgeSeq where
  lv : Bool
  mid : Nat
  rise : Option Nat
  moved : Bool
  deriving DecidableEq, Repr

/-- A direct channel beside its registers. -/
structure BCh where
  /-- pending shadow values by register offset (R203) -/
  pend : Tbl (Option Word)
  /-- core and sequence of the newest pending epoch (R231) -/
  tag : Option (Nat × Nat)
  /-- the reset controller has marked INH for release (R219) -/
  mark : Bool
  /-- why INH is asserted, one bit per reason -/
  inhBy : Nat
  /-- LEN and LPULSE as the channel drives them -/
  len : Bool
  lp : Bool
  /-- the start of R219 has not been carried out -/
  starting : Bool
  /-- transitions still to come -/
  sched : List Edge
  /-- the edge sequence under way -/
  edge : Option EdgeSeq
  /-- offset of the last transition begun from the period start, fine units, and its level -/
  lastTr : Int
  lastLp : Bool
  /-- how the active pulse of this PCM period ended, and that of the period before: 0 not, 1 by the comparator, 2 by
  CTMAX (R209) -/
  endBy : Nat
  endPrev : Nat
  /-- the threshold at which the comparator ended the pulse, and the on-time of the last pulse, fine units (R361) -/
  endThr : Nat
  onT : Nat
  /-- a blanking window is open (R210) -/
  blank : Bool
  /-- fine placement is off (R197) -/
  coarse : Bool
  /-- the period start and the length of the running period, fine units from the release of PD12 (R192, R220) -/
  begins : Int
  dur : Int
  /-- base ticks of the running period counted up to an instant of L (R231) -/
  cnt : Nat
  cntL : Word
  /-- stamps of the period start and of the sampling trigger (R208), and the stamp of the trigger still to come -/
  start : Word
  trig : Word
  trigAt : Option Word
  /-- cores that the two events have not reached, one bit each -/
  evReload : Nat
  evSample : Nat
  /-- slip of the period after the running one (R213) and periods without a sync edge -/
  slip : Int
  miss : Nat
  /-- a valid FOLLOW configuration is in effect (R212) -/
  follow : Bool
  deriving DecidableEq, Repr

/-- The on and off times of one remote period, fine units from its start (R217). -/
structure RlTimes where
  upOn : Nat
  upOff : Nat
  loOn : Nat
  loOff : Nat
  deriving DecidableEq, Repr

/-- A remote scheduler beside its registers. -/
structure BRl where
  pend : Tbl (Option Word)
  tag : Option (Nat × Nat)
  mark : Bool
  inhBy : Nat
  /-- frames carry its times; off means both switches off in every frame -/
  driving : Bool
  /-- the times handed to PD14 for the coming period, and those of the period before (R216, R237) -/
  cur : RlTimes
  prev : RlTimes
  /-- period of the times, fine units -/
  per : Nat
  /-- the level at the end of the last frozen period, and its last transition from that period's start (R199, R202) -/
  lp : Bool
  lastTr : Int
  /-- the start of the last frozen period, fine units from the release of PD12 (R215) -/
  begins : Int
  start : Word
  trig : Word
  /-- stamps of the sampling triggers to come, the oldest first (R216) -/
  trigs : List Word
  evReload : Nat
  evSample : Nat
  deriving DecidableEq, Repr

/-- An update epoch on its way to PD12 (R125, R204): sending core, sequence, entries, whether it is the DUTY-only
epoch of an OPEN, which leaves PAIR as it stands (R206), and the context that committed it, if one did (R37). -/
structure Epoch where
  core : Nat
  seq : Nat
  entries : List CbEntry
  hold : Bool
  ctx : Option Nat
  deriving DecidableEq, Repr

/-- Batten beside its channels. -/
structure BatSt where
  /-- epochs on their way, oldest first, by core -/
  epochs : Tbl (List Epoch)
  /-- Flashing's clock-loss removal is in force (R223) -/
  clkLoss : Bool
  /-- RSYNC is being driven -/
  rsync : Bool
  deriving DecidableEq, Repr

/-! ### Legs, comparators, windows, modulator inputs and the housekeeping ADC (R235 to R306) -/

/-- A direct leg beside its registers. -/
structure LegSt where
  /-- the loop code to send (R242) -/
  code : Nat
  /-- the edge measurement is armed: rising or falling, and whether LEN fell after EFF (R240, R242) -/
  arm : Option (Bool × Bool)
  /-- least HARD switching time of the period that counts for the loop -/
  minSw : Option Nat
  /-- consecutive normal frames not acknowledged (R250) -/
  nak : Nat
  /-- consecutive periods in which a normal trip latched, and whether automatic clearing has stopped until a re-enable
  (R255) -/
  cbc : Nat
  ntPeriod : Bool
  cbStop : Bool
  /-- an urgent frame has named the leg (R251) -/
  named : Bool
  /-- pad levels held by the protection state machine -/
  padLen : Bool
  padLp : Bool
  /-- re-enabled; the pins return at the next reload (R260) -/
  resume : Bool
  /-- self-test in progress: 0 none, 1 shunt normal, 2 shunt hard, 3 edge (R261) -/
  test : Nat
  deriving DecidableEq, Repr

/-- A strength line: SEQ, a cycle in progress, and the bits of the frame sent last, first bit in front (R246). -/
structure SlSt where
  seq : Nat
  busy : Bool
  line : List Bool
  deriving DecidableEq, Repr

/-- The strength loop of a remote leg (R244). -/
structure RlLoop where
  code : Nat
  acked : Nat
  ackPend : Bool
  minSw : Option Nat
  deriving DecidableEq, Repr

/-- A comparator stage: what it settles from (0 nothing, 1 an enable, 2 a mode change, R282), a reload marker that has not yet
started its ramp, and the slope and the floor of the ramp in progress, with the PD13 cycles that it has counted up to an instant
of the time base (R285). -/
structure CmpSt where
  settling : Nat
  due : Bool
  slope : Nat
  floor : Nat
  ramp : Option (Nat × Nat)
  deriving DecidableEq, Repr

/-- A window: when its outputs last became active, since when it is enabled and since when some output is active, in nanoseconds
of the time base (R289), and the comparator under test (R263). -/
structure WinSt where
  lastU : Option Nat
  lastL : Option Nat
  since : Nat
  /-- since when an output is active -/
  act : Option Nat
  test : Option Bool
  deriving DecidableEq, Repr

/-- A modulator clock: it is dead, and its consecutive good and failed periods, up to 4 (R269). -/
structure MckSt where
  dead : Bool
  good : Nat
  bad : Nat
  deriving DecidableEq, Repr

/-- The stream of a modulator input since its enable (R270 to R274, R278). -/
structure MdSt where
  /-- captured bits as far as a filter reaches, the newest in front -/
  bits : List Bool
  /-- capture edges -/
  edges : Nat
  /-- how many of the newest bits each equal the bit 1, 2, 3 and 4 places before them -/
  runs : List Nat
  /-- stamp and output of filter 0 of the last 8 capture edges, the newest in front -/
  outs : List (Word × Word)
  /-- stamp of the newest edge that has left that history -/
  gone : Option Word
  /-- the last decimated output of filter 0, and how many in a row have stayed within FRZBAND -/
  dec : Option Word
  still : Nat
  deriving DecidableEq, Repr

/-- The housekeeping ADC: channel connected, channels still to scan, start-up delay over, conversion touched by BYPCLK. -/
structure HadcSt where
  cur : Nat
  rest : List Nat
  up : Bool
  byp : Bool
  deriving DecidableEq, Repr

/-- A request for vector components in PD13: context, stamp of the dispatch event, and components with their input and, once the
capture edge has come, their value (R276, R277). -/
structure SenseReq where
  ctx : Nat
  stamp : Word
  parts : List (Nat × Nat × Option Word)
  deriving DecidableEq, Repr

/-- The protection logic over all legs: trip latches that PD12 has seen (R253), and the legs that safe pulse inhibit
keeps low until a reload (R414). -/
structure GateSt where
  seenN : Nat
  seenH : Nat
  spiHold : Nat
  deriving DecidableEq, Repr

/-! ### Boost converters and MPP engines (R346 to R374) -/

/-- A cross-check window of a converter (R361). -/
structure XWin where
  /-- lead reloads so far -/
  n : Nat
  /-- ICMD fell below XMIN, or ISRC reported a condition -/
  bad : Bool
  /-- sum of 8 × (threshold at the pulse end − ZOFS) -/
  est : Int
  /-- sum and count of the MON outputs of ISRC -/
  mon : Int × Nat
  /-- by phase: sum and count of the on-times -/
  on : Tbl (Nat × Nat)
  deriving DecidableEq, Repr

/-- A converter of the boost engine beside its registers. -/
structure BcSt where
  /-- the phase being shed, its step j and its SHDN (R354) -/
  shed : Option Nat
  shedJ : Nat
  shedN : Nat
  /-- the last step of the shed has passed at a lead reload -/
  shedDue : Bool
  /-- the phase being added (R356) -/
  add : Option Nat
  /-- consecutive lead reloads at which the shed and the add condition held -/
  shCnt : Nat
  adCnt : Nat
  /-- ICMD read at the previous lead reload (R355) -/
  prevIcmd : Nat
  /-- the effective per-phase limit (R363) -/
  iple : Nat
  /-- the followers are re-spaced at the next lead reload (R357) -/
  respace : Bool
  /-- phases whose pulse ended by the comparator and by CTMAX in this lead period (R360) -/
  endCmp : Nat
  endCt : Nat
  /-- consecutive periods by phase that count toward OPENN -/
  ctRun : Tbl Nat
  /-- consecutive mismatching windows, the running window and one that has ended (R361) -/
  xMis : Nat
  win : Option XWin
  done : Option XWin
  /-- the phase whose shed was aborted takes its current limit at the next lead reload (R353, R355) -/
  lift : Option Nat
  deriving DecidableEq, Repr

/-- An MPP engine beside its registers. -/
structure MppSt where
  on : Bool
  /-- CLMP was set at a lead reload of this interval (R366) -/
  clmp : Bool
  /-- P of the previous valid interval -/
  prevP : Option Nat
  /-- next point of the scan in progress (R369) -/
  scan : Option Nat
  /-- the largest P of the scan so far and its point -/
  best : Option (Nat × Nat)
  /-- VREF before the scan -/
  before : Int
  /-- a scan is requested; a trigger is held until SCMIN has passed (R368) -/
  req : Bool
  held : Bool
  /-- nanoseconds of the time base at the start of the last scan -/
  lastScan : Option Nat
  /-- when the engine and its running interval started -/
  began : Nat
  t0 : Nat
  /-- sum and count of the MON outputs of VSRC and ISRC in the averaging time, and a condition reported in the interval (R365) -/
  vAcc : Int × Nat
  iAcc : Int × Nat
  inv : Bool
  deriving DecidableEq, Repr

/-! ### Clocks and time (R457 to R488) -/

/-- A synthesizer beside its registers. -/
structure SynSt where
  /-- RESUME written while not stable (R467) -/
  resumeHeld : Bool
  /-- dither register (R461) -/
  lfsr : BitVec 24
  /-- a restart of acquisition waits for the reference (R466) -/
  waitRef : Bool
  /-- the update in progress has copied the shadows; old N and F (R470) -/
  oldN : Nat
  oldF : Nat
  /-- active fraction -/
  frac : Nat
  /-- time since the last phase-detector cycle, in reference cycles of 10 kHz ns (R460) -/
  phase : Nat
  /-- the three accumulators of the modulator, and the carries of the second and third that a later cycle subtracts (R461) -/
  acc : Nat × Nat × Nat
  carry : Int × Int × Int
  /-- what the feedback divider adds to N in this phase-detector cycle (R461) -/
  ofs : Int
  deriving DecidableEq, Repr

/-- The time base and its followers (R472, R477, R478). -/
structure TimeSt where
  sec : Nat
  ns : Nat
  /-- fraction of a nanosecond, 2^-32 -/
  frac : Nat
  /-- by island: how far its follower lags L, ns -/
  lag : Tbl Nat
  deriving DecidableEq, Repr

/-! ### PD0: Eaves and the Thatch log (R527 to R559) -/

/-- The requesters of MRAM bursts, in the order of R539. -/
inductive Requester where
  | thatch | final | software | metering | warden | cfgset
  deriving DecidableEq, Repr

/-- A burst in progress: requester, destination, words, and the index of the word written last (R539, R542). -/
structure Burst where
  req : Requester
  dst : Nat
  words : List Word
  mark : Nat
  deriving DecidableEq, Repr

/-- A post to the log (R548). -/
structure Post where
  event : Nat
  source : Nat
  flags : Nat
  payload : List Byte
  sec : Nat
  ns : Nat
  deriving DecidableEq, Repr

/-- PD0 beside its registers. -/
structure EavesSt where
  on : Bool
  /-- seconds counter, 48 bits, its 32.768 kHz sub-second count, and the ticks toward the next 2^20 (R534) -/
  sec : Nat
  sub : Nat
  ticks : Nat
  /-- VIO33 present -/
  vio33 : Bool
  /-- seconds at the supply loss, for RETURN (R535) -/
  lossAt : Nat
  /-- a supply-loss stamp is held (R399, R535) -/
  stamp : Bool
  /-- continuous references entered by a failed check, and passed refreshes since (R533) -/
  cont : Bool
  passes : Nat
  /-- both stores have been full and neither has fallen 50 mV (R532) -/
  full : Bool
  /-- EWAKE_N asserted (R538) -/
  ewake : Bool
  /-- the minute in which the last DEFER record was posted (R540) -/
  deferMin : Option Nat
  /-- burst requests that wait, oldest first, and the burst in progress -/
  reqs : List Burst
  burst : Option Burst
  deriving DecidableEq, Repr

/-- The log controller beside its registers. -/
structure ThatchSt where
  fifo : List Post
  nextSeq : Word
  /-- a LOST record is due (R548) -/
  lostDue : Bool
  nonce : BitVec 64
  /-- HEAD at the clear request (R556) -/
  clrHead : Word
  rsp : Tbl Word
  fails : Nat
  /-- SEQ of the newest valid CLEAR record (R546) -/
  clearSeq : Option Word
  deriving DecidableEq, Repr

/-! ### Phasor units and the connection sequencer (R307 to R345) -/

/-- A schedule of perturbation windows: EPOCH, ISPER in ms, ISOFF in ns, ISBIAS, ISSIGN (R335). -/
structure Sched where
  epoch : Nat
  per : Nat
  off : Nat
  bias : Nat
  sign : Word
  deriving DecidableEq, Repr

/-- A sample of a phasor unit's channel: its instant in ns of the time base, its value, and whether the channel is bad (R307,
R312). -/
structure PuSmp where
  t : Nat
  val : Word
  bad : Bool
  deriving DecidableEq, Repr

/-- A phasor unit beside its registers. -/
structure PuSt where
  /-- the time base at the last restart, ns (R317) -/
  since : Nat
  /-- consecutive internal estimates beyond ROCLIM and outside the frequency limits (R315) -/
  rocRun : Nat
  fRun : Nat
  /-- angle of V+ one and two nominal cycles before (R315) -/
  th1 : Option Word
  th2 : Option Word
  /-- the schedule in force (R345) -/
  sched : Sched
  /-- by channel: its newest samples, the newest in front (R307) -/
  chans : Tbl (List PuSmp)
  /-- the V+ estimates have been invalid since this time, ns (R320) -/
  vBad : Option Nat
  deriving DecidableEq, Repr

/-- The connection sequencer of the grid library (R320 to R325). -/
structure SeqSt where
  /-- 0 INHIBITED, 1 WAIT, 2 SYNC, 3 RAMP, 4 RUN, 5 RIDE, 6 CEASED, 7 ISLAND (R322) -/
  st : Nat
  /-- start of the RECONT or the lock timer, ns of the time base -/
  timer : Nat
  /-- ceiling on Id+ in units of 2^-16/10 pu once lowered (R325) -/
  ceil : Option Nat
  /-- closing of the relay chain has been requested -/
  relayReq : Bool
  /-- evaluated windows without response in ISLAND (R320) -/
  noResp : Nat
  /-- whether the harmonics of the last valid window exceed a limit, and from when on the next HTIME counts, ns (R325) -/
  harm : Option (Bool × Nat)
  deriving DecidableEq, Repr

/-- What the sequencer tells the law through the law command queue (R318, R322). -/
inductive LawCmd where
  | pset (v : Word)
  | qset (v : Word)
  | mode (gfm : Bool)
  deriving DecidableEq, Repr

/-- What the law tells the sequencer through the law event queue (R320). -/
inductive LawEvent where
  | locked
  | rideIn
  | rideOut
  | violated
  | rampDone
  deriving DecidableEq, Repr

/-- The blend of a hand-over from one mode to the other: the moving words of its PROF record (R332). -/
structure HandSt where
  /-- the incoming mode is grid-forming -/
  toGfm : Bool
  pos : Int
  vel : Int
  acc : Int
  deriving DecidableEq, Repr

/-- The grid law of the grid library (R319, R323 to R333, R338); pu stands for 2^-16 pu. -/
structure LawSt where
  /-- the context that has held the record of the law (R318) -/
  ctx : Option Nat
  /-- the record was valid at the first dispatch after the last close (R319) -/
  recOk : Bool
  /-- when it was dispatched last, ns of the time base -/
  last : Option Nat
  /-- targets commanded by the host, none: those of the record; and the mode commanded last is grid-forming (R322) -/
  pset : Option Word
  qset : Option Word
  want : Bool
  /-- what the newest messages of the law command queue say, oldest first -/
  cmds : List LawCmd
  /-- what the newest messages of the law event queue say, oldest first, and whether HARM is set (R320, R325) -/
  events : List (LawEvent × Bool)
  /-- HARM is due in the next event message -/
  harm : Bool
  /-- the lock has been reported in this SYNC, the end of the ramp in this RAMP -/
  toldLock : Bool
  toldRamp : Bool
  /-- when RIDE was left last, ns (R331) -/
  leftAt : Option Nat
  /-- THETA, INT and OMEGA of the PLLSTEP record (R134, R323) -/
  theta : Word
  int : Word
  omega : Word
  /-- angle of the grid-forming output (R332) -/
  angle : Word
  /-- VEL and ACC of the PROF record of the active target, 2^-32 pu (R135, R324) -/
  vel : Int
  acc : Int
  /-- consecutive dispatches within LOCKTOL, and the PLL is locked (R323) -/
  lockRun : Nat
  locked : Bool
  /-- where the active and the reactive target stand, 2^-32 pu (R324) -/
  p : Int
  q : Int
  /-- the active target recovers at PREC after RIDE -/
  recover : Bool
  /-- RIDE, since when, and consecutive dispatches outside the entry thresholds (R327) -/
  ride : Bool
  rideAt : Nat
  outRun : Nat
  /-- V+ has stayed within the exit band since (R330) -/
  inSince : Option Nat
  /-- the envelope has been violated in this RIDE -/
  violated : Bool
  /-- Id+ and Iq+ of the last RUN dispatch (R328) -/
  idPre : Int
  iqPre : Int
  /-- the current references: Id+, Iq+, Iq-; Id- is 0 -/
  idRef : Int
  iqRef : Int
  iqNeg : Int
  /-- the active mode is grid-forming, and the blend that runs (R332) -/
  gfm : Bool
  hand : Option HandSt
  /-- the bias added in this dispatch, 2^-16 Hz (R338) -/
  bias : Int
  /-- frequency of the angle used for synthesis, 2^-16 Hz, and in grid-forming mode the magnitude -/
  freq : Int
  mag : Int
  /-- V+ is not evaluated before this instant (R327) -/
  quiet : Nat
  deriving DecidableEq, Repr

/-- The PTP clock of the ROM default program (R483); times in units of 2^-16 ns. -/
structure PtpSt where
  /-- the master that it follows: what its Announce messages say of its clock, and its port -/
  master : Option (List Byte × List Byte)
  /-- the time base at the last Announce of that master, ns -/
  heard : Nat
  /-- a two-step Sync that waits for its Follow_Up: sequence, ingress time and correction -/
  sync : Option (Nat × Int × Int)
  /-- the last Pdelay_Req sent: sequence and egress time -/
  req : Option (Nat × Int)
  /-- its two-step Pdelay_Resp: ingress time, receipt time at the peer and correction -/
  resp : Option (Int × Int × Int)
  /-- mean path delay -/
  delay : Option Int
  deriving DecidableEq, Repr

/-! ### Lanes, MACs and the Ridge bus (R489 to R526) -/

/-- A Purlin lane beside its registers. -/
structure LaneSt where
  /-- bit slips since the lane was enabled (R495) -/
  slips : Nat
  /-- SEQ of the next frame, and the blocks of the frame sent last: payload bytes, headers left out (R492 to R494) -/
  txSeq : Nat
  out : List Byte
  /-- SEQ of the last frame accepted -/
  rxSeq : Option Nat
  /-- twice the last latency samples, newest first (R505) -/
  lats : List Int
  /-- references of the samples (R509), and whether a KEY frame is awaited -/
  refs : Tbl (BitVec 16)
  /-- a lane burst error is being recovered; good frames sent and received since (R513) -/
  burst : Bool
  okDown : Nat
  okUp : Nat
  /-- bytes 104 to 111 of the last DTIM (R501, R502) -/
  tail : List Byte
  /-- the last DTIM frames: SEQ, stamp of the period start, period and SAMPLE in fine units (R508) -/
  dtims : List (Nat × Word × Nat × Nat)
  /-- frames carry EN = 0 until the inhibit has ended and a release cycle has passed (R503) -/
  hold : Bool
  /-- an eye-scan point runs, over 2^(b + 16) bits (R498) -/
  scan : Option Nat
  /-- a release cycle has passed whose DTIM has not been sent (R501) -/
  due : Bool
  /-- the last received free count and the frames not acknowledged (R515) -/
  free : Nat
  unacked : List Nat
  deriving DecidableEq, Repr

/-- A MAC beside its registers: descriptors are being sent, and the frame sent last (R517, R519). -/
structure EnetSt where
  kick : Bool
  out : List Byte
  deriving DecidableEq, Repr

/-- The Ridge bus: the 1 µs drive of RTRIP_N runs (R520); the RSYNC drive has stopped on contention (R523). -/
structure RidgeSt where
  drive : Bool
  stopped : Bool
  deriving DecidableEq, Repr

/-! ### Warden and Flashing (R409 to R456) -/

/-- A first copy that waits for its second: its SEQ, its network, its PDU and when it came, in `upNs` (R433, R435). -/
structure RxCopy where
  seq : Word
  net : Bool
  pdu : List Byte
  at' : Nat
  deriving DecidableEq, Repr

/-- A subscription as one channel sees it (R433 to R436): session, last SEQ, command bits, watchdog, whether the bits wait
for the copy after the first of a session, and the first copies whose DUPWIN runs: SEQ, network, bytes. -/
structure RxSt where
  sess : Option Nat
  seq : Word
  cmd : Nat
  wdel : Bool
  waiting : Bool
  first : List RxCopy
  deriving DecidableEq, Repr

/-- The two safety channels beside the SAFE registers; in pairs the Warden's view stands before Flashing's. -/
structure SafeSt where
  /-- leg permits given -/
  pw : Bool
  pf : Bool
  /-- the channel's dynamic signals have stopped (R411) -/
  deadW : Bool
  deadF : Bool
  /-- inputs in demand, one bit each (R423) -/
  inW : Nat
  inF : Nat
  /-- functions whose CHDLY runs (R426) -/
  runW : Nat
  runF : Nat
  /-- functions whose restart condition has been met since the last trigger cleared (R427) -/
  rstW : Nat
  rstF : Nat
  /-- switches driven conducting: bit 2c the high side, 2c + 1 the low side (R416) -/
  drv : Nat
  /-- dark test of a switch: 0 none, 1 under way, 2 seen open (R417) -/
  dark : Tbl Nat
  /-- test pulse sources driven low, and consecutive pulses that a pad has not followed (R421) -/
  tpLow : Nat
  tpBad : Tbl Nat
  /-- subscriptions by 2s for the Warden, 2s + 1 for Flashing -/
  rx : Tbl RxSt
  /-- session and, by publication, the last SEQ used and the last PDU sent (R430, R432) -/
  session : Nat
  txSeq : Tbl Word
  txPdu : Tbl (List Byte)
  /-- the value written last to the heartbeat register (R437) -/
  hb : Option Word
  nonce : BitVec 64
  /-- SAFE_LOCK at the request (R444) -/
  lockAt : Word
  rsp : Tbl Word
  fails : Nat
  /-- a confirmed record is loaded; one has ever been confirmed -/
  loaded : Bool
  everConf : Bool
  /-- copies A and B in MRAM are marked confirmed (R451) -/
  markA : Bool
  markB : Bool
  /-- the lock record still has to be written; time of the entry (R442, R448) -/
  lockDue : Bool
  lockSec : Nat
  lockNs : Nat
  /-- windows under a test of the Warden's, and tests failed or refused in a row (R440) -/
  winBy : Nat
  winFail : Tbl Nat
  deriving DecidableEq, Repr

/-! ### Metering (R375 to R405) -/

/-- A decimated sample of the eight inputs: stamp of its capture edge in ns of the time base, values, flags of R391. -/
structure MSample where
  t : Nat
  val : List Word
  flags : Nat
  deriving DecidableEq, Repr

/-- The sums of a block (R379): its start, samples added, and sums by element: voltage and current squared, the
products p and q; the neutral squared; whether an element was below ISTART. -/
structure MBlock where
  start : Option Nat
  n : Nat
  v2 : Tbl Nat
  i2 : Tbl Nat
  p : Tbl Int
  q : Tbl Int
  n2 : Nat
  creep : Bool
  /-- gain and delay by element, first of the voltage, then of the current, in force through the block (R380) -/
  corr : List ((Nat × Int) × (Nat × Int))
  deriving DecidableEq, Repr

/-- An interval: its start, the V of every accumulator at the start and, once its boundary has passed, at the end, and
its flags (R388 to R391). -/
structure MInterval where
  start : Nat
  v0 : List Nat
  v1 : List Nat
  flags : Nat
  deriving DecidableEq, Repr

/-- The decimator of a metering input (R377): the bits of its sinc filter, the newest in front; bits counted within a sample; the last
outputs of that filter, the newest in front; and its newest sample, with the stamp of the capture edge of its last bit. -/
structure MDec where
  bits : List Bool
  n : Nat
  s1 : List Nat
  out : Option (Word × Int)
  deriving DecidableEq, Repr

/-- A meter instance beside its registers. -/
structure MeterSt where
  /-- the last samples, newest first -/
  hist : List MSample
  /-- samples stamped before this instant are not accumulated (R400) -/
  since : Nat
  /-- the last product belonged to a sample with this stamp -/
  last : Option Nat
  /-- Rs by accumulator (R385) -/
  res : Tbl Nat
  blk : MBlock
  /-- Irms by element in the block before -/
  irms : Tbl (Option Nat)
  iv : MInterval
  /-- intervals past their boundary that have not closed, oldest first -/
  closing : List MInterval
  /-- an accepted clear waits for the next interval record (R387) -/
  clr : Bool
  /-- the stamp of the sample taken last, and a sample on BYPCLK since the checkpoint posted last (R395, R403) -/
  taken : Option Word
  byp : Bool
  deriving DecidableEq, Repr

/-- A pulse output: a pulse is being emitted; its width; start and end of the last pulse; the last crossing (R392). -/
structure MPulse where
  active : Bool
  width : Nat
  start : Option Nat
  stop : Option Nat
  cross : Option Nat
  deriving DecidableEq, Repr

/-- The metering engine beside its instances: pulse outputs, the number of journal words and the slot of the
early-warning checkpoint they belong to (R397). -/
structure MetSt where
  pls : Tbl MPulse
  journal : Nat
  slot : Nat
  /-- the last bundle of each input that PD13 has sent: the stamp of its first bit and its 32 bits, the oldest in front (R271) -/
  bundles : Tbl (Option (Word × List Bool))
  decs : Tbl MDec
  /-- the restore of R400 has run since the release, and the second whose checkpoint was posted last (R396) -/
  restored : Bool
  ckSec : Option Nat
  deriving DecidableEq, Repr

/-! ### Reset, boot and configuration sets (R560 to R596) -/

/-- The reset controller, the watchdogs and the loaders beside their registers. -/
structure SysSt where
  /-- the fuse array (R570) and its shadow -/
  fuses : Tbl Word
  shadow : Tbl Word
  /-- a fuse load is due (R566, R568) -/
  fuseDue : Bool
  /-- the load after a POR also loads the RWS field FNOM (R18, R343) -/
  fnomDue : Bool
  /-- the maintenance exchange (R565): nonce, purpose, response words, consecutive mismatches -/
  nonce : BitVec 64
  purpose : Nat
  rsp : Tbl Word
  fails : Nat
  /-- WDT3 runs (R579) -/
  wdt3 : Bool
  /-- a VERIFY returned OK since Underlay was entered (R583) -/
  verified : Bool
  /-- the promise of R50 is void (R52) -/
  void : Bool
  /-- Rafter islands in a recovery covered by R44 (R45) -/
  recovering : List Nat
  /-- the ROM loader runs, firmware not started (R578) -/
  inLoader : Bool
  /-- Rafter islands released behind closed gates that wait for their restore (R174) -/
  restoreDue : List Nat
  /-- islands isolated by a failure, until recovered: with a restore after it or without (R44, R651) -/
  failed : List Nat
  /-- islands whose clock stands still (R650) -/
  stopped : List Nat
  /-- the last reply of the Underlay loader (R582) -/
  reply : List Byte
  /-- on the clock of the timers: from when the next island of a release sequence is due, from when a fuse load can have ended
  (R568, R572) -/
  due : Nat
  fuseAt : Nat
  deriving DecidableEq, Repr

/-- What the configuration-set controller does (R587 to R593). -/
structure CfgSt where
  /-- contexts the armed SWAP changes, and those of them that were closed (R589) -/
  changed : List Nat
  reclose : List Nat
  /-- the contexts of which the SWAP changes the descriptor or the code, to be judged as one change (R147) -/
  toJudge : List Nat
  /-- the SWAP carries the image (R594) -/
  withImg : Bool
  /-- values still to be exchanged: target address, and where the value stands in the shadow area (R590) -/
  todo : List (Nat × Nat)
  /-- cores whose entries or banks still wait for their contexts (R588) -/
  cores : List Nat
  /-- the swap period has begun with the reload at B; it has ended -/
  begun : Bool
  periodOver : Bool
  /-- the READY image: slot, banked cores, VERSION, RAISE (R593, R594) -/
  imgSlot : Nat
  imgMask : Nat
  imgVersion : Nat
  imgRaise : Bool
  deriving DecidableEq, Repr

/-! ### Host interface and queues (R597 to R618) -/

/-- A held access (R600). -/
structure Held where
  addr : Nat
  write : Bool
  data : Word
  be : Nat
  /-- the result, once the access has taken effect: fault, read data -/
  fault : Bool
  result : Word
  /-- it has not taken effect: the clock of its island stands still (R36, R650) -/
  waits : Bool
  /-- its result is discarded: HCS_N rose before completion (R598) -/
  drop : Bool
  deriving DecidableEq, Repr

/-- The access engine beside its registers. -/
structure HostSt where
  held : Option Held
  /-- the SPI target's last write ended with FAULT (R607) -/
  spiFault : Bool
  /-- snapshot holds by master and address (R605) -/
  holds : Tbl Word
  /-- mirrors of snapshot registers whose island is not running (R603) -/
  mirror : Tbl Word
  /-- the last answer on the bus: status code of HST, data (R597) -/
  hst : Nat
  hd : Word
  /-- bytes sent on SPDO by the last SPI transaction -/
  spdo : List Byte
  /-- queue contents, head first (R613) -/
  queues : Tbl (List (List Byte))
  /-- the entry of the storage area that the next push takes -/
  qpos : Tbl Nat
  /-- interrupt destinations that have had an interrupt pending, one bit each: a WAIT clears its own (R85) -/
  woken : Nat
  deriving DecidableEq, Repr


/-! ### Reset values -/

/-- What an unlisted CSR holds after reset (R63, R89): SUP in STATUS and ESTATUS. -/
def csrReset (n : Nat) : Word := if n = 0 ∨ n = 1 then 0x40#32 else 0

/-- An empty checkpoint. -/
def ckptReset : Checkpoint := ⟨[], [], [], [], 0, 0, 0, 0⟩

/-- A core after its island's release (R63, R178). -/
def coreReset : CoreSt :=
  { pc := 0, g := [], acc := [], f := [], k := [], csr := [], cycle := 0, lockup := false, waiting := false,
    stalled := none, region := .none, specDst := 0, ckpt := ckptReset, undo := [], cb := [], ctx := none, real := none,
    bgWait := false, bgPc := 0, between := false, survey := true, surveyReq := true, reexec := false, epochSeq := 0 }

/-- An empty yealm slot. -/
def yealmReset : Yealm :=
  { marked := false, age := 0, block := [], opn := true, pendOpen := false, pendClose := false, fbp := 0, fbCount := 0,
    last := [], pred := [], committed := [], stamp := 0, crc := 0 }

/-- A trace node that has written nothing. -/
def traceReset : TraceNode :=
  { live := false, pos := 0, count := 0, seq := 0, gap := false, bgap := false, stamp := 0, tags := 0, used := 0, prev := 0,
    full := false, bind := 0 }

/-- A context after a reset of its island (R147). -/
def ctxReset : CtxSt :=
  { pendOpen := false, pendClose := false, ready := false, readyStamp := 0, dispStamp := 0, divCount := 0, fbCount := 0, good := 0,
    last := [], pred := [], waits := [], vec := none, committed := [], held := [], yealmA := yealmReset,
    yealmB := yealmReset, copy := none, restoring := false, swapClose := false, trace := [] }

/-- A direct channel after the release of PD12 (R220). -/
def bchReset : BCh :=
  { pend := [], tag := none, mark := false, inhBy := 0, len := false, lp := false, starting := false, sched := [],
    edge := none, lastTr := -1000000000, lastLp := false, endBy := 0, endPrev := 0, endThr := 0, onT := 0, blank := false, coarse := false,
    begins := 0, dur := 3200000, cnt := 0, cntL := 0, start := 0, trig := 0, trigAt := none,
    evReload := 0, evSample := 0, slip := 0, miss := 0, follow := false }

/-- A remote scheduler after the release of PD12. -/
def brlReset : BRl :=
  { pend := [], tag := none, mark := false, inhBy := 0, driving := false, cur := ⟨0, 0, 0, 0⟩, prev := ⟨0, 0, 0, 0⟩,
    per := 0, lp := false, lastTr := -1000000000, begins := 0, start := 0, trig := 0, trigs := [], evReload := 0,
    evSample := 0 }

/-- A leg after the release of PD12: the loop sends its fixed code. -/
def legReset : LegSt :=
  { code := 8, arm := none, minSw := none, nak := 0, cbc := 0, ntPeriod := false, cbStop := false, named := false, padLen := false,
    padLp := false, resume := false, test := 0 }

/-- A strength line after reset. -/
def slReset : SlSt := ⟨0, false, []⟩

/-- A remote strength loop after reset. -/
def rlLoopReset : RlLoop := ⟨8, 0, false, none⟩

/-- A comparator stage at the release of PD13: it settles from its enable (R282). -/
def cmpReset : CmpSt := ⟨1, false, 0, 0, none⟩

/-- A window after reset. -/
def winReset : WinSt := ⟨none, none, 0, none, none⟩

/-- A modulator clock that has not been read back. -/
def mckReset : MckSt := ⟨false, 0, 0⟩

/-- A modulator input that has captured nothing. -/
def mdReset : MdSt := ⟨[], 0, [0, 0, 0, 0], [], none, none, 0⟩

/-- A converter after reset. -/
def bcReset : BcSt :=
  { shed := none, shedJ := 0, shedN := 0, shedDue := false, add := none, shCnt := 0, adCnt := 0, prevIcmd := 0, iple := 0,
    respace := false, endCmp := 0, endCt := 0, ctRun := [], xMis := 0, win := none, done := none, lift := none }

/-- An MPP engine after reset. -/
def mppReset : MppSt := ⟨false, false, none, none, none, 0, false, false, none, 0, 0, (0, 0), (0, 0), false⟩

/-- A synthesizer that runs on its reset dividers (R486). -/
def synReset : SynSt :=
  { resumeHeld := false, lfsr := 1, waitRef := false, oldN := 0, oldF := 0, frac := 0, phase := 0, acc := (0, 0, 0),
    carry := (0, 0, 0), ofs := 0 }

/-- A phasor unit after reset. -/
def puReset : PuSt := ⟨0, 0, 0, none, none, ⟨0, 500, 0, 0x8000, 0xAAAAAAAA⟩, [], none⟩

/-- The sequencer after boot (R341). -/
def seqReset : SeqSt := ⟨0, 0, none, false, 0, none⟩

/-- The PTP clock of the default program when it starts. -/
def ptpReset : PtpSt := ⟨none, 0, none, none, none, none⟩

/-- The law before its first dispatch. -/
def lawReset : LawSt :=
  { ctx := none, recOk := false, last := none, pset := none, qset := none, want := false, cmds := [], events := [], harm := false,
    toldLock := false, toldRamp := false, leftAt := none, theta := 0, int := 0, omega := 0, angle := 0, vel := 0, acc := 0, lockRun := 0,
    locked := false, p := 0, q := 0, recover := false, ride := false, rideAt := 0, outRun := 0, inSince := none,
    violated := false, idPre := 0, iqPre := 0, idRef := 0, iqRef := 0, iqNeg := 0, gfm := false, hand := none, bias := 0,
    freq := 0, mag := 65536, quiet := 0 }

/-- A lane after reset; the first message may be sent before any free count has come (R515). -/
def laneReset : LaneSt :=
  { slips := 0, txSeq := 0, out := [], rxSeq := none, lats := [], refs := [], burst := false, okDown := 0, okUp := 0,
    tail := [], dtims := [], hold := false, scan := none, due := false, free := 1, unacked := [] }

/-- A MAC after reset. -/
def enetReset : EnetSt := ⟨false, []⟩

/-- A subscription that holds no session. -/
def rxReset : RxSt := ⟨none, 0, 0, false, false, []⟩

/-- The safety channels before INIT: every input and function in demand, nothing permitted. -/
def safeReset : SafeSt :=
  { pw := false, pf := false, deadW := false, deadF := false, inW := 0xFFFF, inF := 0xFFFF, runW := 0, runF := 0,
    rstW := 0, rstF := 0, drv := 0, dark := [], tpLow := 0, tpBad := [], rx := [], session := 0, txSeq := [], txPdu := [],
    hb := none, nonce := 0, lockAt := 0, rsp := [], fails := 0, loaded := false, everConf := false, markA := false,
    markB := false, lockDue := false, lockSec := 0, lockNs := 0, winBy := 0, winFail := [] }

/-- An empty block. -/
def blockReset : MBlock := ⟨none, 0, [], [], [], [], 0, false, []⟩

/-- A meter instance before its restore. -/
def meterReset : MeterSt :=
  { hist := [], since := 0, last := none, res := [], blk := blockReset, irms := [],
    iv := ⟨0, [], [], 0⟩, closing := [], clr := false, taken := none, byp := false }

/-- A decimator that has taken no bit. -/
def mdecReset : MDec := ⟨[], 0, [], none⟩

/-- A pulse output after reset. -/
def pulseReset : MPulse := ⟨false, 0, none, none, none⟩

/-- The PINRST code that the maker fuses for a ball, by reset index (R630): 0 high impedance, 1 pull-up, 2 pull-down,
3 drive low. -/
def fusedCode (k : Nat) : Nat :=
  if (102 ≤ k ∧ k ≤ 109) ∨ k = 219 ∨ k = 230 ∨ (247 ≤ k ∧ k ≤ 250) ∨ (271 ≤ k ∧ k ≤ 274) then 3
  else if (110 ≤ k ∧ k ≤ 141) ∨ k = 212 ∨ k = 213 ∨ k = 216 ∨ k = 217 ∨ (221 ≤ k ∧ k ≤ 229) ∨ k = 269 ∨ k = 270 then 2
  else if k = 143 ∨ k = 144 ∨ (175 ≤ k ∧ k ≤ 178) ∨ k = 211 ∨ k = 215 ∨ k = 220 ∨ k = 267 then 1
  else 0

/-- A fuse word that holds sixteen codes. -/
def fusedCodes (w : Nat) : Nat := (List.range 16).foldr (fun j n => 4 * n + fusedCode (16 * (w - 16) + j)) 0

/-- What an unlisted word of the fuse array and of its shadow holds: the gap and the dividers of R486 and R568, and the
CRC that goes with them; every key 0. -/
def fuseDefault (k : Nat) : Word :=
  if 16 ≤ k ∧ k < 34 then BitVec.ofNat 32 (fusedCodes k)
  else if k = 48 then 0x100#32 else if k = 49 ∨ k = 51 then 0x006000C0#32 else if k = 53 then 0x11000040#32
  else if k = 55 then 0x005000C8#32 else if k = 255 then 0x52FC8BC2#32 else 0#32

/-- The reset controller once a release has completed: the loader runs. -/
def sysReset : SysSt :=
  { fuses := [], shadow := [], fuseDue := false, fnomDue := false, nonce := 0, purpose := 0, rsp := [], fails := 0, wdt3 := true,
    verified := false, void := false, recovering := [], inLoader := true, restoreDue := [], failed := [], stopped := [],
    reply := [], due := 0, fuseAt := 0 }

/-- The access engine after the release of PD3. -/
def hostReset : HostSt :=
  { held := none, spiFault := false, holds := [], mirror := [], hst := 0, hd := 0, spdo := [], queues := [], qpos := [], woken := 0 }

/-- The configuration-set controller at rest. -/
def cfgReset : CfgSt := ⟨[], [], [], false, [], [], false, false, 0, 0, 0, false⟩

/-! ### Timers -/

/-- The timers of the spec whose start the state keeps: those of the safety channels (R412, R416, R417, R421, R424, R426, R432, R436,
R437, R440, R442, R444, R452), the Warden's as `true`. -/
inductive Timer where
  /-- CHDLY of a function -/
  | chdly (w : Bool) (f : Nat)
  /-- a pair has been inconsistent -/
  | disc (w : Bool) (p : Nat)
  /-- the channels have disagreed -/
  | disag
  /-- the burst of the lock record was asked for -/
  | lock
  /-- UNLST reads PEND or BLOCKED -/
  | pend
  | block
  /-- a subscription accepted a new SEQ -/
  | rx (w : Bool) (k : Nat)
  /-- the Warden wrote its heartbeat -/
  | heartbeat
  /-- SAFE_PAR was written -/
  | par
  /-- a publication sent or suppressed a PDU -/
  | publish (t : Nat)
  /-- a relay switch was commanded otherwise, 2c the high side of chain c; it was opened for a dark test -/
  | switch (k : Nat)
  | dark (k : Nat)
  /-- the cycles of the test pulses started; TPk was driven low -/
  | cycle
  | pulse (k : Nat)
  /-- a safety window was tested, 2k its lower comparator -/
  | window (i : Nat)
  /-- a synthesizer locked; its dividers were updated (R462, R470) -/
  | locked (n : Nat)
  | updated (n : Nat)
  /-- SYNC = 1 was taken (R476) -/
  | synced
  /-- an eye-scan point started; the release cycle of a group; the last DINH of a lane (R498, R502, R503) -/
  | scan (n : Nat)
  | mid (g : Nat)
  | dinh (g : Nat)
  /-- the 1 µs drive of RTRIP_N started, ended; RTRIP_N was seen low (R520, R522) -/
  | rtripOn
  | rtripOff
  | rtripLow
  /-- the last final checkpoint in the dark; VIO33 has been present; TRIM was set; clearing was blocked (R534, R535, R538, R556) -/
  | dark0
  | vio33
  | hour
  | clrBlock
  /-- an island entered HELD; PD3 was released; MRQ was blocked; a supervisor watchdog was started or kicked; a dispatch started
  (R561, R565, R574, R575, R579) -/
  | held (pd : Nat)
  | boot
  | mrqBlock
  | wdt (k : Nat)
  | disp (n : Nat)
  /-- the result of the held access became ready, or a repeat found it not ready (R600) -/
  | hold
  /-- a SWAP was armed; a stored-set write was deferred (R587, R591) -/
  | armed
  | setRetry
  deriving DecidableEq, Repr

/-- The island that holds a timer; 16 stands for the always-running part (R560). -/
def Timer.pd : Timer → Nat
  | .chdly w _ | .disc w _ | .rx w _ => if w then 2 else 1
  | .switch k | .dark k => if k % 2 = 0 then 2 else 1
  | .locked _ | .updated _ | .synced | .boot | .wdt _ | .hold => 3
  | .held _ | .mrqBlock | .armed | .setRetry => 16
  | .disp n => 4 + n
  | .dark0 | .vio33 | .hour | .clrBlock => 0
  | .scan _ | .mid _ | .dinh _ | .rtripOn | .rtripOff | .rtripLow => 14
  | _ => 2

/-! ### The whole state -/

/-- The state of the block. -/
structure State where
  /-- mapped registers by address; an unlisted address reads its reset word (R16 to R20, R619) -/
  regs : Tbl Word
  /-- on-chip memories, byte by address; an unlisted byte reads 0 (R39) -/
  mem : List Host.Cell
  /-- xSPI flash, byte by address; an unlisted byte reads 0xFF (R576) -/
  flash : List Host.Cell
  /-- the Warden's data SRAM, byte by offset; an unlisted byte reads 0 (R409) -/
  wram : List Host.Cell
  /-- 8-byte-aligned addresses of words marked for scrubbing (R41) -/
  ecc : List Nat
  /-- corrected memory errors (R41) -/
  eccFixed : Nat
  /-- cores: 0 to 7 RCn, 8 SC0, 9 SC1, 10 the Warden (R53) -/
  cores : Tbl CoreSt
  /-- contexts CTX0 to CTX255 (R145) -/
  ctxs : Tbl CtxSt
  bchs : Tbl BCh
  brls : Tbl BRl
  bat : BatSt
  legs : Tbl LegSt
  sls : Tbl SlSt
  rlLoops : Tbl RlLoop
  gate : GateSt
  cmps : Tbl CmpSt
  wins : Tbl WinSt
  /-- modulator clocks MCK0 to MCK7 and inputs MD0 to MD31 -/
  mcks : Tbl MckSt
  mds : Tbl MdSt
  /-- contexts to which a detector's report is on its way (R279) -/
  fbDue : List Nat
  hadc : HadcSt
  /-- requests for vector components by core, oldest first (R277) -/
  sense : Tbl (List SenseReq)
  bcs : Tbl BcSt
  mpps : Tbl MppSt
  syns : Tbl SynSt
  time : TimeSt
  eaves : EavesSt
  thatch : ThatchSt
  pus : Tbl PuSt
  seq : SeqSt
  law : LawSt
  lanes : Tbl LaneSt
  enets : Tbl EnetSt
  ptp : PtpSt
  ridge : RidgeSt
  safe : SafeSt
  meters : Tbl MeterSt
  met : MetSt
  sys : SysSt
  cfg : CfgSt
  host : HostSt
  /-- when a record limited to one per second was last posted: nanoseconds of the time base by record key -/
  limits : Tbl (Option Nat)
  /-- the model's own: nanoseconds that have passed, by the cycles of the clock that runs; no step of the time base moves it -/
  upNs : Nat
  /-- the timers of the spec that run, and since when in `upNs` -/
  timers : List (Timer × Nat)
  /-- the model's own: numbers the draws of Config -/
  freeCtr : Nat
  /-- the commands that wait, first in front -/
  pending : List Instr
  deriving DecidableEq, Repr

/-- The state right after reset: every register at the value the register maps state, the islands released (R595), no
command waiting. -/
def State.reset : State :=
  { regs := [], mem := [], flash := [], wram := [], ecc := [], eccFixed := 0, cores := [], ctxs := [], bchs := [], brls := [], bat := ⟨[], false, false⟩,
    legs := [], sls := [], rlLoops := [], gate := ⟨0, 0, 2 ^ 48 - 1⟩, cmps := [], wins := [], mcks := [], mds := [], fbDue := [], hadc := ⟨0, [], false, false⟩,
    sense := [], bcs := [], mpps := [], syns := [],
    time := ⟨0, 0, 0, []⟩,
    eaves := ⟨true, 0, 0, 0, true, 0, false, false, 0, false, false, none, [], none⟩,
    thatch := ⟨[], 0, false, 0, 0, [], 0, none⟩,
    pus := [], seq := seqReset, law := lawReset, lanes := [], enets := [], ptp := ptpReset, ridge := ⟨false, false⟩,
    safe := safeReset, meters := [], met := ⟨[], 0, 0, [], [], false, none⟩,
    sys := sysReset,
    cfg := cfgReset,
    host := hostReset,
    limits := [], upNs := 0, timers := [], freeCtr := 0, pending := [] }

end Sys2Proof.Machine
end

