-- ==== Sys2Proof/Machine/Ops.lean ====
section
/-!
DEFINITION. The named operations on the state that every block uses: registers and their fields, memories, islands,
stamps, open values, and posts to the Thatch log.
-/

namespace Sys2Proof.Machine

/-! ### Mapped registers -/

/-- The stored word of the register at an address. -/
def State.rd (s : State) (a : Nat) : Word := tblGet resetWord s.regs a

/-- Set the stored word of the register at an address; access codes are not applied here. -/
def State.wr (s : State) (a : Nat) (v : Word) : State := { s with regs := tblSet resetWord s.regs a v }

/-- A field of a register. -/
def State.get (s : State) (r : Ref) : Nat := fieldOf (s.rd r.addr) r.hi r.lo

/-- Set a field of a register. -/
def State.put (s : State) (r : Ref) (v : Nat) : State := s.wr r.addr (putField (s.rd r.addr) r.hi r.lo v)

/-- Whether a field is not 0. -/
def State.on (s : State) (r : Ref) : Bool := s.get r ≠ 0

/-- Set a one-bit field. -/
def State.raise (s : State) (r : Ref) : State := s.put r 1

/-- Clear a field. -/
def State.clear (s : State) (r : Ref) : State := s.put r 0

/-- Set a one-bit field to a truth value. -/
def State.putB (s : State) (r : Ref) (b : Bool) : State := s.put r b.toNat

/-- Count up by one in a field, stopping at its largest value. -/
def State.bumpSat (s : State) (r : Ref) : State :=
  if s.get r + 1 < 2 ^ (r.hi + 1 - r.lo) then s.put r (s.get r + 1) else s

/-- Count up by one in a field, wrapping. -/
def State.bump (s : State) (r : Ref) : State := s.put r (s.get r + 1)

/-- A signed field (R14). -/
def State.getS (s : State) (r : Ref) : Int := sextNat (r.hi + 1 - r.lo) (s.get r)

/-- Set a signed field. -/
def State.putS (s : State) (r : Ref) (v : Int) : State := s.put r (natOfInt (r.hi + 1 - r.lo) v)

/-! ### Open values -/

/-- The open word of this draw. -/
def State.openWord (s : State) : Word := Config.freeWord s.freeCtr

/-- The open number of this draw, reduced below a bound. -/
def State.openBelow (s : State) (n : Nat) : Nat := Config.freeNat s.freeCtr % n

/-- Take the next draw. -/
def State.drawn (s : State) : State := { s with freeCtr := s.freeCtr + 1 }

/-! ### Islands (R28, R35, R561) -/

/-- The gates of the island are open: it is in RUN, whether or not its clock runs (R36, R561). -/
def State.pdOpen (s : State) (n : Nat) : Bool := if n = 0 then s.eaves.on else decide (s.get (R.SYSCTL_PD_STATE n) = 2)

/-- The clock of the island stands still while its gates are open: what is sent to it waits (R36, R650). -/
def State.pdStill (s : State) (n : Nat) : Bool := decide (n ≠ 0) && s.pdOpen n && s.sys.stopped.contains n

/-- The island works: its gates are open and its clock runs. -/
def State.pdRun (s : State) (n : Nat) : Bool := s.pdOpen n && (decide (n = 0) || !s.sys.stopped.contains n)

/-- The island is powered and out of reset, if isolated: what it drives stays as it stands (R38, R650, R651). -/
def State.pdLive (s : State) (n : Nat) : Bool :=
  decide (s.get (R.SYSCTL_PD_STATE n) = 2) || decide (s.get (R.SYSCTL_PD_STATE n) = 3)

/-- The clock of the island runs, be the island isolated or not: the logic on a hard-wired path goes on (R27, R38). -/
def State.pdClocked (s : State) (n : Nat) : Bool := s.pdLive n && !s.sys.stopped.contains n

/-- The island of a core: RCn in PD(4 + n), SC0 and SC1 in PD3, the Warden in PD2 (R28). -/
def pdOfCore (c : Nat) : Nat := if c < 8 then 4 + c else if c < 10 then 3 else 2

/-- The island that holds a block's registers (R619); those of RAFTER lie with their core. -/
def pdOfReg (a : Nat) : Nat :=
  match blockOf a with
  | some .SYSCTL | some .CLK | some .TIME | some .QUEUE | some .CFGSET | some .HOST => 3
  | some .BATTEN | some .GATE | some .BOOST => 12
  | some .CMP | some .MOD | some .HADC => 13
  | some .METER => 15
  | some .SAFE => 2
  | some .PURLIN | some .ENET | some .RIDGE => 14
  | some .EAVES | some .THATCH => 0
  | some .RAFTER =>
    let o := a % 0x10000
    if o < 0x400 then 4 + o / 4 / 32
    else if o < 0x500 then 4 + (o - 0x400) / 0x20
    else if o < 0x800 then 3
    else 4 + (o - 0x800) / 0x800 % 8
  | none => 3

/-! ### Memories (R39) -/

/-- What a byte of on-chip memory reads as when nothing has been written. -/
def memDefault (_ : Nat) : Byte := 0

/-- What a byte of the flash reads as when nothing has been written. -/
def flashDefault (_ : Nat) : Byte := 0xFF

/-- A byte of on-chip memory. -/
def State.byte (s : State) (a : Nat) : Byte := tblGet memDefault s.mem a

/-- Write one byte of on-chip memory. -/
def State.setByte (s : State) (a : Nat) (b : Byte) : State := { s with mem := tblSet memDefault s.mem a b }

/-- `n` bytes of on-chip memory from an address. -/
def State.bytes (s : State) (a : Nat) : Nat → List Byte
  | 0 => []
  | n + 1 => s.byte a :: s.bytes (a + 1) n

/-- Write bytes of on-chip memory from an address. -/
def State.setBytes (s : State) (a : Nat) : List Byte → State
  | [] => s
  | b :: bs => (s.setByte a b).setBytes (a + 1) bs

/-- The word at an address, little-endian (R13). -/
def State.memWord (s : State) (a : Nat) : Word := BitVec.ofNat 32 (natLE (s.bytes a 4))

/-- Write the word at an address. -/
def State.setMemWord (s : State) (a : Nat) (v : Word) : State := s.setBytes a (bytesLE 4 v.toNat)

/-- The bytes of words in memory order. -/
def wordsBytes (l : List Word) : List Byte := l.flatMap (fun w => bytesLE 4 w.toNat)

/-- `n` words from an address. -/
def State.memWords (s : State) (a : Nat) : Nat → List Word
  | 0 => []
  | n + 1 => s.memWord a :: s.memWords (a + 4) n

/-- Write words from an address. -/
def State.setMemWords (s : State) (a : Nat) : List Word → State
  | [] => s
  | w :: ws => (s.setMemWord a w).setMemWords (a + 4) ws

/-- An engine writes a run of bytes: where it covers all 64 bits of a word at once the word's mark is cleared, and a marked
word that it covers in part stays as it is (R41). -/
def State.putBytes (s : State) (a : Nat) (bs : List Byte) : State :=
  let s := { s with ecc := s.ecc.filter (fun w => !decide (a ≤ w ∧ w + 8 ≤ a + bs.length)) }
  bs.zipIdx.foldl (fun t x => if t.ecc.contains ((a + x.2) / 8 * 8) then t else t.setByte (a + x.2) x.1) s

/-- An engine writes words. -/
def State.putWords (s : State) (a : Nat) (ws : List Word) : State := s.putBytes a (ws.flatMap (fun w => bytesLE 4 w.toNat))

/-- `n` bytes of the flash from an address. -/
def State.flashBytes (s : State) (a : Nat) : Nat → List Byte
  | 0 => []
  | n + 1 => tblGet flashDefault s.flash a :: s.flashBytes (a + 1) n

/-- Write bytes of the flash from an address. -/
def State.setFlash (s : State) (a : Nat) : List Byte → State
  | [] => s
  | b :: bs => ({ s with flash := tblSet flashDefault s.flash a b } : State).setFlash (a + 1) bs

/-- The word of 64 bits that holds an address carries a mark of R41. -/
def State.marked (s : State) (a : Nat) : Bool := s.ecc.contains (a / 8 * 8)

/-- Clear the mark of a word of 64 bits (R41). -/
def State.unmark (s : State) (a : Nat) : State := { s with ecc := s.ecc.filter (· ≠ a / 8 * 8) }

/-- The memories of R39 by address. -/
inductive MemKind where
  | rcData (n : Nat)
  | rcInstr (n : Nat)
  | shared
  | superv
  | traceStore
  | mram
  deriving DecidableEq, Repr

/-- Which memory an address lies in (R39); none where it is unassigned or a peripheral's. -/
def memAt (a : Nat) : Option MemKind :=
  if a < 0x00800000 then
    if a % 0x100000 < 0x80000 then some (.rcData (a / 0x100000))
    else if a % 0x100000 < 0xA0000 then some (.rcInstr (a / 0x100000))
    else none
  else if a < 0x00B00000 then some .shared
  else if 0x00C00000 ≤ a ∧ a < 0x00D80000 then some .superv
  else if 0x00E00000 ≤ a ∧ a < 0x00F00000 then some .traceStore
  else if 0x00F00000 ≤ a ∧ a < 0x01080000 then some .mram
  else none

/-- The island of a memory (R39). -/
def pdOfMem : MemKind → Nat
  | .rcData n => 4 + n
  | .rcInstr n => 4 + n
  | .shared => 3
  | .superv => 3
  | .traceStore => 3
  | .mram => 0

/-- Whether a range of bytes lies wholly inside the shared SRAM or the supervisor SRAM (R539, R613). -/
def inSram (a n : Nat) : Bool :=
  decide (0x00800000 ≤ a ∧ a + n ≤ 0x00B00000) || decide (0x00C00000 ≤ a ∧ a + n ≤ 0x00D80000)

/-! ### Cores and contexts -/

/-- A core. -/
def State.core (s : State) (c : Nat) : CoreSt := tblGet (fun _ => coreReset) s.cores c

/-- Replace a core. -/
def State.setCore (s : State) (c : Nat) (x : CoreSt) : State :=
  { s with cores := tblSet (fun _ => coreReset) s.cores c x }

/-- A context. -/
def State.ctx (s : State) (c : Nat) : CtxSt := tblGet (fun _ => ctxReset) s.ctxs c

/-- Replace a context. -/
def State.setCtx (s : State) (c : Nat) (x : CtxSt) : State :=
  { s with ctxs := tblSet (fun _ => ctxReset) s.ctxs c x }

/-- A synthesizer. -/
def State.syn (s : State) (n : Nat) : SynSt := tblGet (fun _ => synReset) s.syns n

/-- Replace a synthesizer. -/
def State.setSyn (s : State) (n : Nat) (x : SynSt) : State :=
  { s with syns := tblSet (fun _ => synReset) s.syns n x }

/-- A direct Batten channel. -/
def State.bch (s : State) (n : Nat) : BCh := tblGet (fun _ => bchReset) s.bchs n

/-- Replace a direct Batten channel. -/
def State.setBch (s : State) (n : Nat) (x : BCh) : State :=
  { s with bchs := tblSet (fun _ => bchReset) s.bchs n x }

/-- A remote scheduler. -/
def State.brl (s : State) (m : Nat) : BRl := tblGet (fun _ => brlReset) s.brls m

/-- Replace a remote scheduler. -/
def State.setBrl (s : State) (m : Nat) (x : BRl) : State :=
  { s with brls := tblSet (fun _ => brlReset) s.brls m x }

/-! ### Time and stamps (R472, R477, R478) -/

/-- L: nanoseconds of the time base modulo 2^32 (R477). -/
def State.stampL (s : State) : Word := BitVec.ofNat 32 (s.time.sec * 1000000000 + s.time.ns)

/-- A stamp taken in an island: L less the lag of the island's follower (R478, R650). -/
def State.stamp (s : State) (pd : Nat) : Word :=
  s.stampL - BitVec.ofNat 32 (tblGet (fun _ => 0) s.time.lag pd)

/-- The difference of two stamps as the hardware reads it (R479). -/
def stampDiff (a b : Word) : Int := (a - b).toInt

/-! ### Posts to the log (R548, R549) -/

/-- Twelve payload bytes from the first bytes of a list, the rest 0. -/
def pad12 (bs : List Byte) : List Byte := (bs ++ List.replicate 12 0).take 12

/-- The standard payload of R549: instance number, status register, zeros. -/
def stdPayload (inst : Nat) (status : Word) : List Byte := pad12 (bytesLE 2 inst ++ bytesLE 4 status.toNat)

/-- Put a post into the FIFO of PD0; while PD0 is off it is refused and lost (R531), and when the FIFO is full it is
lost and counted (R548). -/
def State.enqueue (s : State) (p : Post) : State :=
  if !s.eaves.on then s
  else if s.thatch.fifo.length < 64 then
    ({ s with thatch := { s.thatch with fifo := s.thatch.fifo ++ [p] } } : State).put R.THATCH_STAT_FIFO
      (s.thatch.fifo.length + 1)
  else
    let s := if (s.rd R.THATCH_LOST).toNat + 1 < 2 ^ 32 then s.wr R.THATCH_LOST (s.rd R.THATCH_LOST + 1) else s
    ({ s with thatch := { s.thatch with lostDue := true } } : State).raise R.EAVES_STAT_LOGL

/-- A post with its time and its time flags: the time base while PD3 runs, else the seconds counter with ET; NSY while
TSYN is 0 (R545, R548). -/
def State.mkPost (s : State) (event source flags : Nat) (payload : List Byte) : Post :=
  let nsy := if s.on R.TIME_STAT_TSYN then 0 else 0x20
  if s.pdRun 3 then ⟨event, source, flags + nsy, pad12 payload, s.time.sec % 2 ^ 32, s.time.ns⟩
  else ⟨event, source, flags + nsy + 0x40, pad12 payload, s.eaves.sec % 2 ^ 32, s.eaves.sub * 1000000000 / 32768⟩

/-- Post a record with a payload of its own. -/
def State.post (s : State) (event source : Nat) (payload : List Byte) : State :=
  s.enqueue (s.mkPost event source 0 payload)

/-- Post a record whose recovery is not covered (FLAGS.UNC, R49, R651). -/
def State.postUnc (s : State) (event source : Nat) (payload : List Byte) : State :=
  s.enqueue (s.mkPost event source 0x10 payload)

/-- Post the record of a flag under R549: class, the flag's field, source island and instance. -/
def State.postFlag (s : State) (cls : Nat) (r : Ref) (source inst : Nat) : State :=
  s.post (cls * 256 + 0x20 + r.lo) source (stdPayload inst (s.rd r.addr))

/-- Set a flag and post its record under R549. -/
def State.flagPost (s : State) (cls : Nat) (r : Ref) (source inst : Nat) : State :=
  (s.raise r).postFlag cls r source inst

/-- Post the record of a statement that names no flag (R549): code 0x10. -/
def State.postPlain (s : State) (cls source inst : Nat) (status : Word) : State :=
  s.post (cls * 256 + 0x10) source (stdPayload inst status)

/-- The time base in nanoseconds. -/
def State.nowNs (s : State) : Nat := s.time.sec * 1000000000 + s.time.ns

/-- A timer starts, anew if it ran. -/
def State.startTimer (s : State) (t : Timer) : State :=
  { s with timers := (t, s.upNs) :: s.timers.filter (fun x => decide (x.1 ≠ t)) }

/-- A timer stops. -/
def State.stopTimer (s : State) (t : Timer) : State := { s with timers := s.timers.filter (fun x => decide (x.1 ≠ t)) }

/-- When a timer started, if it runs. -/
def State.timerAt (s : State) (t : Timer) : Option Nat := (s.timers.find? (fun x => decide (x.1 = t))).map (·.2)

/-- A timer runs while a condition holds, from when it came to hold. -/
def State.keepTimer (s : State) (t : Timer) (b : Bool) : State :=
  if !b then s.stopTimer t else if (s.timerAt t).isSome then s else s.startTimer t

/-- A running timer has run for so many nanoseconds. -/
def State.past (s : State) (t : Timer) (ns : Nat) : Bool :=
  match s.timerAt t with | some t0 => decide (t0 + ns ≤ s.upNs) | none => false

/-- Whether a record limited to one per second may be posted now. -/
def State.mayPost (s : State) (key : Nat) : Bool :=
  match tblGet (fun _ => none) s.limits key with
  | none => true
  | some t => t + 1000000000 ≤ s.upNs

/-- Post the record of a flag, at most once per second for its register (R161, R206, R239). -/
def State.postFlagLimited (s : State) (cls : Nat) (r : Ref) (source inst : Nat) : State :=
  if s.mayPost (r.addr * 32 + r.lo) then
    ({ s with limits := tblSet (fun _ => none) s.limits (r.addr * 32 + r.lo) (some s.upNs) } : State).postFlag cls r
      source inst
  else s

/-- Repeat an operation over a list of numbers. -/
def State.each (s : State) (l : List Nat) (f : Nat → State → State) : State := l.foldl (fun t n => f n t) s

/-- An effect in an island that must be in RUN: it does not happen otherwise. -/
def State.inPd (s : State) (pd : Nat) (f : State → State) : State := if s.pdRun pd then f s else s

/-- What a command answers. -/
abbrev Answer := Host.Outcome State Fault Refusal

end Sys2Proof.Machine
end

