-- ==== Sys2Proof/Machine/Batten.lean ====
section
/-!
DEFINITION. Batten (R190 to R225): the operations on PWM channels and remote-leg edge schedulers.
-/

namespace Sys2Proof.Machine

/-! ### Names of a channel's registers, common to both kinds (R226, R227, R233) -/

/-- The status register of an output. -/
def chStat : Chan → Nat
  | .dir n => R.BATTEN_CH_STAT n
  | .rem m => R.BATTEN_RL_STAT m

/-- The control register of an output. -/
def chCtrl : Chan → Nat
  | .dir n => R.BATTEN_CH_CTRL n
  | .rem m => R.BATTEN_RL_CTRL m

/-- The base of an output's window. -/
def chBase : Chan → Nat
  | .dir n => R.BATTEN_CH_CTRL n
  | .rem m => R.BATTEN_RL_CTRL m

/-- The EPOCH register of an output. -/
def chEpoch : Chan → Nat
  | .dir n => R.BATTEN_CH_EPOCH n
  | .rem m => R.BATTEN_RL_EPOCH m

/-- STAT.STATE. -/
def chState (c : Chan) : Ref := ⟨chStat c, 20, 18⟩
/-- STAT.INH. -/
def chInh (c : Chan) : Ref := ⟨chStat c, 17, 17⟩
/-- STAT.ENR. -/
def chEnr (c : Chan) : Ref := ⟨chStat c, 11, 11⟩
/-- STAT.MPS. -/
def chMps (c : Chan) : Ref := ⟨chStat c, 7, 7⟩
/-- STAT.DTC. -/
def chDtc (c : Chan) : Ref := ⟨chStat c, 6, 6⟩
/-- STAT.BND. -/
def chBnd (c : Chan) : Ref := ⟨chStat c, 5, 5⟩
/-- STAT.WLE. -/
def chWle (c : Chan) : Ref := ⟨chStat c, 3, 3⟩
/-- CTRL.EN. -/
def chEn (c : Chan) : Ref := ⟨chCtrl c, 0, 0⟩
/-- CTRL.MODE. -/
def chMode (c : Chan) : Ref := ⟨chCtrl c, 19, 18⟩
/-- CTRL.POL. -/
def chPol (c : Chan) : Ref := ⟨chCtrl c, 17, 17⟩
/-- The value register at an offset of the window (R225, R232). -/
def chReg (c : Chan) (off : Nat) : Nat := chBase c + off
/-- EPOCH.PAIR. -/
def chPair (c : Chan) : Ref := ⟨chEpoch c, 3, 3⟩

/-- DTR, DTF and MINPW of an output (R225, R232). -/
def chDtr : Chan → Nat
  | .dir n => R.BATTEN_CH_DTR n
  | .rem m => R.BATTEN_RL_DTR m
/-- DTF of an output. -/
def chDtf : Chan → Nat
  | .dir n => R.BATTEN_CH_DTF n
  | .rem m => R.BATTEN_RL_DTF m
/-- MINPW of an output. -/
def chMinpw : Chan → Nat
  | .dir n => R.BATTEN_CH_MINPW n
  | .rem m => R.BATTEN_RL_MINPW m

/-- All direct channels. -/
def allDir : List Chan := (List.finRange 48).map .dir
/-- All remote schedulers. -/
def allRem : List Chan := (List.finRange 144).map .rem
/-- Every output of Batten. -/
def allChans : List Chan := allDir ++ allRem

/-- The output that a CH field names (R123). -/
def chanOfCode (k : Nat) : Option Chan :=
  if h : k < 48 then some (.dir ⟨k, h⟩)
  else if h : 64 ≤ k ∧ k < 208 then some (.rem ⟨k - 64, by omega⟩)
  else none

/-- The CH code of an output (R123). -/
def codeOfChan : Chan → Nat
  | .dir n => n
  | .rem m => 64 + m

/-- The window offset of a register select of R123; none where the output has no such select. -/
def selOff (c : Chan) (sel : Nat) : Option Nat :=
  match sel, c with
  | 0, _ => some 0x08
  | 1, _ => some 0x0C
  | 2, _ => some 0x10
  | 3, .rem _ => some 0x24
  | 4, .rem _ => some 0x28
  | 5, .rem _ => some 0x2C
  | 6, .rem _ => some 0x30
  | _, _ => none

/-! ### Values (R190 to R193, R201, R211, R212) -/

/-- The prescaler of a direct channel (R190). -/
def State.presc (s : State) (n : Nat) : Nat := 2 ^ s.get (R.BATTEN_CH_CTRL_PRESC n)

/-- A value register in fine units (R191); with fine placement off the FINE field is ignored (R197). -/
def fineVal (presc : Nat) (coarse : Bool) (w : Word) : Nat :=
  fieldOf w 21 6 * presc * 64 + (if coarse then 0 else fieldOf w 5 0)

/-- The shortest period, 800 base ticks (R193). -/
def minPeriod : Nat := 800 * 64

/-- The own period of a direct channel in fine units, as applied (R193). -/
def State.ownPeriod (s : State) (n : Nat) : Nat :=
  max minPeriod (fineVal (s.presc n) (s.bch n).coarse (s.rd (R.BATTEN_CH_PERIOD n)))

/-- The period in force of a direct channel: its master's under a FOLLOW in effect (R212). -/
def State.perOf (s : State) (n : Nat) : Nat :=
  if (s.bch n).follow then s.ownPeriod (s.get (R.BATTEN_CH_CTRL_SYNCCH n)) else s.ownPeriod n

/-- A dead-time or gap register in fine units, at least one base tick (R201). -/
def deadTime (coarse : Bool) (w : Word) : Nat := max 64 (fieldOf w 17 6 * 64 + (if coarse then 0 else fieldOf w 5 0))

/-- The dead time that a transition to a level takes: DTR for a rise of LPULSE, DTF for a fall (R200). -/
def State.dtTo (s : State) (c : Chan) (coarse level : Bool) : Nat :=
  deadTime coarse (s.rd (if level then chDtr c else chDtf c))

/-- Some dead time of the output lies below one base tick (R201). -/
def State.dtShort (s : State) (c : Chan) : Bool :=
  decide (fieldOf (s.rd (chDtr c)) 17 0 < 64) || decide (fieldOf (s.rd (chDtf c)) 17 0 < 64)

/-- MINPW in fine units. -/
def State.minPw (s : State) (c : Chan) : Nat := fieldOf (s.rd (chMinpw c)) 11 0 * 64

/-- A FOLLOW configuration is valid: the master exists, is another channel and does not follow itself (R212). -/
def State.followOk (s : State) (n : Nat) : Bool :=
  let m := s.get (R.BATTEN_CH_CTRL_SYNCCH n)
  decide (m < 48) && decide (m ≠ n) && decide (s.get (R.BATTEN_CH_CTRL_SYNCSRC m) ≠ 1)

/-- A wrapped error in [−P/2, P/2) (R213). -/
def wrapErr (p : Nat) (e : Int) : Int := if 2 * (e % p) < p then e % p else e % p - p

/-! ### The transitions of a period (R198, R199, R202) -/

/-- What R198 and R199 ask of a period with duty `d` and period `p`: the level from the period start and the later
transitions. `act` is the active level. -/
def rawTransitions (mode : Nat) (act : Bool) (p d : Nat) : List (Int × Bool) :=
  if d = 0 then [(0, !act)]
  else if p ≤ d then [(0, act)]
  else if mode = 1 then
    let r := (p - d) / 2
    if r = 0 then [(0, act), ((d : Int), !act)] else [(0, !act), ((r : Int), act), ((r + d : Nat), !act)]
  else [(0, act), ((d : Int), !act)]

/-- Drop what does not change the level. -/
def dropSame : Bool → List (Int × Bool) → List (Int × Bool)
  | _, [] => []
  | l, (t, v) :: r => if v = l then dropSame l r else (t, v) :: dropSame v r

/-- Omit two successive transitions that are too close (R202); `gap v` is DT + MINPW of a transition to level `v`;
a period has at most three. -/
def omitClose (gap : Bool → Int) : Nat → List (Int × Bool) → List (Int × Bool)
  | 0, l => l
  | _ + 1, [] => []
  | _ + 1, [x] => [x]
  | k + 1, x :: y :: r => if y.1 - x.1 < gap x.2 then omitClose gap k r else x :: omitClose gap k (y :: r)

/-- A transition of a period that coincides with the last one of the period before is merged with it (R202): the level and
the transitions that remain. -/
def mergeFirst (held : Bool) (last : Int) : List (Int × Bool) → Bool × List (Int × Bool)
  | (t, v) :: r => if t = last ∧ v ≠ held then (v, r) else (held, (t, v) :: r)
  | [] => (held, [])

/-- Delay the first transition to DT + MINPW after the last transition of the period before (R202). -/
def delayFirst (gap : Bool → Int) (last : Int) (lastLp : Bool) : List (Int × Bool) → List (Int × Bool)
  | (t, v) :: r => if t - last < gap lastLp then (last + gap lastLp, v) :: r else (t, v) :: r
  | [] => []

/-- The transitions of a period after those that R198 and R199 ask for, spaced as R202 says: the last transition before
them at `last`, to level `lastLp`. -/
def spaced (gap : Bool → Int) (last : Int) (lastLp : Bool) (l : List (Int × Bool)) : List (Int × Bool) :=
  omitClose gap 8 (delayFirst gap last lastLp (omitClose gap 8 l))

/-- With fine placement off, a transition lies on the base tick at or before its instant; the period begins at `s0` (R197). -/
def placedAt (coarse : Bool) (s0 t : Int) : Int := if coarse then (s0 + t) / 64 * 64 - s0 else t

/-- The transitions of a period with their instants so placed. -/
def placed (coarse : Bool) (s0 : Int) (l : List (Int × Bool)) : List (Int × Bool) := l.map (fun x => (placedAt coarse s0 x.1, x.2))

/-! ### Stopping, inhibit and disable (R219 to R221) -/

/-- The last fall of LPULSE in a stop, floor(DTF/2) after LEN has gone low or after the change before it (R221). -/
def State.stopFall (s : State) (n : Nat) (lp : Bool) : Option EdgeSeq :=
  if lp then some ⟨false, deadTime (s.bch n).coarse (s.rd (R.BATTEN_CH_DTF n)) / 2, none, false⟩ else none

/-- Start the stop sequence: LEN is low, nothing new is scheduled; a change of LPULSE under way still takes place (R221). -/
def State.chStop (s : State) (c : Chan) : State :=
  let s := s.put (chState c) 3
  match c with
  | .dir n =>
    let b := s.bch n
    let e := match b.edge with
      | some e => if e.moved then s.stopFall n b.lp else some { e with rise := none }
      | none => s.stopFall n b.lp
    s.setBch n { b with len := false, sched := [], starting := false, edge := e }
  | .rem m => s.setBrl m { s.brl m with driving := false }

/-- The effect of a disable: EN = 0 (R219). -/
def State.chDisable (s : State) (c : Chan) : State :=
  let s := s.clear (chEn c)
  match s.get (chState c) with
  | 1 => s.put (chState c) 0
  | 2 => s.chStop c
  | 4 => s.put (chState c) 0
  | _ => s

/-- The INH reasons of an output. -/
def State.inhBy (s : State) : Chan → Nat
  | .dir n => (s.bch n).inhBy
  | .rem m => (s.brl m).inhBy

/-- Whether INH is marked for release. -/
def State.inhMark (s : State) : Chan → Bool
  | .dir n => (s.bch n).mark
  | .rem m => (s.brl m).mark

/-- Set the INH reasons and the mark. -/
def State.setInh (s : State) (c : Chan) (by' : Nat) (mark : Bool) : State :=
  match c with
  | .dir n => s.setBch n { s.bch n with inhBy := by', mark := mark }
  | .rem m => s.setBrl m { s.brl m with inhBy := by', mark := mark }

/-- Assert INH for a reason: an armed output is held, a running one stops (R219). -/
def State.inhibit (s : State) (k : Nat) (c : Chan) : State :=
  let s := (s.setInh c (s.inhBy c ||| 2 ^ k) false).raise (chInh c)
  match s.get (chState c) with
  | 1 => s.put (chState c) 4
  | 2 => s.chStop c
  | _ => s

/-- A reason for INH ends. -/
def State.uninhibit (s : State) (k : Nat) (c : Chan) : State :=
  if (s.inhBy c).testBit k then s.setInh c (s.inhBy c - 2 ^ k) (s.inhMark c) else s

/-- The reset controller marks INH for release once no reason remains (R219). -/
def State.markRelease (s : State) (c : Chan) : State :=
  if s.on (chInh c) && decide (s.inhBy c = 0) then s.setInh c 0 true else s

/-- LEN and LPULSE of an output are low, and no change of LPULSE is under way; a remote scheduler drives no pins (R221). -/
def State.pinsLow (s : State) : Chan → Bool
  | .dir n => !(s.bch n).len && !(s.bch n).lp && (s.bch n).edge.isNone
  | .rem _ => true

/-- STOPPING ends when LEN and LPULSE are low (R219, R221). -/
def State.chStopDone (s : State) (c : Chan) : State :=
  if s.get (chState c) = 3 ∧ s.pinsLow c = true then s.put (chState c) (if s.on (chEn c) then 4 else 0) else s

/-! ### Enable (R194, R198, R212, R217 to R219) -/

/-- The master of a remote scheduler (R215). -/
def State.rlMaster (s : State) (m : Nat) : Nat := s.get (R.BATTEN_RL_CTRL_MASTER m)

/-- The six schedulers of a lane group (R215). -/
def groupRems (g : Nat) : List Chan := (List.finRange 144).filterMap (fun m => if m.val / 6 = g then some (.rem m) else none)

/-- LEAD_g is not shorter than the period of scheduler m's master (R218). -/
def State.leadBad (s : State) (m : Nat) : Bool :=
  decide (s.rlMaster m < 48) && decide (s.perOf (s.rlMaster m) ≤ s.get (R.BATTEN_LEAD_LEAD (m / 6)) * 64)

/-- LEAD_g is not shorter than the period of a master of the group (R218). -/
def State.groupLeadBad (s : State) (g : Nat) : Bool := (List.range 6).any (fun k => s.leadBad (6 * g + k))

/-- Set LDE on every scheduler of a group. -/
def State.setLde (s : State) (g : Nat) : State :=
  s.each ((List.range 144).filter (fun m => m / 6 = g)) (fun m t => t.raise (R.BATTEN_RL_STAT_LDE m))

/-- Whether an enable is refused for a reason this chapter gives. -/
def State.enableRefused (s : State) (c : Chan) : Bool :=
  !s.on R.BATTEN_CAL_CALDONE || decide (s.get (chMode c) = 3) ||
  match c with
  | .dir n => decide (s.get (R.BATTEN_CH_CTRL_SYNCSRC n) = 1) && !s.followOk n
  | .rem m => s.groupLeadBad (m / 6)

/-- EN written 1 (R219); `refused` carries what other chapters add. -/
def State.chEnable (s : State) (c : Chan) (refused : Bool) : State :=
  match s.get (chState c) with
  | 0 =>
    if refused || s.enableRefused c then
      let s := match c with
        | .rem m => if s.groupLeadBad (m / 6) then s.setLde (m / 6) else s
        | .dir _ => s
      (s.clear (chEn c)).raise (chEnr c)
    else (s.raise (chEn c)).put (chState c) (if s.on (chInh c) then 4 else 1)
  | 3 => s.raise (chEnr c)
  | _ => s.raise (chEn c)

/-! ### Epochs (R203 to R207) -/

/-- The pending shadow values of an output. -/
def State.chPend (s : State) : Chan → Tbl (Option Word)
  | .dir n => (s.bch n).pend
  | .rem m => (s.brl m).pend

/-- Replace the pending shadow values and the tag of the newest pending epoch. -/
def State.setPend (s : State) (c : Chan) (p : Tbl (Option Word)) (tag : Option (Nat × Nat)) : State :=
  let e := chEpoch c
  let has := fun off => (tblGet (fun _ => none) p off).isSome.toNat
  let s := s.put ⟨e, 2, 0⟩ (has 0x08 + 2 * has 0x0C + 4 * has 0x10)
  match c with
  | .dir n => s.setBch n { s.bch n with pend := p, tag := tag }
  | .rem m => s.setBrl m { s.brl m with pend := p, tag := tag }

/-- The tag of the newest pending epoch of an output. -/
def State.chTag (s : State) : Chan → Option (Nat × Nat)
  | .dir n => (s.bch n).tag
  | .rem m => (s.brl m).tag

/-- The entries of an epoch that name an output, as window offset and value, in order. -/
def entriesFor (c : Chan) (es : List CbEntry) : List (Nat × Word) :=
  es.filterMap (fun e => if e.ch = codeOfChan c then (selOff c e.sel).map (fun o => (o, e.val)) else none)

/-- An epoch becomes visible in one output's shadow registers (R204, R206). -/
def State.landOn (s : State) (ep : Epoch) (late : Bool) (c : Chan) : State :=
  let es := entriesFor c ep.entries
  if es.isEmpty then s
  else
    let p := es.foldl (fun p e => tblSet (fun _ => none) p e.1 (some e.2)) (s.chPend c)
    let hasP := es.any (fun e => e.1 = 0x08)
    let hasD := es.any (fun e => e.1 = 0x0C)
    let s := if hasP then s.putB (chPair c) hasD else if hasD && !ep.hold then s.clear (chPair c) else s
    let s := s.setPend c p (if ep.core < 8 then some (ep.core, ep.seq) else s.chTag c)
    if late then s.raise (chBnd c) else s

/-- All entries of one epoch become visible in one PD12 cycle (R204). -/
def State.landEpoch (s : State) (ep : Epoch) (late : List Nat) : State :=
  (ep.entries.map (·.ch)).dedup.foldl (fun t k => match chanOfCode k with
    | some c => t.landOn ep (late.contains k) c
    | none => t) s

/-- The window offsets of the registers of an output that an epoch reaches. -/
def shadowOffs (c : Chan) : List Nat := (List.range 8).filterMap (selOff c)

/-- Copy the pending shadow registers to the active ones and clear the marks (R203). -/
def State.copyPend (s : State) (c : Chan) : State :=
  let p := s.chPend c
  let s := s.each (shadowOffs c) (fun o t => match tblGet (fun _ => none) p o with
    | some v => t.wr (chReg c o) (BitVec.ofNat 32 (fieldOf v 21 0))
    | none => t)
  let s := match s.chTag c with
    | some (core, seq) => (s.put ⟨chEpoch c, 31, 29⟩ core).put ⟨chEpoch c, 28, 16⟩ seq
    | none => s
  s.setPend c [] none

/-- The PERIOD register's word for a length in fine units (R191). -/
def wordOfFine (presc v : Nat) : Word := BitVec.ofNat 32 (v / (presc * 64) * 64 + v % 64)

/-- The value registers that BATTEN_VALUE_WRITE reaches: window offset and width; none where the output has none. -/
def valReg (c : Chan) (r : BattenVal) : Option (Nat × Nat) :=
  match r, c with
  | .period, _ => some (0x08, 22)
  | .duty, _ => some (0x0C, 22)
  | .phase, _ => some (0x10, 22)
  | .sample, _ => some (0x14, 22)
  | .dtr, _ => some (0x18, 18)
  | .dtf, _ => some (0x1C, 18)
  | .blank, .dir _ => some (0x20, 18)
  | .minpw, .dir _ => some (0x24, 12)
  | .minpw, .rem _ => some (0x20, 12)
  | .upOn, .rem _ => some (0x24, 22)
  | .upOff, .rem _ => some (0x28, 22)
  | .loOn, .rem _ => some (0x2C, 22)
  | .loOff, .rem _ => some (0x30, 22)
  | _, _ => none

/-- A direct write of a value register: accepted in OFF, where it sets shadow and active value at once; otherwise
discarded with WLE (R17, R207). -/
def State.valueWrite (s : State) (c : Chan) (r : BattenVal) (v : Word) : State :=
  match valReg c r with
  | none => s
  | some (off, w) =>
    if s.get (chState c) = 0 then
      let s := s.wr (chReg c off) (BitVec.ofNat 32 (v.toNat % 2 ^ w))
      s.setPend c (tblErase (s.chPend c) off) (s.chTag c)
    else if s.rd (chReg c off) = BitVec.ofNat 32 (v.toNat % 2 ^ w) then s
    else s.raise (chWle c)

/-! ### Reload of a direct channel (R203 to R208, R211 to R214, R219) -/

/-- The duty of a direct channel in fine units. -/
def State.dutyOf (s : State) (n : Nat) : Nat :=
  fineVal (s.presc n) (s.bch n).coarse (s.rd (R.BATTEN_CH_DUTY n))

/-- PHASE of a direct channel in fine units. -/
def State.phaseOf (s : State) (n : Nat) : Int :=
  (fineVal (s.presc n) (s.bch n).coarse (s.rd (R.BATTEN_CH_PHASE n)) : Nat)

/-- R206 at a reload: a PERIOD pending without its duty. -/
def State.pairCheck (s : State) (n : Fin 48) (periodPending : Bool) : State :=
  if periodPending && !s.on (chPair (.dir n)) && !(s.bch n).follow then
    let s := s.raise (R.BATTEN_CH_STAT_PDX n)
    let s := if s.ownPeriod n < s.dutyOf n then s.wr (R.BATTEN_CH_DUTY n) (wordOfFine (s.presc n) (s.ownPeriod n)) else s
    s.postFlagLimited 5 (R.BATTEN_CH_STAT_PDX n) 12 n
  else s

/-- A scheduler of a group whose lead is not shorter than its master's period stops; one that has not started does not
start (R218). -/
def State.leadStop (s : State) (c : Chan) : State :=
  match s.get (chState c) with
  | 1 => s.put (chState c) 4
  | 2 => s.chStop c
  | _ => s

/-- LDE, and the stop of the schedulers, in every group of a list whose lead is not shorter than the period (R218). -/
def State.leadCheck (s : State) (gs : List Nat) : State :=
  s.each gs (fun g t => if t.groupLeadBad g then (groupRems g).foldl State.leadStop (t.setLde g) else t)

/-- The lane groups with a scheduler that follows a channel. -/
def State.groupsOfMaster (s : State) (n : Nat) : List Nat :=
  (List.range 24).filter (fun g => (List.range 6).any (fun k => decide (s.rlMaster (6 * g + k) = n)))

/-- A direct write of a value register, which may change the period of a master (R207, R218). -/
def State.valueWritten (s : State) (c : Chan) (r : BattenVal) (v : Word) : State :=
  let t := s.valueWrite c r v
  match c, r with
  | .dir n, .period => if s.get (chState c) = 0 then t.leadCheck (t.groupsOfMaster n) else t
  | _, _ => t

/-- The start of a period in RUN: the transitions of R198 to R202 are placed, after those that are left over. -/
def State.schedule (s : State) (n : Fin 48) (shift : Int) : State :=
  let b := s.bch n
  let c := Chan.dir n
  let act := !s.on (chPol c)
  let left := b.sched.map (fun x => { x with t := x.t - shift })
  let last0 := b.lastTr - shift
  let gap := fun v => ((s.dtTo c b.coarse v + s.minPw c : Nat) : Int)
  let p := s.perOf n
  let d := s.dutyOf n
  let heldEnd := (left.getLast?.map (·.lv)).getD b.lastLp
  let want := dropSame heldEnd (rawTransitions (s.get (chMode c)) act p d)
  -- a left-over transition that coincides with the first one is merged with it (R202)
  let m := mergeFirst heldEnd ((left.getLast?.map (·.t)).getD (-1)) want
  let left := if m.1 = heldEnd then left else left.dropLast
  let last := (left.getLast?.map (·.t)).getD last0
  let lastLp := (left.getLast?.map (·.lv)).getD b.lastLp
  let tr := placed b.coarse b.begins (spaced gap last lastLp m.2)
  let s := if placed b.coarse b.begins m.2 = tr then s else s.raise (chMps c)
  let s := if s.dtShort c then s.raise (chDtc c) else s
  let pcm := decide (s.get (chMode c) = 2) && decide (0 < d ∧ d < p)
  s.setBch n { b with sched := left ++ tr.map (fun x => ⟨x.1, x.2, pcm && decide (x.2 = !act)⟩), lastTr := last0,
                      endBy := 0, endPrev := b.endBy }

/-- PHASE modulo a period (R211). -/
def wrapPhase (p : Nat) (v : Int) : Int := v % (p : Int)

/-- How long a follower's period that begins at `s0` lasts before a change of PHASE: as its master's period that runs then,
which the master has begun or is about to begin (R211, R212). -/
def State.followDur (s : State) (m : Nat) (s0 : Int) : Int :=
  let b := s.bch m
  if s0 < b.begins + b.dur then b.dur
  else (s.ownPeriod m : Int) + (if 2 ≤ s.get (R.BATTEN_CH_CTRL_SYNCSRC m) then b.slip else 0)

/-- The length of the period of a channel that begins at `s0` (R211 to R213): its own period, with the slip of the last sync
edge under RSYNC and SYNCIN; under FOLLOW its master's, moved by a change of PHASE from `old` to `new`, and at the start of the
following up to the first start that R211 gives. -/
def State.durFrom (s : State) (n : Nat) (s0 : Int) (fol wasFol : Bool) (old new : Int) : Int :=
  let m := s.get (R.BATTEN_CH_CTRL_SYNCCH n)
  let p := s.ownPeriod m
  if fol then
    if wasFol then max 1 (s.followDur m s0 + (wrapPhase p new - wrapPhase p old))
    else
      let x := ((s.bch m).begins + wrapPhase p new - s0) % (p : Int)
      if x = 0 then p else x
  else (s.ownPeriod n : Int) + (if 2 ≤ s.get (R.BATTEN_CH_CTRL_SYNCSRC n) then (s.bch n).slip else 0)

/-- PD12 runs on BYPCLK: a base tick lasts 10 ns (R224). -/
def State.pd12Byp (s : State) : Bool := s.on (R.SYSCTL_PD_BYP 12)

/-- Nanoseconds of a number of fine units, as a stamp adds them (R190, R224). -/
def State.nsOfFine (s : State) (v : Nat) : Word := BitVec.ofNat 32 (if s.pd12Byp then v * 10 / 64 else v * 5 / 256)

/-- Base ticks in a time of nanoseconds (R190, R224). -/
def State.ticksOfNs (s : State) (v : Nat) : Nat := if s.pd12Byp then v / 10 else v * 4 / 5

/-- Base ticks since the start of the running period; none pass while the clock of PD12 stands still (R222, R231). -/
def State.posOf (s : State) (n : Nat) : Nat :=
  (s.bch n).cnt + (if s.sys.stopped.contains 12 then 0 else s.ticksOfNs (s.stampL - (s.bch n).cntL).toNat)

/-- The ticks counted so far are noted on every channel: the length of a tick, or L, is about to change, or the clock of PD12
stops or starts. -/
def State.noteTicks (s : State) : State :=
  { s with bchs := s.bchs.map (fun x => (x.1, { x.2 with cnt := s.posOf x.1, cntL := s.stampL })) }

/-- The ticks count on from the present reading of L. -/
def State.resumeTicks (s : State) : State := { s with bchs := s.bchs.map (fun x => (x.1, { x.2 with cntL := s.stampL })) }

/-- A period begins at `s0` and lasts `dur`: its events (R203, R208). -/
def State.beginPeriod (s : State) (n : Fin 48) (s0 dur : Int) : State :=
  let b := s.bch n
  let smp := fineVal (s.presc n) b.coarse (s.rd (R.BATTEN_CH_SAMPLE n))
  let s := s.bump (R.BATTEN_CH_COUNT_PCNT n)
  s.setBch n { b with
    begins := s0, dur := dur, cnt := 0, cntL := s.stampL, start := s.stamp 12, evReload := 0xFF, slip := 0,
    trigAt := if smp < s.perOf n then some (s.stamp 12 + s.nsOfFine smp) else none }

/-- INH marked for release goes at a reload or release cycle, but not while the output stops; ARMED and HELD then start (R219).
The answer says whether the output starts. -/
def State.takeRelease (s : State) (c : Chan) : State × Bool :=
  let st := s.get (chState c)
  let released := s.inhMark c && decide (st ≠ 3)
  let s := if released then (s.setInh c 0 false).clear (chInh c) else s
  let starts := decide (st = 1) || (decide (st = 4) && released)
  (if starts then s.put (chState c) 2 else s, starts)

/-- RSYNC at the reload of its source channel (R214, R523). -/
def State.rsyncReload (s : State) (n : Fin 48) : State :=
  if s.on R.BATTEN_RSYNC_OEN && !s.ridge.stopped && decide (s.get R.BATTEN_RSYNC_CH = n) then
    { s with bat := { s.bat with rsync := decide (s.get (R.BATTEN_CH_COUNT_PCNT n) % 2 ^ s.get R.BATTEN_RSYNC_DIV = 0) } }
  else s

/-- A PCM pulse of the whole period that no crossing has ended reaches its nominal end (R209). -/
def State.wholePulseEnd (s : State) (n : Fin 48) : State :=
  let b := s.bch n
  if decide (s.get (chState (.dir n)) = 2) && decide (s.get (chMode (.dir n)) = 2) &&
      decide (b.lastLp = !s.on (chPol (.dir n))) && decide (b.endBy ≠ 1) && b.sched.isEmpty && decide (s.perOf n ≤ s.dutyOf n) then
    (s.raise (R.BATTEN_CH_STAT_CTMAX n)).setBch n { b with endBy := 2 }
  else s

/-- The active values of a new period: pending shadows are copied, a valid FOLLOW takes effect, R193 and R206 are applied. -/
def State.newValues (s : State) (n : Fin 48) : State :=
  let pp := (tblGet (fun _ => none) (s.bch n).pend 0x08).isSome
  let s := s.copyPend (.dir n)
  let fol := decide (s.get (R.BATTEN_CH_CTRL_SYNCSRC n) = 1) && s.followOk n
  let s := s.setBch n { s.bch n with coarse := s.on R.BATTEN_CAL_DLF, follow := fol }
  let s := s.pairCheck n pp
  if !fol && decide (fineVal (s.presc n) (s.bch n).coarse (s.rd (R.BATTEN_CH_PERIOD n)) < minPeriod) then
    s.raise (R.BATTEN_CH_STAT_PRL n) else s

/-- The reload cycle of a direct channel. -/
def State.chReload (s : State) (n : Fin 48) : State :=
  let c := Chan.dir n
  let s := s.wholePulseEnd n
  let b := s.bch n
  let old := s.phaseOf n
  let s := s.newValues n
  let s0 := b.begins + b.dur
  let s := s.beginPeriod n s0 (s.durFrom n s0 (s.bch n).follow b.follow old (s.phaseOf n))
  let s := s.setBch n { s.bch n with miss := if 2 ≤ s.get (R.BATTEN_CH_CTRL_SYNCSRC n) then b.miss + 1 else 0 }
  let r := s.takeRelease c
  let s := if r.2 then r.1.setBch n { r.1.bch n with
    starting := true, sched := [], edge := none, lp := false, lastLp := false, lastTr := -1000000000 } else r.1
  let s := if s.get (chState c) = 2 then s.schedule n b.dur else s
  let s := s.rsyncReload n
  s.leadCheck (s.groupsOfMaster n)

/-- The timebase of every direct channel starts at the release of PD12, with the values in force after reset (R220). -/
def State.startPeriods (s : State) : State :=
  (List.finRange 48).foldl (fun (t : State) (n : Fin 48) =>
    let t := if fineVal (t.presc n) (t.bch n).coarse (t.rd (R.BATTEN_CH_PERIOD n)) < minPeriod then
      t.raise (R.BATTEN_CH_STAT_PRL n) else t
    t.beginPeriod n 0 (t.ownPeriod n)) s

/-- LEN rises with LPULSE at a level: the blanking window opens where BLU or BLL asks for it (R210). -/
def State.lenRises (s : State) (n : Fin 48) (level : Bool) : State :=
  let opens := s.on (if level then R.BATTEN_CH_BLANK_BLU n else R.BATTEN_CH_BLANK_BLL n) &&
    decide (s.get (R.BATTEN_CH_BLANK_LEN n) ≠ 0)
  s.setBch n { s.bch n with len := true, starting := false, blank := (s.bch n).blank || opens }

/-- The next pin change of a channel's edges (R200): LEN falls at the instant of the next transition, LPULSE changes
floor(DT/2) later, LEN rises DT after its fall; a start with no transition in the period raises LEN (R219). In a stop the
change under way takes place and LPULSE falls (R221). -/
def State.edgeSequence (s : State) (n : Fin 48) : State :=
  let b := s.bch n
  let st := s.get (R.BATTEN_CH_STAT_STATE n)
  match b.edge with
  | some e =>
    if e.moved then (if st = 2 then (s.setBch n { b with edge := none }).lenRises n b.lp else s)
    else if st = 2 then
      s.setBch n { b with lp := e.lv, edge := if e.rise.isSome then some { e with moved := true } else none }
    else if st = 3 then s.setBch n { b with lp := e.lv, edge := s.stopFall n e.lv }
    else s
  | none =>
    if st ≠ 2 then s
    else match b.sched with
      | [] => if b.starting then s.lenRises n b.lp else s
      | x :: r =>
        let s := if x.nom then s.raise (R.BATTEN_CH_STAT_CTMAX n) else s
        let dt := s.dtTo (.dir n) b.coarse x.lv
        s.setBch n { b with
          sched := r, len := false, edge := some ⟨x.lv, dt / 2, some dt, false⟩, lastTr := x.t, lastLp := x.lv,
          endBy := if x.nom then 2 else b.endBy, onT := if x.nom then (x.t - b.lastTr).toNat else b.onT }

/-- The comparator ends the active pulse of a PCM period at a base tick, counted from the reload cycle (R209). -/
def State.pcmEnd (s : State) (n : Fin 48) (tick : Nat) : State :=
  let b := s.bch n
  let c := Chan.dir n
  let act := !s.on (chPol c)
  if decide (s.get (chState c) = 2) && decide (s.get (chMode c) = 2) && decide (b.lastLp = act) && decide (b.endBy ≠ 1) &&
      !b.blank && s.on (R.CMP_STAT_OUT (2 * n)) then
    let floor' := b.lastTr + ((s.dtTo c b.coarse b.lastLp + s.minPw c : Nat) : Int)
    let t := ((tick * 64 : Nat) : Int) - b.begins % 64
    let s := if t < floor' then s.raise (chMps c) else s
    s.setBch n { b with sched := [⟨max floor' t, !act, false⟩], endBy := 1, onT := (max floor' t - b.lastTr).toNat }
  else s

/-! ### Sampling triggers and sync edges (R208, R213) -/

/-- The sampling trigger of an output: at S + SAMPLE, once a period, with the values of the reload or release cycle; none in a
period whose SAMPLE reaches its end. -/
def State.sampleTrigger (s : State) (c : Chan) : State :=
  match c with
  | .dir n =>
    match (s.bch n).trigAt with
    | some w => s.setBch n { s.bch n with trig := w, trigAt := none, evSample := 0xFF }
    | none => s
  | .rem m =>
    match (s.brl m).trigs with
    | w :: l => s.setBrl m { s.brl m with trig := w, trigs := l, evSample := 0xFF }
    | [] => s

/-- What a channel subtracts from the stamp of an edge: DLY of an RSYNC edge (R523). -/
def State.syncDly (s : State) (n : Nat) : Int :=
  if s.get (R.BATTEN_CH_CTRL_SYNCSRC n) = 2 then s.getS R.RIDGE_RSYNC_DLY else 0

/-- The error of a sync edge at an instant in fine units from the release of PD12, read in steps of 4: the expected period start
S_x + PHASE less the period start (R213, R358, R523). -/
def State.syncErr (s : State) (n : Nat) (edge : Nat) : Int :=
  wrapErr (s.perOf n) (((edge / 4 * 4 : Nat) : Int) - s.syncDly n + s.phaseOf n - (s.bch n).begins)

/-- A sync edge: the next period slips by its error (R213). -/
def State.syncEdge (s : State) (n : Fin 48) (edge : Nat) : State :=
  if 2 ≤ s.get (R.BATTEN_CH_CTRL_SYNCSRC n) then
    let e := s.syncErr n edge
    let lim : Int := (s.get (R.BATTEN_CH_SYNC_SYNCLIM n) : Nat)
    let s := s.putB (R.BATTEN_CH_STAT_SLK n) (decide (-lim ≤ e ∧ e ≤ lim))
    s.setBch n { s.bch n with slip := clampInt (-lim) lim e, miss := 0 }
  else s

/-- No sync edge has come within 256 periods (R213). -/
def State.syncGone (s : State) (n : Fin 48) : Bool :=
  decide (2 ≤ s.get (R.BATTEN_CH_CTRL_SYNCSRC n)) && decide (256 ≤ (s.bch n).miss)

/-- SLOST is set and SLK clears (R213). -/
def State.syncLost (s : State) (n : Fin 48) : State := (s.raise (R.BATTEN_CH_STAT_SLOST n)).clear (R.BATTEN_CH_STAT_SLK n)

/-! ### Calibration (R194 to R197) -/

/-- Fine placement goes off: what a channel has still to place lies on base ticks (R197). -/
def coarseOn (b : BCh) : BCh :=
  { b with coarse := true, sched := b.sched.map (fun x => { x with t := placedAt true b.begins x.t }) }

/-- The replica line has been measured: TAPS and DLF follow; fine placement returns at a channel's next reload. -/
def State.calibrated (s : State) (lock : Bool) (taps : Nat) : State :=
  let s := s.put R.BATTEN_CAL_TAPS taps
  if lock && decide (56 ≤ taps) && decide (taps ≤ 72) then s.clear R.BATTEN_CAL_DLF
  else
    let s := ((s.raise R.BATTEN_CAL_DLF).raise R.BATTEN_CAL_DLFE).postFlag 5 R.BATTEN_CAL_DLF 12 0
    s.each (List.range 48) (fun n t => t.setBch n (coarseOn (t.bch n)))

/-! ### Remote schedulers (R215 to R217) -/

/-- On intervals of both switches from the transitions of a period: the level from an instant to the first transition, then from
each transition plus its dead time to the next one; the last interval of a switch counts, since a frame carries one. -/
def intervals (s : State) (c : Chan) (p : Nat) : Bool → Int → List (Int × Bool) → RlTimes → RlTimes
  | lv, from', [], r =>
    let on := from'.toNat
    if lv then { r with upOn := on, upOff := p } else { r with loOn := on, loOff := p }
  | lv, from', (t, v) :: l, r =>
    let on := from'.toNat
    let r := if from' < t then (if lv then { r with upOn := on, upOff := t.toNat } else { r with loOn := on, loOff := t.toNat })
      else r
    intervals s c p v (t + s.dtTo c false v) l r

/-- A time at or beyond the period is clamped to the period; an interval that does not begin before it ends is empty. -/
def clampTimes (p : Nat) (r : RlTimes) : RlTimes :=
  let r := { upOn := min r.upOn p, upOff := min r.upOff p, loOn := min r.loOn p, loOff := min r.loOff p : RlTimes }
  { upOn := r.upOn, upOff := max r.upOn r.upOff, loOn := r.loOn, loOff := max r.loOn r.loOff }

/-- What a derived mode asks of a remote period whose last transition lies at `last` from its start: the level from which its
transitions count, and the transitions (R198, R199, R202, R217). -/
def State.rlWanted (s : State) (m : Fin 144) (p : Nat) (last : Int) : Bool × List (Int × Bool) :=
  let c := Chan.rem m
  let d := fineVal (s.presc (s.rlMaster m)) false (s.rd (R.BATTEN_RL_DUTY m))
  let b := s.brl m
  mergeFirst b.lp last (dropSame b.lp (rawTransitions (s.get (chMode c)) (!s.on (chPol c)) p d))

/-- DT + MINPW of a remote scheduler after a transition to a level. -/
def State.rlGap (s : State) (m : Fin 144) (v : Bool) : Int := ((s.dtTo (.rem m) false v + s.minPw (.rem m) : Nat) : Int)

/-- The transitions of a remote period in a derived mode, spaced. -/
def State.rlTransitions (s : State) (m : Fin 144) (p : Nat) (last : Int) : List (Int × Bool) :=
  spaced (s.rlGap m) last (s.brl m).lp (s.rlWanted m p last).2

/-- The times that R217 forms for the coming period; the level held conducts from its dead time after the last transition, or,
in a start, after the period start (R219). -/
def State.rlForm (s : State) (m : Fin 144) (p : Nat) (last : Int) (starting : Bool) : RlTimes :=
  let c := Chan.rem m
  let pre := s.presc (s.rlMaster m)
  if s.get (chMode c) = 2 then
    let v := fun r => fineVal pre false (s.rd r)
    clampTimes p ⟨v (R.BATTEN_RL_UP_ON m), v (R.BATTEN_RL_UP_OFF m), v (R.BATTEN_RL_LO_ON m), v (R.BATTEN_RL_LO_OFF m)⟩
  else
    let want := s.rlWanted m p last
    let lv := (s.brl m).lp
    let first : Int := if starting then (s.dtTo c false lv : Nat)
      else if want.1 = lv then max 0 (last + (s.dtTo c false lv : Nat)) else 0
    clampTimes p (intervals s c p want.1 first (s.rlTransitions m p last) ⟨p, p, p, p⟩)

/-- The start of the remote period that a release cycle freezes: the start of the master's period plus PHASE, of the running
period of the master where the release cycle lies in it, else of the next one (R215, R216). -/
def State.rlStart (s : State) (m : Fin 144) : Int :=
  let n := s.rlMaster m
  let b := s.bch n
  let ph := wrapPhase (s.perOf n) (fineVal (s.presc n) false (s.rd (R.BATTEN_RL_PHASE m)) : Nat)
  if (s.get (R.BATTEN_LEAD_LEAD (m / 6)) * 64 : Nat) ≤ ph then b.begins + ph else b.begins + b.dur + ph

/-- The release cycle of a remote scheduler up to the interlock: shadow values are copied, the state machine moves and
the times are formed (R216, R217, R219). The interlock of R237 and the frame follow in their chapters. -/
def State.rlRelease (s : State) (m : Fin 144) : State :=
  let c := Chan.rem m
  let n := s.rlMaster m
  if n < 48 then
    let s := s.copyPend c
    let r := s.takeRelease c
    let starts := r.2
    let s := if starts then r.1.setBrl m { r.1.brl m with lp := false, lastTr := -1000000000 } else r.1
    let p := s.perOf n
    let b := s.brl m
    let s0 := s.rlStart m
    let last := b.lastTr - (s0 - b.begins)
    let derived := decide (s.get (chMode c) ≠ 2)
    let run := decide (s.get (chState c) = 2)
    let s := if derived && s.dtShort c then s.raise (chDtc c) else s
    let tr := s.rlTransitions m p last
    let s := if derived && run && decide ((s.rlWanted m p last).2 ≠ tr) then s.raise (chMps c) else s
    let times := if run then s.rlForm m p last starts else ⟨p, p, p, p⟩
    let lp' := (tr.getLast?.map (·.2)).getD (s.rlWanted m p last).1
    let last' := (tr.getLast?.map (·.1)).getD last
    let start := s.stamp 12 + s.nsOfFine (s.get (R.BATTEN_LEAD_LEAD (m / 6)) * 64)
    let smp := fineVal (s.presc n) false (s.rd (R.BATTEN_RL_SAMPLE m))
    s.setBrl m { b with
      lp := derived && run && lp', lastTr := if derived && run then last' else -1000000000, begins := s0,
      prev := b.cur, cur := times, per := p, driving := run, start := start, evReload := 0xFF,
      trigs := if smp < p then b.trigs ++ [start + s.nsOfFine smp] else b.trigs }
  else s

end Sys2Proof.Machine
end

