-- ==== Sys2Proof/Machine/Sense.lean ====
section
/-!
DEFINITION. The analog front PD13 (R267 to R306): modulator clocks, inputs, their filters and detectors, comparators, window
monitors and the housekeeping ADC. What a comparator's consumers do stands with them.
-/

namespace Sys2Proof.Machine

/-- PD13 runs on BYPCLK. -/
def State.pd13Byp (s : State) : Bool := s.on (R.SYSCTL_PD_BYP 13)

/-- Nanoseconds of a PD13 cycle (R267, R300). -/
def State.cyc13 (s : State) : Nat := if s.pd13Byp then 10 else 5

/-- A leg. -/
def State.leg (s : State) (n : Nat) : LegSt := tblGet (fun _ => legReset) s.legs n

/-- Replace a leg. -/
def State.setLeg (s : State) (n : Nat) (x : LegSt) : State := { s with legs := tblSet (fun _ => legReset) s.legs n x }

/-- A converter. -/
def State.bc (s : State) (k : Nat) : BcSt := tblGet (fun _ => bcReset) s.bcs k
/-- Replace a converter. -/
def State.setBc (s : State) (k : Nat) (x : BcSt) : State := { s with bcs := tblSet (fun _ => bcReset) s.bcs k x }
/-- An MPP engine. -/
def State.mpp (s : State) (k : Nat) : MppSt := tblGet (fun _ => mppReset) s.mpps k
/-- Replace an MPP engine. -/
def State.setMpp (s : State) (k : Nat) (x : MppSt) : State := { s with mpps := tblSet (fun _ => mppReset) s.mpps k x }

/-- An input reports a condition of R278 to the boost and MPP engines: the running cross-check window does not count, and the running
interval is invalid (R361, R365). -/
def State.boostInputBad (s : State) (n : Nat) : State :=
  s.each (List.range 8) (fun k t =>
    let isrc := decide (t.get (R.BOOST_BC_XCHK_ISRC k) = n)
    let t := if isrc then t.setBc k { t.bc k with win := (t.bc k).win.map (fun w => { w with bad := true }) } else t
    if isrc || decide (t.get (R.BOOST_BC_MCFG_VSRC k) = n) then t.setMpp k { t.mpp k with inv := true } else t)

/-- A MON output of an input reaches the engines that average it: the window of R361, and the last MAVG ms of an interval of R365. -/
def State.boostMon (s : State) (n : Nat) (v : Int) : State :=
  s.each (List.range 8) (fun k t =>
    let isrc := decide (t.get (R.BOOST_BC_XCHK_ISRC k) = n)
    let add := fun (a : Int × Nat) => (a.1 + v, a.2 + 1)
    let t := if isrc then t.setBc k { t.bc k with win := (t.bc k).win.map (fun w => { w with mon := add w.mon }) } else t
    let x := t.mpp k
    let stop := x.t0 + 1000000 * t.get (R.BOOST_BC_MCFG_TMPP k)
    if x.on && decide (stop ≤ t.upNs + 1000000 * t.get (R.BOOST_BC_MCFG_MAVG k) ∧ t.upNs < stop) then
      t.setMpp k { x with
        vAcc := if t.get (R.BOOST_BC_MCFG_VSRC k) = n then add x.vAcc else x.vAcc, iAcc := if isrc then add x.iAcc else x.iAcc }
    else t)

/-! ### Modulator clocks (R268, R269) -/

/-- A modulator clock. -/
def State.mck (s : State) (k : Nat) : MckSt := tblGet (fun _ => mckReset) s.mcks k

/-- Replace a modulator clock. -/
def State.setMck (s : State) (k : Nat) (x : MckSt) : State := { s with mcks := tblSet (fun _ => mckReset) s.mcks k x }

/-- A modulator input. -/
def State.md (s : State) (n : Nat) : MdSt := tblGet (fun _ => mdReset) s.mds n

/-- Replace a modulator input. -/
def State.setMd (s : State) (n : Nat) (x : MdSt) : State := { s with mds := tblSet (fun _ => mdReset) s.mds n x }

/-- MDIV as applied (R268). -/
def State.mdiv (s : State) (k : Nat) : Nat := max 8 (min 40 (s.get (R.MOD_MCK_CFG_MDIV k)))

/-- The square wave of MCKk: PD13 cycles high and cycles of the period; none while it drives low (R268). -/
def State.mckWave (s : State) (k : Nat) : Option (Nat × Nat) :=
  if s.on (R.MOD_MCK_CFG_EN k) then some ((s.mdiv k + 1) / 2, s.mdiv k) else none

/-- The clock of an input is dead. -/
def State.mckIsDead (s : State) (k : Nat) : Bool := (s.mck k).dead

/-- Why an input reports a dead clock (R278). -/
def State.inputDead (s : State) (n : Nat) : Bool :=
  let k := s.get (R.MOD_MD_CFG_CKSEL n)
  s.mckIsDead k || !s.on (R.MOD_MCK_CFG_EN k) || !s.on (R.MOD_MD_CFG_EN n)

/-- Set a detector's latched flag and post its record at most once per second (R279). -/
def State.latchDet (s : State) (n : Nat) (latched : Ref) : State :=
  let s := (s.raise latched).boostInputBad n
  if s.mayPost (latched.addr * 32 + latched.lo) then
    ({ s with limits := tblSet (fun _ => none) s.limits (latched.addr * 32 + latched.lo) (some s.upNs) } : State).post
      (0x720 + latched.lo) 13 (stdPayload n (s.rd latched.addr))
  else s

/-- Recompute the dead-clock report of an input (R278): it rises at once, and falls when the clock has been good for 4 periods,
both ENs are 1 and filter 0, which MD24 to MD31 do not have, has settled. -/
def State.refreshDead (s : State) (n : Nat) : State :=
  if s.inputDead n then
    if s.on (R.MOD_MD_STAT_DCKL n) then s
    else (s.raise (R.MOD_MD_STAT_DCKL n)).latchDet n (R.MOD_MD_STAT_DCK n)
  else if decide (4 ≤ (s.mck (s.get (R.MOD_MD_CFG_CKSEL n))).good) && (decide (24 ≤ n) || s.on (R.MOD_MD_STAT_STL n)) then
    s.clear (R.MOD_MD_STAT_DCKL n)
  else s

/-- Recompute the dead-clock reports of the inputs of a clock. -/
def State.refreshClock (s : State) (k : Nat) : State :=
  s.each ((List.range 32).filter (fun n => s.get (R.MOD_MD_CFG_CKSEL n) = k)) (fun n t => t.refreshDead n)

/-- A clock after one more period of its read-back, failed or good; four in a row change whether it is dead (R269). -/
def mckNext (x : MckSt) (ok : Bool) : MckSt :=
  if ok then ⟨x.dead && decide (x.good < 3), min 4 (x.good + 1), 0⟩ else ⟨x.dead || decide (3 ≤ x.bad), 0, min 4 (x.bad + 1)⟩

/-- One period of an enabled clock: the levels read back at the end of its high and of its low phase (R269, R301). -/
def State.mckPeriod (s : State) (k : Nat) (hi lo : Bool) : State :=
  if s.on (R.MOD_MCK_CFG_EN k) then
    let x := mckNext (s.mck k) (hi && !lo)
    let s := if x.dead && !(s.mck k).dead then s.raise (R.MOD_MCK_CFG_DCKF k) else s
    ((s.putB (R.MOD_MCK_CFG_PADOK k) (hi && !lo)).setMck k x).refreshClock k
  else s

/-- The periods of a clock in order. -/
def State.mckPeriods (s : State) (k : Nat) (l : List (Bool × Bool)) : State := l.foldl (fun t x => t.mckPeriod k x.1 x.2) s

/-! ### The filters (R271 to R274) -/

/-- The ratio as applied (R271). -/
def osrOf (v : Nat) : Nat := max 16 (min 256 v)

/-- The sums of each `r` neighbours of a list. -/
def windowSums (r : Nat) (l : List Nat) : List Nat :=
  let p := l.scanl (· + ·) 0
  List.zipWith (fun hi lo => hi - lo) (p.drop r) p

/-- The sum S of a filter of an order and ratio over the newest bits, the newest in front; before the enable the filter held
zeros (R272, R274). -/
def sincSum (order r : Nat) (bits : List Bool) : Nat :=
  let len := order * (r - 1) + 1
  let l := (bits.map Bool.toNat ++ List.replicate len 0).take len
  ((List.range order).foldl (fun t _ => windowSums r t) l).headD 0

/-- The output of a filter whose windows count `sum` (R272). -/
def filterVal (order osr sum : Nat) : Word :=
  let d := osr ^ order
  let x := min sum d
  wordOfInt (satInt 32 ((((2 * x * 2 ^ 32 + d) / (2 * d) : Nat) : Int) - 2 ^ 31))

/-- The order of a filter of an input. -/
def State.ordOf (s : State) (n : Nat) (monitor : Bool) : Nat :=
  3 + s.get (if monitor then R.MOD_MD_CFG_ORD1 n else R.MOD_MD_CFG_ORD0 n)

/-- The ratio of a filter of an input. -/
def State.ratio (s : State) (n : Nat) (monitor : Bool) : Nat :=
  osrOf (s.get (if monitor then R.MOD_MD_CFG_OSR1 n else R.MOD_MD_CFG_OSR0 n))

/-- The output of a filter of an input for its bits as they stand. -/
def State.filterOut (s : State) (n : Nat) (monitor : Bool) : Word :=
  filterVal (s.ordOf n monitor) (s.ratio n monitor) (sincSum (s.ordOf n monitor) (s.ratio n monitor) (s.md n).bits)

/-- Filter 1 forms an output and checks MLIM (R273). -/
def State.monitorOut (s : State) (n : Nat) : State :=
  let v := s.filterOut n true
  let h := sextNat 16 (fieldOf v 31 16)
  let s := (s.wr (R.MOD_MD_MON n) v).boostMon n h
  if s.getS (R.MOD_MD_MLIM_HI n) < h ∨ h < s.getS (R.MOD_MD_MLIM_LO n) then s.raise (R.MOD_MD_STAT_LIMF n) else s

/-! ### The detectors (R278, R279) -/

/-- A live flag of a detector takes a value; its setting latches and records it. -/
def State.liveFlag (s : State) (n : Nat) (live latched : Ref) (b : Bool) : State :=
  if b then (if s.on live then s else (s.raise live).latchDet n latched) else s.clear live

/-- The runs of bits that repeat with a period of 1 to 4 after one more bit (R278). -/
def runsNext (bits : List Bool) (runs : List Nat) (b : Bool) : List Nat :=
  (List.range 4).map (fun p => if bits[p]? = some b then runs.getD p 0 + 1 else 0)

/-- The last `n` bits repeat with a period of 1 to 4. -/
def stuckRuns (runs : List Nat) (n : Nat) : Bool := (List.range 4).any (fun p => decide (n ≤ runs.getD p 0 + p + 1))

/-- STUCKN as applied. -/
def State.stuckN (s : State) (n : Nat) : Nat := max 64 (s.get (R.MOD_MD_DET_STUCKN n))

/-- A decimated output of filter 0 differs from the one before by at most FRZBAND (R278). -/
def State.within (s : State) (n : Nat) (a b : Word) : Bool :=
  decide ((sextNat 24 (fieldOf a 31 8) - sextNat 24 (fieldOf b 31 8)).natAbs ≤ s.get (R.MOD_MD_DET_FRZBAND n))

/-- The frozen-value test of a decimated output. -/
def State.frozenTest (s : State) (n : Nat) (v : Word) : State :=
  let x := s.md n
  let near := match x.dec with | some u => s.within n u v | none => false
  let k := if near then x.still + 1 else 0
  let s := s.setMd n { x with dec := some v, still := k }
  let frzk := s.get (R.MOD_MD_DET_FRZK n)
  if near then (if frzk ≠ 0 ∧ frzk ≤ k then s.liveFlag n (R.MOD_MD_STAT_FRZL n) (R.MOD_MD_STAT_FRZ n) true else s)
  else s.clear (R.MOD_MD_STAT_FRZL n)

/-! ### Requests for vector components (R275 to R277) -/

/-- The requests of a core that wait in PD13. -/
def State.senseOf (s : State) (core : Nat) : List SenseReq := tblGet (fun _ => []) s.sense core

/-- Replace them. -/
def State.setSense (s : State) (core : Nat) (l : List SenseReq) : State :=
  { s with sense := tblSet (fun _ => []) s.sense core l }

/-- The waiting components of an input take a value where a test on the stamp of their event holds. -/
def State.fillParts (s : State) (n : Nat) (p : Word → Bool) (v : Word) : State :=
  { s with sense := s.sense.map (fun e => (e.1, e.2.map (fun r =>
      { r with parts := r.parts.map (fun x => if x.2.1 = n ∧ x.2.2 = none ∧ p r.stamp then (x.1, n, some v) else x) }))) }

/-- The value of a component that asks for input `n` at the stamp of an event, and whether its edge has left the history: the
first kept edge at or after the event; none while that edge is still to come (R275, R277). -/
def State.selectOut (s : State) (n : Nat) (ev : Word) : Option Word × Bool :=
  let x := s.md n
  (((x.outs.filter (fun o => decide (0 ≤ stampDiff o.1 ev))).getLast?).map (·.2),
    match x.gone with | some g => decide (0 ≤ stampDiff g ev) | none => false)

/-- The input is enabled and its filter 0 has settled. -/
def State.inputReady (s : State) (n : Nat) : Bool := s.on (R.MOD_MD_CFG_EN n) && s.on (R.MOD_MD_STAT_STL n)

/-- One component of a request: an input that is disabled or unsettled gives 0 (R277). -/
def State.component (s : State) (n : Nat) (ev : Word) : State × Option Word :=
  if s.inputReady n then
    let r := s.selectOut n ev
    (if r.2 then s.raise (R.MOD_MD_STAT_OVS n) else s, r.1)
  else (s, some 0)

/-! ### The samples of the phasor units (R307, R312) -/

/-- A phasor unit. -/
def State.pu (s : State) (n : Nat) : PuSt := tblGet (fun _ => puReset) s.pus n

/-- Replace a phasor unit. -/
def State.setPu (s : State) (n : Nat) (x : PuSt) : State := { s with pus := tblSet (fun _ => puReset) s.pus n x }

/-- The unit works: its island runs and EN is 1. -/
def State.puOn (s : State) (n : Nat) : Bool := s.pdRun (4 + n) && s.on (R.RAFTER_PU_CFG_EN n)

/-- The MD input of channel k (R307). -/
def State.puInput (s : State) (n k : Nat) : Nat := fieldOf (s.rd (R.RAFTER_PU_SRC n)) (5 * k + 4) (5 * k)

/-- A channel is enabled in CHEN. -/
def State.puCh (s : State) (n k : Nat) : Bool := (s.get (R.RAFTER_PU_CFG_CHEN n)).testBit k

/-- The detector of an input reports a condition of R278. -/
def State.inputBad (s : State) (i : Nat) : Bool :=
  s.on (R.MOD_MD_STAT_DCKL i) || s.on (R.MOD_MD_STAT_STKL i) || s.on (R.MOD_MD_STAT_FRZL i)

/-- The newest samples that a channel keeps: a harmonic window with what comes before its results. -/
def puKept : Nat := 4100

/-- A channel's samples, the newest in front. -/
def State.puSmps (s : State) (n k : Nat) : List PuSmp := tblGet (fun _ => []) (s.pu n).chans k

/-- A capture edge of input `i` with stamp `st`, the one before it `gap` ns earlier, has formed output `v`: where it is the first at
or after an instant that is a multiple of 50,000 ns of the time base, the channels bound to the input take it as their sample
(R275, R307); a channel is bad as its input's detector is (R312). -/
def State.puSample (s : State) (i : Nat) (st : Word) (gap : Int) (v : Word) : State :=
  let t := ((s.nowNs : Int) + stampDiff st s.stampL).toNat
  let at' := t / 50000 * 50000
  if (t : Int) < at' + gap then
    let x : PuSmp := ⟨at', if s.inputReady i then v else 0, s.inputBad i⟩
    s.each ((List.range 8).filter s.puOn) (fun n u =>
      u.each ((List.range 6).filter (fun k => s.puCh n k && decide (s.puInput n k = i))) (fun k w =>
        w.setPu n { w.pu n with chans := tblSet (fun _ => []) (w.pu n).chans k ((x :: w.puSmps n k).take puKept) }))
  else s

/-! ### Captures (R270 to R274, R278) -/

/-- The stamp of the capture edge of the j-th rise of an input's clock after one with the stamp `rise` (R270). -/
def State.captureStamp (s : State) (n : Nat) (rise : Word) (j : Nat) : Word :=
  let m := s.mdiv (s.get (R.MOD_MD_CFG_CKSEL n))
  rise + BitVec.ofNat 32 ((j * m + min (s.get (R.MOD_MD_CFG_CDLY n)) (m - 1)) * s.cyc13)

/-- What filter 0, filter 1 and the frozen-value test of MD0 to MD23 do at a capture edge (R273 to R275, R278). -/
def State.filterEdge (s : State) (n : Nat) (st : Word) : State :=
  let v := s.filterOut n false
  let x := s.md n
  let gap : Int := match x.outs.head? with
    | some o => stampDiff st o.1
    | none => s.mdiv (s.get (R.MOD_MD_CFG_CKSEL n)) * s.cyc13
  let s := s.setMd n { x with outs := ((st, v) :: x.outs).take 8, gone := if x.outs.length = 8 then x.outs.getLast?.map (·.1) else x.gone }
  let s := s.wr (R.MOD_MD_DATA n) v
  let s := if s.ordOf n false * (s.ratio n false - 1) + 1 ≤ x.edges then (s.raise (R.MOD_MD_STAT_STL n)).refreshDead n else s
  let s := s.puSample n st gap v
  let s := s.fillParts n (fun ev => decide (0 ≤ stampDiff st ev)) v
  let s := if x.edges % s.ratio n true = 0 then s.monitorOut n else s
  if x.edges % s.ratio n false = 0 then s.frozenTest n v else s

/-- The decimator of a metering input. -/
def State.mdec (s : State) (n : Nat) : MDec := tblGet (fun _ => mdecReset) s.met.decs n

/-- Replace a decimator. -/
def State.setMdec (s : State) (n : Nat) (x : MDec) : State :=
  { s with met := { s.met with decs := tblSet (fun _ => mdecReset) s.met.decs n x } }

/-- A decimator takes a bit: a sinc4 filter of ratio D/5 and a filter that decimates by 5, with D = 25,000 / MDIV (R376, R377). -/
def decBit (mdiv : Nat) (x : MDec) (st : Word) (b : Bool) : MDec :=
  let r := 25000 / mdiv / 5
  let bits := (b :: x.bits).take (4 * (r - 1) + 1)
  let c := x.n + 1
  let s1 := if c % r = 0 then (sincSum 4 r bits :: x.s1).take 96 else x.s1
  if c = 5 * r then ⟨bits, 0, s1, some (st, Config.meterFir r s1)⟩ else ⟨bits, c, s1, x.out⟩

/-- PD15 takes a bundle of 32 bits with the stamp of its first one (R271, R377). -/
def State.bundleIn (s : State) (n : Nat) (first : Word) (bits : List Bool) : State :=
  let m := s.mdiv (s.get (R.MOD_MD_CFG_CKSEL n))
  let s := { s with met := { s.met with bundles := tblSet (fun _ => none) s.met.bundles n (some (first, bits)) } }
  s.setMdec n (bits.zipIdx.foldl (fun x b => decBit m x (first + BitVec.ofNat 32 (b.2 * m * s.cyc13)) b.1) (s.mdec n))

/-- A capture edge of an enabled input takes one bit: the stuck-pattern test, then the filters, or for MD24 to MD31 a bundle of
32 bits for PD15 with the stamp of its first bit (R270, R271, R278). -/
def State.captureBit (s : State) (n : Nat) (st : Word) (b : Bool) : State :=
  let x := s.md n
  let runs := runsNext x.bits x.runs b
  let s := s.setMd n { x with bits := (b :: x.bits).take 1021, edges := x.edges + 1, runs := runs }
  let s := s.liveFlag n (R.MOD_MD_STAT_STKL n) (R.MOD_MD_STAT_STK n) (stuckRuns runs (s.stuckN n))
  if n < 24 then s.filterEdge n st
  else if (x.edges + 1) % 32 = 0 ∧ s.pdOpen 15 then
    s.bundleIn n (st - BitVec.ofNat 32 (31 * s.mdiv (s.get (R.MOD_MD_CFG_CKSEL n)) * s.cyc13)) (b :: x.bits.take 31).reverse
  else s

/-- The bits that an enabled input captures after a rise of its clock with the stamp `rise`, the first in front (R270). -/
def State.capture (s : State) (n : Nat) (rise : Word) (bits : List Bool) : State :=
  if s.on (R.MOD_MD_CFG_EN n) then
    bits.zipIdx.foldl (fun t x => t.captureBit n (t.captureStamp n rise x.2) x.1) s
  else s

/-- EN of an input has been written: its filters start from zero state and the detector anew, with a dead clock reported, for
which nothing waits (R274, R277, R278). -/
def State.inputEnabled (s : State) (n : Nat) : State :=
  let s := ((s.setMd n mdReset).setMdec n mdecReset).fillParts n (fun _ => true) 0
  ((s.clear (R.MOD_MD_STAT_STL n)).clear (R.MOD_MD_STAT_STKL n)).clear (R.MOD_MD_STAT_FRZL n) |>.refreshDead n

/-! ### Comparators (R280 to R287) -/

/-- The key of a comparator stage in the state's table. -/
def cmpKey : Cmp → Nat
  | .leg c => c
  | .hard n => 96 + n
  | .winLo k => 144 + k
  | .winHi k => 160 + k

/-- A comparator stage. -/
def State.cmp (s : State) (c : Cmp) : CmpSt := tblGet (fun _ => cmpReset) s.cmps (cmpKey c)

/-- Replace a comparator stage. -/
def State.setCmp (s : State) (c : Cmp) (x : CmpSt) : State :=
  { s with cmps := tblSet (fun _ => cmpReset) s.cmps (cmpKey c) x }

/-- Replace a window's state. -/
def State.setWin (s : State) (k : Nat) (x : WinSt) : State := { s with wins := tblSet (fun _ => winReset) s.wins k x }

/-- A window's state. -/
def State.win (s : State) (k : Nat) : WinSt := tblGet (fun _ => winReset) s.wins k

/-- The output bit of a comparator stage. -/
def cmpOut : Cmp → Ref
  | .leg c => R.CMP_STAT_OUT c
  | .hard n => R.CMP_STAT_HOUT (2 * n)
  | .winLo k => R.CMP_WIN_STAT_OUTL k
  | .winHi k => R.CMP_WIN_STAT_OUTU k

/-- The unresolved bit of a comparator stage. -/
def cmpUnres : Cmp → Ref
  | .leg c => R.CMP_STAT_UNRES c
  | .hard n => R.CMP_STAT_HUNR (2 * n)
  | .winLo k => R.CMP_WIN_STAT_UNRL k
  | .winHi k => R.CMP_WIN_STAT_UNRU k

/-- The preset state (R283): active for window comparators. -/
def cmpPreset : Cmp → Bool
  | .leg _ => false
  | .hard _ => false
  | .winLo _ => true
  | .winHi _ => true

/-- Whether a comparator stage is enabled (R282, R287). -/
def State.cmpEnabled (s : State) : Cmp → Bool
  | .leg c => s.on (R.CMP_CFG_EN c)
  | .hard _ => true
  | .winLo k => s.on (R.CMP_WIN_CFG_EN k)
  | .winHi k => s.on (R.CMP_WIN_CFG_EN k)

/-- The stage is under self-test, its input switched from its pin; a window under test holds both outputs (R261, R263). -/
def State.cmpTested (s : State) : Cmp → Bool
  | .leg c => decide ((s.leg (c / 2)).test = if c.val % 2 = 0 then 1 else 3)
  | .hard n => decide ((s.leg n).test = 2)
  | .winLo k => (s.win k).test.isSome
  | .winHi k => (s.win k).test.isSome

/-- EN of a comparator has been written: disabled, its output is inactive; enabled, it shows its preset state until it
settles (R282, R287). A window under test holds its outputs (R263). -/
def State.cmpEnableWritten (s : State) (c : Cmp) : State :=
  let s := s.setCmp c { s.cmp c with settling := (s.cmpEnabled c).toNat }
  if s.cmpTested c then s else (s.putB (cmpOut c) (s.cmpEnabled c && cmpPreset c)).clear (cmpUnres c)

/-- MODE of a comparator has changed: the output keeps its last value for the settling time (R282). -/
def State.cmpModeWritten (s : State) (c : Cmp) : State :=
  if s.cmpEnabled c && decide ((s.cmp c).settling = 0) then s.setCmp c { s.cmp c with settling := 2 } else s

/-- The threshold register of a stage that has one. -/
def dacReg : Cmp → Option Nat
  | .leg c => some (R.CMP_DAC c)
  | .hard _ => none
  | .winLo k => some (R.CMP_WIN_LDAC k)
  | .winHi k => some (R.CMP_WIN_UDAC k)

/-- Whether a stage's ramp is on. -/
def State.rampOn (s : State) : Cmp → Bool
  | .leg c => s.on (R.CMP_CFG_RAMPEN c)
  | _ => false

/-- PD13 cycles since a ramp started; none pass while the clock of PD13 stands still (R650). -/
def State.rampCycles (s : State) (c : Nat) : Nat :=
  match (tblGet (fun _ => cmpReset) s.cmps c).ramp with
  | some (k, t) => k + (if s.sys.stopped.contains 13 then 0 else (s.upNs - t) / s.cyc13)
  | none => 0

/-- The cycles of every ramp are noted: the length of a cycle is about to change, or the clock of PD13 stops or
starts. -/
def State.noteRamps (s : State) : State :=
  { s with cmps := s.cmps.map (fun e => (e.1, { e.2 with ramp := e.2.ramp.map (fun _ => (s.rampCycles e.1, s.upNs)) })) }

/-- The cycles count on from the present time. -/
def State.resumeRamps (s : State) : State :=
  { s with cmps := s.cmps.map (fun e => (e.1, { e.2 with ramp := e.2.ramp.map (fun r => (r.1, s.upNs)) })) }

/-- The threshold of a ramp from a base after some cycles (R285). -/
def rampCode (base slope floor k : Nat) : Nat := max (min floor base) (base - k * slope / 256)

/-- The threshold code in force at a stage: the ramp's, the register's, or HTH × 4 (R280, R284, R285). -/
def State.cmpCode (s : State) : Cmp → Nat
  | .leg c =>
    let b := s.get (R.CMP_DAC_ACT c)
    let x := s.cmp (.leg c)
    if x.ramp.isSome then rampCode b x.slope x.floor (s.rampCycles c) else b
  | .hard n => 4 * s.get (R.GATE_LEG_CFG_HTH n)
  | .winLo k => s.get ⟨R.CMP_WIN_LDAC k, 25, 16⟩
  | .winHi k => s.get ⟨R.CMP_WIN_UDAC k, 25, 16⟩

/-- Half of the width of a stage's band, in half codes: H, and 1 for H = 0 (R280). -/
def State.cmpHalf (s : State) : Cmp → Nat
  | .leg c => max 1 ([0, 2, 4, 8].getD (s.get (R.CMP_CFG_HYS c)) 0)
  | .hard _ => 2
  | .winLo k => max 1 ([0, 2, 4, 8].getD (s.get (R.CMP_WIN_CFG_HYS k)) 0)
  | .winHi k => max 1 ([0, 2, 4, 8].getD (s.get (R.CMP_WIN_CFG_HYS k)) 0)

/-- What an input voltage in nanovolts gives at a stage: active or not outside its band, nothing inside it (R280). -/
def State.cmpSide (s : State) (c : Cmp) (nv : Nat) : Option Bool :=
  let lo : Int := 2 * (s.cmpCode c : Int) - s.cmpHalf c
  let hi : Int := 2 * (s.cmpCode c : Int) + s.cmpHalf c
  let low := match c with | .winLo _ => true | _ => false
  if hi * 1171875 < 2 * (nv : Int) then some (!low) else if 2 * (nv : Int) < lo * 1171875 then some low else none

/-- The ramp of a leg comparator runs above its floor (R285, R304). -/
def State.rampAbove (s : State) (c : Fin 96) : Bool :=
  let x := s.cmp (.leg c)
  x.ramp.isSome && decide (min x.floor (s.get (R.CMP_DAC_ACT c)) < s.cmpCode (.leg c))

/-- A reload of a Batten channel sends its marker to the comparators whose ramp it starts (R285). -/
def State.rampMarks (s : State) (n : Nat) : State :=
  if s.pdRun 13 then
    ((List.finRange 96).filter (fun (c : Fin 96) => s.on (R.CMP_CFG_RAMPEN c) && decide (s.get (R.CMP_CFG_RCH c) = n))).foldl
      (fun (t : State) c => t.setCmp (.leg c) { t.cmp (.leg c) with due := true }) s
  else s

/-- The ramp of a marked comparator starts from the code written last, with SLOPE and FLOOR as they stand; not during a self-test
of the leg (R261, R285). -/
def State.rampStart (s : State) (c : Fin 96) : State :=
  let x := s.cmp (.leg c)
  if x.due && s.on (R.CMP_CFG_RAMPEN c) && decide ((s.leg (c / 2)).test = 0) then
    (s.put (R.CMP_DAC_ACT c) (s.get (R.CMP_DAC_CODE c))).setCmp (.leg c) { x with
      due := false, slope := s.get (R.CMP_RAMP_SLOPE c), floor := s.get (R.CMP_RAMP_FLOOR c), ramp := some (0, s.upNs) }
  else s.setCmp (.leg c) { x with due := false }

/-- Ramps whose marker has come start, one or two cycles after it (R285). -/
def State.rampsDue (s : State) : State :=
  if !s.pdRun 13 then s
  else ((List.finRange 96).filter (fun (c : Fin 96) => (s.cmp (.leg c)).due)).foldl (fun (t : State) c => t.rampStart c) s

/-- A ramp stops, at RAMPEN = 0 or for a self-test (R261, R284). -/
def State.rampStop (s : State) (c : Fin 96) : State :=
  s.setCmp (.leg c) { s.cmp (.leg c) with due := false, ramp := none }

/-! ### Windows (R288 to R290) -/

/-- FLT becomes active: latched, stamped and recorded (R290). -/
def State.fltRise (s : State) (k : Nat) : State :=
  if s.on (R.CMP_WIN_STAT_FLT k) then s
  else
    let s := ((s.raise (R.CMP_WIN_STAT_FLT k)).raise (R.CMP_WIN_STAT_WLAT k)).wr (R.CMP_WIN_TS k) (s.stamp 13)
    s.postFlagLimited 7 (R.CMP_WIN_STAT_WLAT k) 13 k

/-- Whether some output of a window is active. -/
def State.winOutside (s : State) (k : Nat) : Bool := s.on (R.CMP_WIN_STAT_OUTL k) || s.on (R.CMP_WIN_STAT_OUTU k)

/-- LEVEL mode with LDAC at or above UDAC (R289). -/
def State.winWcf (s : State) (k : Nat) : Bool :=
  s.on (R.CMP_WIN_CFG_EN k) && !s.on (R.CMP_WIN_CFG_WMODE k) &&
    decide (s.get ⟨R.CMP_WIN_UDAC k, 25, 16⟩ ≤ s.get ⟨R.CMP_WIN_LDAC k, 25, 16⟩)

/-- SWTO in nanoseconds. -/
def State.swto (s : State) (k : Nat) : Nat := s.get (R.CMP_WIN_QUAL_SWTO k) * 1000

/-- Both outputs have become active within the last SWTO (R289). -/
def State.swingOk (s : State) (k : Nat) : Bool :=
  let w := s.win k
  match w.lastU, w.lastL with
  | some u, some l => decide (s.upNs ≤ u + s.swto k ∧ s.upNs ≤ l + s.swto k)
  | _, _ => false

/-- SWTO has passed since the upper output, or since the lower one, last became active, or since the enable where one never
has (R289). -/
def State.swingLate (s : State) (k : Nat) : Bool :=
  let w := s.win k
  decide (w.lastU.getD w.since + s.swto k ≤ s.upNs) || decide (w.lastL.getD w.since + s.swto k ≤ s.upNs)

/-- Some output has been active for QUAL cycles (R289). -/
def State.winQual (s : State) (k : Nat) : Bool :=
  match (s.win k).act with
  | some t => decide (t + s.get (R.CMP_WIN_QUAL_QUAL k) * s.cyc13 ≤ s.upNs)
  | none => false

/-- Recompute WCF and what FLT does at once (R289): a window under test keeps its outputs (R263). -/
def State.refreshWin (s : State) (k : Nat) : State :=
  if (s.win k).test.isSome then s
  else
    let w := s.win k
    let s := s.setWin k { w with act := if s.winOutside k then some (w.act.getD s.upNs) else none }
    if !s.on (R.CMP_WIN_CFG_EN k) then (s.clear (R.CMP_WIN_STAT_FLT k)).clear (R.CMP_WIN_STAT_WCF k)
    else
      let s := s.putB (R.CMP_WIN_STAT_WCF k) (s.winWcf k)
      if s.on (R.CMP_WIN_CFG_WMODE k) then if s.swingOk k then s.clear (R.CMP_WIN_STAT_FLT k) else s
      else if s.winWcf k then s.fltRise k
      else if !s.winOutside k then s.clear (R.CMP_WIN_STAT_FLT k)
      else if s.get (R.CMP_WIN_QUAL_QUAL k) = 0 then s.fltRise k else s

/-- EN of a window has been written: both comparators, and the instant from which SWTO runs (R282, R289). -/
def State.winEnableWritten (s : State) (k : Fin 16) : State :=
  let s := s.setWin k { s.win k with lastU := none, lastL := none, since := s.upNs }
  (s.cmpEnableWritten (.winLo k)).cmpEnableWritten (.winHi k)

/-- A LEVEL window's output has been active for QUAL cycles (R289). -/
def State.winQualified (s : State) (k : Nat) : State :=
  if s.on (R.CMP_WIN_CFG_EN k) && !s.on (R.CMP_WIN_CFG_WMODE k) && s.winOutside k && s.winQual k && (s.win k).test.isNone then
    s.fltRise k
  else s

/-- No swing through a threshold for SWTO (R289). -/
def State.swingTimeout (s : State) (k : Nat) : State :=
  if s.on (R.CMP_WIN_CFG_EN k) && s.on (R.CMP_WIN_CFG_WMODE k) && s.swingLate k && (s.win k).test.isNone then s.fltRise k else s

/-- A threshold code is written (R284). -/
def State.dacWrite (s : State) (c : Cmp) (code : Nat) (late : Bool) : State :=
  match dacReg c with
  | none => s
  | some a =>
    let s := s.put ⟨a, 9, 0⟩ code
    if s.rampOn c then
      match c with
      | .leg n => if late then s.raise (R.CMP_STAT_BND n) else s
      | _ => s
    else
      let s := s.put ⟨a, 25, 16⟩ code
      match c with
      | .winLo k => s.refreshWin k
      | .winHi k => s.refreshWin k
      | _ => s

/-! ### Housekeeping ADC (R291 to R299) -/

/-- GO (R294, R299). -/
def State.hadcGo (s : State) : State :=
  if s.on R.HADC_STAT_BUSY then s
  else if s.get R.HADC_CTRL_RATE ≥ 10 ∨ s.get R.HADC_CTRL_MODE = 3 then s.raise R.HADC_STAT_CFE
  else
    let chans := if s.get R.HADC_CTRL_MODE = 2 then onesOf 32 (s.get R.HADC_SCAN_MASK) else [s.get R.HADC_CTRL_CH]
    match chans with
    | [] => s
    | c :: r => ({ s with hadc := ⟨c, r, false, s.pd13Byp⟩ } : State).raise R.HADC_STAT_BUSY |>.raise R.HADC_STAT_PWR

/-- The converter powers down (R295). -/
def State.hadcOff (s : State) : State :=
  (({ s with hadc := ⟨0, [], false, false⟩ } : State).clear R.HADC_STAT_BUSY).clear R.HADC_STAT_PWR

/-- The start-up delay ends and the first channel is connected (R295). -/
def State.hadcStarted (s : State) : State :=
  if s.on R.HADC_STAT_BUSY then { s with hadc := { s.hadc with up := true, byp := s.hadc.byp || s.pd13Byp } } else s

/-- The divider in front of a channel (R291). -/
def hadcScale (c : Nat) : Nat :=
  if c = 18 ∨ c = 19 then 2 else if c = 20 ∨ c = 21 then 3 else if c = 22 ∨ c = 23 then 4 else if c = 24 then 5 else 1

/-- VALUE of an input in nanovolts (R292). -/
def hadcValue (c nv : Nat) : Nat :=
  let d := hadcScale c * 1200000000
  min 0xFFFFFF ((2 * nv * 2 ^ 24 + d) / (2 * d))

/-- The code of the threshold DAC that DACSEL names; none while a ramp or a sweep moves it (R298). -/
def State.dacCode (s : State) (sel : Nat) : Option Nat :=
  if h : sel < 96 then
    if (s.cmp (.leg ⟨sel, h⟩)).ramp.isSome || s.cmpTested (.leg ⟨sel, h⟩) then none else some (s.get (R.CMP_DAC_ACT sel))
  else if sel < 128 then
    let k := (sel - 96) / 2
    if (s.win k).test = some (decide (sel % 2 = 1)) then none
    else some (s.get ⟨if sel % 2 = 1 then R.CMP_WIN_UDAC k else R.CMP_WIN_LDAC k, 25, 16⟩)
  else if sel < 176 then if (s.leg (sel - 128)).test = 2 then none else some (4 * s.get (R.GATE_LEG_CFG_HTH (sel - 128)))
  else some 0

/-- VALUE of a channel whose input holds some nanovolts on average: ground, half the reference and a still DAC give their own
(R291, R298). -/
def State.hadcWord (s : State) (c nv : Nat) : Nat :=
  if c = 29 ∨ c = 31 then 0
  else if c = 30 then 0x800000
  else if c = 28 then
    match s.dacCode (s.get R.HADC_CTRL_DACSEL) with
    | some k => k * 2 ^ 14
    | none => hadcValue c nv
  else hadcValue c nv

/-- A conversion completes (R295, R297). -/
def State.hadcResult (s : State) (nv : Nat) : State :=
  if s.on R.HADC_STAT_BUSY && s.hadc.up then
    let h := s.hadc
    let s := if s.on R.HADC_DATA_VALID then s.raise R.HADC_STAT_OVR else s
    let s := (((s.raise R.HADC_DATA_VALID).putB R.HADC_DATA_BYP (h.byp || s.pd13Byp)).put R.HADC_DATA_CH h.cur).put
      R.HADC_DATA_VALUE (s.hadcWord h.cur nv)
    let s := s.raise R.HADC_STAT_DONE
    match s.get R.HADC_CTRL_MODE, h.rest with
    | 1, _ => { s with hadc := { h with byp := s.pd13Byp } }
    | 2, c :: r => { s with hadc := ⟨c, r, true, s.pd13Byp⟩ }
    | _, _ => s.hadcOff
  else s

end Sys2Proof.Machine
end

