-- ==== Sys2Proof/Machine/Gate.lean ====
section
/-!
DEFINITION. The leg interface (R235 to R266): the interlock, switching-time measurement, the strength loop and its
frames, trip latches, groups, the protection state machine and comparator self-tests.
-/

namespace Sys2Proof.Machine

/-- A strength line. -/
def State.sl (s : State) (j : Nat) : SlSt := tblGet (fun _ => slReset) s.sls j

/-- Replace a strength line. -/
def State.setSl (s : State) (j : Nat) (x : SlSt) : State := { s with sls := tblSet (fun _ => slReset) s.sls j x }

/-- A remote strength loop. -/
def State.rlLoop (s : State) (m : Nat) : RlLoop := tblGet (fun _ => rlLoopReset) s.rlLoops m

/-- Replace a remote strength loop. -/
def State.setRlLoop (s : State) (m : Nat) (x : RlLoop) : State :=
  { s with rlLoops := tblSet (fun _ => rlLoopReset) s.rlLoops m x }

/-- The legs of a strength line (R245). -/
def legsOfLine (j : Nat) : List Nat := (List.range 8).map (fun k => 8 * j + k)

/-- PSTATE of a leg. -/
def State.pstate (s : State) (n : Nat) : Nat := s.get (R.GATE_LEG_STAT_PSTATE n)

/-! ### The remote-leg interlock (R237 to R239) -/

/-- The gap in fine units, at least one base tick (R239). -/
def State.ilkGap (s : State) (g : Nat) : Nat := max 64 (s.get ⟨R.GATE_ILKGAP g, 17, 0⟩)

/-- Move the start of an interval so that it begins no earlier than a bound; whether it moved. -/
def moveStart (lo : Int) (on off : Nat) : Nat × Bool :=
  if on < off ∧ (on : Int) < lo then (min off lo.toNat, true) else (on, false)

/-- The interlock on the times of a period and those of the one before, `per` fine units earlier (R237, R238). -/
def interlock (gap per : Nat) (prev r : RlTimes) : RlTimes × Bool :=
  let g : Int := gap
  let p : Int := per
  -- across the period boundary: the other switch's interval of the period before
  let up := if prev.loOn < prev.loOff then moveStart (prev.loOff - p + g) r.upOn r.upOff else (r.upOn, false)
  let lo := if prev.upOn < prev.upOff then moveStart (prev.upOff - p + g) r.loOn r.loOff else (r.loOn, false)
  if up.1 < r.upOff ∧ lo.1 < r.loOff then
    if up.1 ≤ lo.1 then
      let m := moveStart (r.upOff + g) lo.1 r.loOff
      (⟨up.1, r.upOff, m.1, r.loOff⟩, up.2 || lo.2 || m.2)
    else
      let m := moveStart (r.loOff + g) up.1 r.upOff
      (⟨m.1, r.upOff, lo.1, r.loOff⟩, up.2 || lo.2 || m.2)
  else (⟨up.1, r.upOff, lo.1, r.loOff⟩, up.2 || lo.2)

/-- The ILK bit of a remote leg. -/
def ilkBit (m : Nat) : Ref := ⟨R.GATE_RLILK (m / 32), m % 32, m % 32⟩

/-- Run the interlock on the times a scheduler has just formed. -/
def State.interlockRl (s : State) (m : Fin 144) : State :=
  let b := s.brl m
  if b.driving then
    let x := interlock (s.ilkGap (m / 6)) b.per b.prev b.cur
    let s := s.setBrl m { b with cur := x.1 }
    if x.2 then
      let s := s.raise (ilkBit m)
      if s.mayPost ((ilkBit m).addr * 32 + m % 32) then
        ({ s with limits := tblSet (fun _ => none) s.limits ((ilkBit m).addr * 32 + m % 32) (some s.upNs) } : State).post
          (0x620 + m % 32) 12 (stdPayload m (s.rd (R.GATE_RLILK (m / 32))))
      else s
    else s
  else s

/-! ### Switching-time measurement and the strength loop (R240 to R244) -/

/-- The edge comparator of a leg measures: enabled, in M0, not under test (R241, R287). -/
def State.measures (s : State) (n : Nat) : Bool :=
  s.on (R.CMP_CFG_EN (2 * n + 1)) && decide (s.get (R.CMP_CFG_MODE (2 * n + 1)) = 0) && decide ((s.leg n).test ≠ 3)

/-- An edge sequence arms the measurement for its direction; it counts for the loop once the driver has acknowledged the code now
in force (R240, R242). -/
def State.armEdge (s : State) (n : Nat) (rise : Bool) : State :=
  let l := s.leg n
  s.setLeg n { l with
    arm := if s.measures n then some (rise, decide (s.get (R.GATE_LEG_STAT_CODE n) = l.code)) else none }

/-- The first crossing of the armed direction, in TDC units from the fall of LEN (R240). -/
def State.edgeCrossing (s : State) (n : Fin 48) (off : Nat) : State :=
  match (s.leg n).arm with
  | none => s
  | some (rise, counts) =>
    let dt := s.dtTo (.dir n) (s.bch n).coarse rise
    let l := { s.leg n with arm := none }
    let vld := if rise then R.GATE_LEG_SWT_VU n else R.GATE_LEG_SWT_VD n
    let nat' := if rise then R.GATE_LEG_SWT_NATU n else R.GATE_LEG_SWT_NATD n
    let sw := if rise then R.GATE_LEG_SWT_SWU n else R.GATE_LEG_SWT_SWD n
    if off * 4 < dt then (s.setLeg n l).raise nat'
    else if off * 4 < dt + s.get (R.GATE_LEG_CFG_TSWMAX n) * 4 then
      let m := (off * 4 - dt) / 4
      let l := if counts then { l with minSw := some (match l.minSw with | some k => min k m | none => m) } else l
      (((s.setLeg n l).clear nat').raise vld).put sw m
    else s

/-- No crossing within TSWMAX (R240). -/
def State.noEdge (s : State) (n : Nat) : State :=
  match (s.leg n).arm with
  | none => s
  | some (rise, _) =>
    ((s.setLeg n { s.leg n with arm := none }).raise (R.GATE_LEG_STAT_NOEDGE n)).clear
      (if rise then R.GATE_LEG_SWT_NATU n else R.GATE_LEG_SWT_NATD n)

/-- The parameters of a strength loop in a register of R264's STR layout. -/
structure StrParm where
  loopen : Bool
  fixcode : Nat
  codemax : Nat
  codemin : Nat
  band : Nat
  tgt : Nat
  deriving DecidableEq, Repr

/-- Read them. -/
def strParm (w : Word) : StrParm :=
  ⟨bitAt w 31, fieldOf w 30 27, fieldOf w 26 23, fieldOf w 22 19, fieldOf w 18 12, fieldOf w 11 0⟩

/-- A parameter set that the pseudocode of R242 names invalid. -/
def strBad (p : StrParm) : Bool := !p.loopen || decide (p.codemin = 0) || decide (p.codemax < p.codemin)

/-- One step of the loop of R242: the new code; it holds its code while a change is not acknowledged or, `ackPend` says this
too, the last frame was missed (R250). -/
def strStep (p : StrParm) (ackPend : Bool) (m : Option Nat) (code : Nat) : Nat :=
  if strBad p then max p.fixcode 1
  else if ackPend then code
  else match m with
    | none => code
    | some m =>
      if m + p.band < p.tgt then max p.codemin (code - 1)
      else if p.tgt + p.band < m then min p.codemax (code + 1)
      else code

/-- The loop of a direct leg at a reload; a missed frame holds it (R242, R243, R250). -/
def State.strengthReload (s : State) (n : Nat) : State :=
  let p := strParm (s.rd (R.GATE_LEG_STR n))
  let l := s.leg n
  let code := strStep p (s.on (R.GATE_LEG_STAT_ACKPEND n) || decide (l.nak ≠ 0)) l.minSw l.code
  let s := if strBad p && p.loopen then s.raise (R.GATE_LEG_STAT_STRE n) else s
  let s := if !strBad p && decide (code ≠ l.code) then s.raise (R.GATE_LEG_STAT_ACKPEND n) else s
  s.setLeg n { l with code := code, minSw := none }

/-- STR has been written or exchanged: the loop starts from FIXCODE when LOOPEN goes from 0 to 1 (R242). -/
def State.strWritten (s : State) (n : Nat) (old : Word) : State :=
  let p := strParm (s.rd (R.GATE_LEG_STR n))
  if p.loopen && !bitAt old 31 then s.setLeg n { s.leg n with code := max p.fixcode 1, minSw := none } else s

/-! ### Strength-line frames (R245 to R251) -/

/-- One bit of the CRC-8 of R247. -/
def crc8Bit (c : Nat) (b : Bool) : Nat :=
  let top := decide (128 ≤ c) != b
  let c := c * 2 % 256
  if top then c ^^^ 0x07 else c

/-- The CRC-8 of R247 over bits in the order sent. -/
def crc8 (bits : List Bool) : Nat := bits.foldl crc8Bit 0xFF

/-- `n` bits of a number, most significant first. -/
def bitsMsb (n v : Nat) : List Bool := (List.range n).map (fun k => v.testBit (n - 1 - k))

/-- A normal frame (R246). -/
def normalFrame (seq : Nat) (codes : List Nat) : List Bool :=
  let body := bitsMsb 4 seq ++ bitsMsb 4 0 ++ codes.flatMap (bitsMsb 4)
  bitsMsb 8 0xA7 ++ body ++ bitsMsb 8 (crc8 body)

/-- An urgent frame (R246). -/
def urgentFrame (mask : Nat) : List Bool :=
  let body := bitsMsb 8 mask
  bitsMsb 8 0x58 ++ body ++ bitsMsb 8 (crc8 body)

/-- A strength-line cycle starts (R245). -/
def State.normalCycle (s : State) (j : Nat) : State :=
  if s.on (R.GATE_SL_CFG_EN j) then
    if (s.sl j).busy then s.raise (R.GATE_SL_STAT_SKIP j)
    else
      let codes := (legsOfLine j).map (fun n => (s.leg n).code)
      let s := s.each (legsOfLine j) (fun n t => t.put (R.GATE_LEG_STAT_SENT n) (s.leg n).code)
      s.setSl j ⟨((s.sl j).seq + 1) % 16, true, normalFrame (s.sl j).seq codes⟩
  else s

/-- The answer of one slot at the end of the acknowledge window (R248, R250). -/
def State.ackSlot (s : State) (j k : Nat) (ack : Bool) : State :=
  if h : 8 * j + k < 48 then
    let n : Fin 48 := ⟨8 * j + k, h⟩
    let l := s.leg n
    let s := s.putB ⟨R.GATE_SL_STAT j, k, k⟩ ack
    if ack then
      let sent := s.get (R.GATE_LEG_STAT_SENT n)
      let s := s.put (R.GATE_LEG_STAT_CODE n) sent
      if s.on (R.GATE_LEG_STAT_ACKPEND n) && decide (sent = l.code) then
        (s.clear (R.GATE_LEG_STAT_ACKPEND n)).setLeg n { l with
          nak := 0, minSw := none, arm := l.arm.map (fun a => (a.1, false)) }
      else s.setLeg n { l with nak := 0 }
    else if s.get (chState (.dir n)) = 0 then s
    else
      let s := (s.raise ⟨R.GATE_SL_STAT j, 8 + k, 8 + k⟩).setLeg n { l with nak := l.nak + 1 }
      if l.nak + 1 = s.get (R.GATE_SL_CFG_NAKMAX j) then
        let s := s.flagPost 6 (R.GATE_LEG_STAT_NAKF n) 12 n
        if s.get (R.GATE_SL_CFG_NAKACT j) = 1 then s.chDisable (.dir n) else s
      else s
  else s

/-- The acknowledge window ends: slot k answered bits 2k (first) and 2k + 1 (second) (R245, R248). -/
def State.ackWindow (s : State) (j : Nat) (slots : Nat) : State :=
  if (s.sl j).busy then
    let s := s.each (List.range 8) (fun k t => t.ackSlot j k (slots.testBit (2 * k) && !slots.testBit (2 * k + 1)))
    s.setSl j { s.sl j with busy := false }
  else s

/-- The legs of a line that are in HOLDING, as a mask of slots. -/
def State.holdingMask (s : State) (j : Nat) : Nat :=
  (List.range 8).foldl (fun m k => if s.pstate (8 * j + k) = 1 then m + 2 ^ k else m) 0

/-- An urgent frame names every leg of the line in HOLDING; a normal frame in progress is abandoned (R251). -/
def State.urgent (s : State) (j : Nat) : State :=
  let m := s.holdingMask j
  if s.on (R.GATE_SL_CFG_EN j) && decide (m ≠ 0) then
    let s := s.raise (R.GATE_SL_STAT_URG j)
    let s := s.each (legsOfLine j) (fun n t => if t.pstate n = 1 then t.setLeg n { t.leg n with named := true } else t)
    s.setSl j { s.sl j with busy := false, line := urgentFrame m }
  else s

/-! ### Pins at the pad and trips (R236, R252 to R260) -/

/-- LEN and LPULSE of a leg as the protection logic passes them on: Batten's levels in CLEAR, the held levels in any
other state and until a re-enabled leg returns to Batten (R236, R257, R260). -/
def State.legPins (s : State) (n : Nat) : Bool × Bool :=
  let l := s.leg n
  if decide (s.pstate n = 0) && !l.resume then ((s.bch n).len, (s.bch n).lp) else (l.padLen, l.padLp)

/-- Neither safe pulse inhibit nor a Ridge trip holds the legs off (R413, R522). -/
def State.legsFree (s : State) : Bool := s.safe.pw && s.safe.pf && !s.on R.RIDGE_STAT_RTL

/-- LEN and LPULSE at the pad: safe pulse inhibit drives LEN low while a permit is absent or a Ridge trip is in force and,
after that, until the next reload of the leg's channel; it leaves LPULSE (R413, R414, R522). -/
def State.legPad (s : State) (n : Nat) : Bool × Bool :=
  ((s.legPins n).1 && s.legsFree && !s.gate.spiHold.testBit n, (s.legPins n).2)

/-- A trip acts on the protection state of a leg (R257): HOLDING where soft turn-off is possible, else LATCHED. -/
def State.tripLeg (s : State) (n : Nat) : State :=
  if s.pstate n = 0 then
    let pins := s.legPins n
    if s.on (R.GATE_LEG_CFG_SOFTEN n) && s.on (R.GATE_SL_CFG_EN (n / 8)) then
      (s.put (R.GATE_LEG_STAT_PSTATE n) 1).setLeg n { s.leg n with
        padLen := pins.1, padLp := pins.2, named := false, resume := false }
    else
      (s.put (R.GATE_LEG_STAT_PSTATE n) 3).setLeg n { s.leg n with padLen := false, padLp := false, resume := false }
  else s

/-- Legs whose normal (or hard) latch is set and not yet seen by PD12 (R253). -/
def State.tripsDue (s : State) (hard : Bool) : List Nat :=
  (List.range 48).filter (fun n =>
    if hard then s.on (R.GATE_LEG_STAT_HTRIP n) && !s.gate.seenH.testBit n
    else s.on (R.GATE_LEG_STAT_NTRIP n) && !s.gate.seenN.testBit n)

/-- The mask of a list of legs. -/
def maskOf (l : List Nat) : Nat := l.foldl (fun m n => m ||| 2 ^ n) 0

/-- MASK of a group (R256). -/
def State.grpMask (s : State) (g : Nat) : Nat := s.get (R.GATE_GRP_LO_MASK g) + 2 ^ 32 * s.get (R.GATE_GRP_HI_MASK g)

/-- Recompute the GSD bit of every group: a leg of the group still holds GSD (R266). -/
def State.refreshGsd (s : State) : State :=
  s.each (List.range 16) (fun g t =>
    t.putB (R.GATE_GRP_STAT_GSD g) ((onesOf 48 (t.grpMask g)).any (fun n => t.on (R.GATE_LEG_STAT_GSD n))))

/-- The groups that latches seen in one cycle trigger: ANY counts the legs of `m`, MULTI those of `stamped`, which take the stamp
of the cycle; a leg held by GSD counts for none (R256). -/
def State.groupsOf (s : State) (m stamped : Nat) : List Nat :=
  let free := (List.range 48).foldl (fun t n => if s.on (R.GATE_LEG_STAT_GSD n) then t else t + 2 ^ n) 0
  (List.range 16).filter (fun g =>
    s.on (R.GATE_GRP_HI_EN g) &&
      (if s.on (R.GATE_GRP_HI_TRG g) then decide (1 ≤ popCount 48 (m &&& free &&& s.grpMask g))
       else decide (2 ≤ popCount 48 (stamped &&& free &&& s.grpMask g))))

/-- A group triggers: GSD on every leg of it (R256). -/
def State.groupTrip (s : State) (g : Nat) : State :=
  let s := s.flagPost 6 (R.GATE_GRP_STAT_GEV g) 12 g
  s.each (onesOf 48 (s.grpMask g)) (fun n t => (t.raise (R.GATE_LEG_STAT_GSD n)).tripLeg n)

/-- The PD12 cycle in which set trip latches are first seen (R253, R255 to R257): the legs whose earlier trips are cleared take a
stamp and stand in its record. The answer holds the groups that triggered. -/
def State.tripCycle (s : State) : State × List Nat :=
  let nt := s.tripsDue false
  let ht := s.tripsDue true
  let m := maskOf (nt ++ ht)
  if m = 0 then (s, [])
  else
    let s := { s with gate := ⟨s.gate.seenN ||| maskOf nt, s.gate.seenH ||| maskOf ht, s.gate.spiHold⟩ }
    let st := s.stamp 12
    let new := maskOf ((onesOf 48 m).filter (fun n => !s.on (R.GATE_LEG_STAT_SV n)))
    let gs := s.groupsOf m new
    let s := s.each (onesOf 48 m) (fun n t =>
      let t := if t.on (R.GATE_LEG_STAT_SV n) then t else (t.wr (R.GATE_LEG_TSTAMP n) st).raise (R.GATE_LEG_STAT_SV n)
      let t := if nt.contains n then t.setLeg n { t.leg n with ntPeriod := true } else t
      t.tripLeg n)
    let s := if new = 0 then s else s.post 0x0610 12 (bytesLE 6 new ++ bytesLE 6 (maskOf ht &&& new))
    ((s.each gs (fun g t => t.groupTrip g)).refreshGsd, gs)

/-- A trip latch sets, also while PD12 has no clock; in reset it stays clear (R253). -/
def State.latchTrip (s : State) (r : Ref) : State := if 2 ≤ s.get (R.SYSCTL_PD_STATE 12) then s.raise r else s

/-- The normal stage of CMP(2n) becomes active, or counts as becoming active: LAT is set, and outside PCM mode a normal trip
latches; a self-test of the stage suppresses the trip (R210, R252, R261, R286). -/
def State.normalActive (s : State) (n : Nat) : State :=
  if (s.bch n).blank then s
  else
    let s := s.raise (R.CMP_STAT_LAT (2 * n))
    if s.get (R.BATTEN_CH_CTRL_MODE n) = 2 ∨ (s.leg n).test = 1 then s else s.latchTrip (R.GATE_LEG_STAT_NTRIP n)

/-- The comparator ends an active pulse of a PCM period, not while its stage is under self-test (R209, R261); the threshold at that
instant is kept for the cross-check (R361). -/
def State.pcmTermination (s : State) (n : Fin 48) (tick : Nat) : State :=
  if (s.leg n).test = 1 then s
  else
    let t := s.pcmEnd n tick
    if (s.bch n).endBy ≠ 1 ∧ (t.bch n).endBy = 1 then
      t.setBch n { t.bch n with endThr := s.cmpCode (.leg ⟨2 * n, by omega⟩) }
    else t

/-- The hard stage of CMP(2n) becomes active (R252). -/
def State.hardActive (s : State) (n : Nat) : State :=
  if (s.leg n).test = 2 then s else s.latchTrip (R.GATE_LEG_STAT_HTRIP n)

/-- A comparator stage takes an output level outside its band: consumers see a rise (R283, R286). -/
def State.cmpBecomes (s : State) (c : Cmp) (act : Bool) : State :=
  let was := s.on (cmpOut c)
  let s := (s.clear (cmpUnres c)).putB (cmpOut c) act
  let rises := act && !was
  match c with
  | .leg k => if rises then (if k.val % 2 = 0 then s.normalActive (k / 2) else s.raise (R.CMP_STAT_LAT k)) else s
  | .hard n => if rises then s.hardActive n else s
  | .winLo k =>
    let s := if rises then s.setWin k { s.win k with lastL := some s.upNs } else s
    s.refreshWin k
  | .winHi k =>
    let s := if rises then s.setWin k { s.win k with lastU := some s.upNs } else s
    s.refreshWin k

/-- The pin of a comparator holds some nanovolts: its output follows once the input has left the band, but not while the stage
settles or is under test (R261, R263, R280 to R282). -/
def State.cmpChange (s : State) (c : Cmp) (nv : Nat) : State :=
  if s.cmpEnabled c && decide ((s.cmp c).settling = 0) && !s.cmpTested c then
    match s.cmpSide c nv with
    | some act => s.cmpBecomes c act
    | none => s
  else s

/-- Settling ends: the input is outside the band on a side, or inside it (R282, R283). -/
def State.cmpSettled (s : State) (c : Cmp) (nv : Nat) : State :=
  let k := (s.cmp c).settling
  if s.cmpEnabled c && decide (k ≠ 0) then
    let s := s.setCmp c { s.cmp c with settling := 0 }
    if s.cmpTested c then s
    else match s.cmpSide c nv with
      | some act => s.cmpBecomes c act
      | none => if k = 1 then (s.putB (cmpOut c) (cmpPreset c)).raise (cmpUnres c) else s
  else s

/-- A blanking window ends: an active normal output counts as becoming active at that instant (R210). -/
def State.blankingEnd (s : State) (n : Fin 48) (straddle : Bool) : State :=
  if (s.bch n).blank then
    let s := s.setBch n { s.bch n with blank := false }
    if s.on (R.CMP_STAT_OUT (2 * n)) then
      let s := s.normalActive n
      if straddle then s.raise (R.CMP_STAT_BND (2 * n)) else s
    else s
  else s

/-- The urgent frame naming the leg has ended, plus SOFTDLY: LEN and LPULSE low (R257). -/
def State.softOff (s : State) (n : Nat) : State :=
  if decide (s.pstate n = 1) && (s.leg n).named then
    (s.put (R.GATE_LEG_STAT_PSTATE n) 2).setLeg n { s.leg n with padLen := false, padLp := false, named := false }
  else s

/-- SOFTHOLD expires (R257). -/
def State.softHoldEnd (s : State) (n : Nat) : State :=
  if s.pstate n = 2 then s.put (R.GATE_LEG_STAT_PSTATE n) 3 else s

/-- Both stages of CMP(2n) are inactive. -/
def State.shuntQuiet (s : State) (n : Nat) : Bool :=
  !s.on (R.CMP_STAT_OUT (2 * n)) && !s.on (R.CMP_STAT_HOUT (2 * n))

/-- Clear the trips of a leg and return it to CLEAR; its pins return at the next reload. -/
def State.clearTrip (s : State) (n : Nat) : State :=
  let s := (((s.clear (R.GATE_LEG_STAT_NTRIP n)).clear (R.GATE_LEG_STAT_HTRIP n)).clear (R.GATE_LEG_STAT_GSD n)).clear
    (R.GATE_LEG_STAT_SV n)
  let s := { s with gate :=
    ⟨s.gate.seenN &&& (2 ^ 48 - 1 - 2 ^ n), s.gate.seenH &&& (2 ^ 48 - 1 - 2 ^ n), s.gate.spiHold⟩ }
  let s := (s.clear (R.GATE_LEG_STAT_PSTATE n)).setLeg n { s.leg n with
    cbStop := false, padLen := false, padLp := false, resume := true }
  s.refreshGsd

/-- The re-enable command of one leg (R257). -/
def State.reEnable (s : State) (n : Nat) : State :=
  match s.pstate n with
  | 0 => s.put (R.GATE_LEG_STAT_RES n) 4
  | 3 => if s.shuntQuiet n then (s.clearTrip n).put (R.GATE_LEG_STAT_RES n) 1 else s.put (R.GATE_LEG_STAT_RES n) 3
  | _ => s.put (R.GATE_LEG_STAT_RES n) 2

/-- A channel in RUN goes on from LEN low: a change of LPULSE under way still takes place, and LEN rises with the next edge
sequence or, where the period has none, at S + DT (R260). -/
def restartLow (b : BCh) : BCh :=
  { b with len := false, starting := true, edge := match b.edge with
    | some e => if e.moved then none else some { e with rise := none }
    | none => none }

/-- What the leg does at a reload of its channel: it counts periods with a normal trip, clears one automatically, and
returns the pins of a re-enabled leg, and of one that safe pulse inhibit kept low, to Batten as a start from LEN low (R255,
R257, R260, R414). -/
def State.protReload (s : State) (n : Fin 48) : State :=
  let l := s.leg n
  let cbc := if l.ntPeriod then l.cbc + 1 else 0
  let mx := s.get (R.GATE_LEG_CFG_CBCMAX n)
  let hit := decide (mx ≠ 0 ∧ cbc = mx)
  let s := s.setLeg n { l with cbc := cbc, ntPeriod := false, cbStop := l.cbStop || hit }
  let s := if hit then s.flagPost 6 (R.GATE_LEG_STAT_CBCL n) 12 n else s
  let auto := decide (s.pstate n = 3) && s.on (R.GATE_LEG_CFG_TCLR n) && s.on (R.GATE_LEG_STAT_NTRIP n) &&
    !s.on (R.GATE_LEG_STAT_HTRIP n) && !s.on (R.GATE_LEG_STAT_GSD n) && !s.on (R.CMP_STAT_OUT (2 * n)) &&
    !(s.leg n).cbStop
  let s := if auto then s.clearTrip n else s
  let spi := s.gate.spiHold.testBit n && s.legsFree
  let s := if spi then { s with gate := { s.gate with spiHold := s.gate.spiHold &&& (2 ^ 48 - 1 - 2 ^ n.val) } } else s
  if (s.leg n).resume || spi then
    let s := s.setLeg n { s.leg n with resume := false }
    if s.get (chState (.dir n)) = 2 then s.setBch n (restartLow (s.bch n)) else s
  else s

/-! ### Self-tests (R261 to R263) -/

/-- The comparators of a leg. -/
def legCmps (n : Fin 48) : List (Fin 96) := [⟨2 * n, by omega⟩, ⟨2 * n + 1, by omega⟩]

/-- Start a self-test of a leg's comparator: its ramp stops; refused unless the channel is OFF and no test of the leg runs
(R261). -/
def State.legTest (s : State) (n : Fin 48) (which : Nat) : State :=
  if s.get (chState (.dir n)) = 0 ∧ (s.leg n).test = 0 then
    (legCmps n).foldl (fun (t : State) c => t.rampStop c) (s.setLeg n { s.leg n with test := which })
  else s.raise (R.GATE_LEG_STAT_STR n)

/-- Start a self-test of a window comparator; refused while one of the window runs (R263). -/
def State.winTest (s : State) (k : Nat) : State :=
  match (s.win k).test with
  | none => s.setWin k { s.win k with test := some (s.on (R.GATE_WIN_ST_SEL k)) }
  | some _ => s.raise (R.GATE_WIN_ST_STR k)

/-- The pass window of R262: the hard stage sweeps HTH, every other comparator its 10-bit DAC. -/
def testPass (hard : Bool) (upc dnc : Nat) : Bool :=
  let lo := if hard then 125 else 500
  let hi := if hard then 131 else 524
  decide (lo ≤ upc ∧ upc ≤ hi ∧ lo ≤ dnc ∧ dnc ≤ hi ∧ dnc ≤ upc)

/-- A sweep ends (R262): its falling half has made the output of a normal stage active, which LAT shows (R286). A window's outputs
are released, inactive where EN has become 0 meanwhile (R263, R287). -/
def State.testDone (s : State) (u : TestUnit) (upc dnc : Nat) : State :=
  match u with
  | .leg n =>
    if (s.leg n).test = 0 then s
    else
      let pass := testPass (decide ((s.leg n).test = 2)) upc dnc
      let which := (s.leg n).test
      let s := s.setLeg n { s.leg n with test := 0 }
      let s := if which = 2 ∨ dnc = 0x3FF then s else s.raise (R.CMP_STAT_LAT (2 * n + which / 3))
      let s := (s.put (R.GATE_LEG_STRES_UPC n) upc).put (R.GATE_LEG_STRES_DNC n) dnc
      let s := s.raise (R.GATE_LEG_STAT_STD n)
      if pass then s else s.flagPost 6 (R.GATE_LEG_STAT_STE n) 12 n
  | .win k =>
    if (s.win k).test.isNone then s
    else
      let s := s.setWin k { s.win k with test := none }
      let s := (s.put (R.GATE_WIN_ST_UPC k) upc).put (R.GATE_WIN_ST_DNC k) dnc
      let s := s.raise (R.GATE_WIN_ST_STD k)
      let s := if testPass false upc dnc then s else s.flagPost 6 (R.GATE_WIN_ST_STE k) 12 k
      let s := if s.on (R.CMP_WIN_CFG_EN k) then s else (s.clear (R.CMP_WIN_STAT_OUTL k)).clear (R.CMP_WIN_STAT_OUTU k)
      s.refreshWin k

/-- GATE_RLm_STR has been written or exchanged: the loop starts from FIXCODE when LOOPEN goes from 0 to 1 (R242, R244). -/
def State.rlStrWritten (s : State) (m : Nat) (old : Word) : State :=
  let p := strParm (s.rd (R.GATE_RL_STR m))
  if p.loopen && !bitAt old 31 then s.setRlLoop m { s.rlLoop m with code := max p.fixcode 1, minSw := none } else s

/-- The remote strength loop at a release cycle (R244). -/
def State.rlStrength (s : State) (m : Nat) : State :=
  let p := strParm (s.rd (R.GATE_RL_STR m))
  let l := s.rlLoop m
  let code := strStep p l.ackPend l.minSw l.code
  s.setRlLoop m { l with code := code, ackPend := l.ackPend || (!strBad p && decide (code ≠ l.code)), minSw := none }

end Sys2Proof.Machine
end

