-- ==== Sys2Proof/Machine/Ctx.lean ====
section
/-!
DEFINITION. Loop contexts (R145 to R184): descriptors, opening and closing, the feedback policy, rollback of a region,
yealms and trace blocks.
-/

namespace Sys2Proof.Machine

/-! ### Descriptors (R145 to R152) -/

/-- The core that owns a context (R145). -/
def coreOf (c : Nat) : Nat := c / 32

/-- The island of a Rafter core. -/
def pdOfRc (n : Nat) : Nat := 4 + n

/-- The data memory of a Rafter core (R39). -/
def rcData (n : Nat) : Nat := n * 0x100000

/-- The descriptor of a context (R146). -/
def descBase (c : Nat) : Nat := rcData (coreOf c) + 0x7C000 + c % 32 * 0x200

/-- A descriptor word. -/
def State.desc (s : State) (c off : Nat) : Word := s.memWord (descBase c + off)

/-- A field of a descriptor word. -/
def State.df (s : State) (c off hi lo : Nat) : Nat := fieldOf (s.desc c off) hi lo

/-- DESC_CFG.NCOMP. -/
def State.ncomp (s : State) (c : Nat) : Nat := s.df c 0 27 23
/-- DESC_CFG.NPWM. -/
def State.npwm (s : State) (c : Nat) : Nat := s.df c 0 22 19
/-- DESC_CFG.FBPOL. -/
def State.fbpol (s : State) (c : Nat) : Nat := s.df c 0 18 17
/-- DESC_CFG.HOLDN, 0 counting as 1. -/
def State.holdn (s : State) (c : Nat) : Nat := max 1 (s.df c 0 15 8)
/-- The context block: offset in the data window and bytes (R150). -/
def State.blockArea (s : State) (c : Nat) : Nat × Nat := (s.df c 4 31 19 * 64, 64 * (s.df c 4 18 16 + 1))
/-- The coefficient area. -/
def State.coefArea (s : State) (c : Nat) : Nat × Nat := (s.df c 8 31 19 * 64, 64 * s.df c 8 18 13)
/-- The address of the context block. -/
def State.blockAddr (s : State) (c : Nat) : Nat := rcData (coreOf c) + (s.blockArea c).1
/-- The address of the coefficient area. -/
def State.coefAddr (s : State) (c : Nat) : Nat := rcData (coreOf c) + (s.coefArea c).1
/-- The entry bundle of the law. -/
def State.entryAddr (s : State) (c : Nat) : Nat := rcData (coreOf c) + 0x80000 + s.df c 0x10 16 3 * 8
/-- DESC_SAMPk. -/
def State.samp (s : State) (c k : Nat) : Word := s.desc c (0x40 + 4 * k)
/-- DESC_PWMk. -/
def State.pwmBind (s : State) (c k : Nat) : Word := s.desc c (0xC0 + 4 * k)
/-- The CH code of PWM binding k. -/
def State.pwmCode (s : State) (c k : Nat) : Nat := fieldOf (s.pwmBind c k) 7 0
/-- The CH codes that a context binds. -/
def State.pwmCodes (s : State) (c : Nat) : List Nat := (List.range (s.npwm c)).map (s.pwmCode c)
/-- The outputs that a context binds. -/
def State.boundChans (s : State) (c : Nat) : List Chan := (s.pwmCodes c).filterMap chanOfCode

/-- CFG: the context is configured (R147). -/
def State.isCfg (s : State) (c : Nat) : Bool := s.on (R.RAFTER_CTX_STAT_CFG c)
/-- OPN: the context is open. -/
def State.isOpen (s : State) (c : Nat) : Bool := s.on (R.RAFTER_CTX_STAT_OPN c)
/-- FBL: the feedback is flagged lost or frozen. -/
def State.fbl (s : State) (c : Nat) : Bool := s.on (R.RAFTER_CTX_STAT_FBL c)
/-- The configured contexts. -/
def State.cfgd (s : State) : List Nat := (List.range 256).filter s.isCfg

/-- Two areas of one data memory share a byte. -/
def overlaps (a b : Nat × Nat) : Bool :=
  decide (0 < a.2) && decide (0 < b.2) && decide (a.1 < b.1 + b.2) && decide (b.1 < a.1 + a.2)

/-- A bound component exists: MD0 to MD23, or sample 0 to 23 of a lane's upstream frame (R151, R152, R508). -/
def sampOk (w : Word) : Bool :=
  match fieldOf w 31 30 with
  | 0 => decide (fieldOf w 29 24 < 24) && decide (fieldOf w 23 16 = 0)
  | 1 => decide (fieldOf w 29 24 < 24) && decide (fieldOf w 23 16 < 24)
  | _ => false

/-- The conditions of R149 to R152 that name the context alone. -/
def State.descOk (s : State) (c : Nat) : Bool :=
  s.df c 0 31 31 = 1 && decide (s.fbpol c ≠ 3) && decide (s.df c 0 7 0 ≠ 0) && decide (s.ncomp c ≤ 16) &&
  decide (s.npwm c ≤ 8) && decide (s.df c 0x0C 23 22 ≠ 3) &&
  (List.range (s.ncomp c)).all (fun k => sampOk (s.samp c k)) &&
  (s.pwmCodes c).all (fun k => (chanOfCode k).isSome) &&
  decide ((s.blockArea c).1 + (s.blockArea c).2 ≤ 0x7C000) &&
  (decide ((s.coefArea c).2 = 0) || decide ((s.coefArea c).1 + (s.coefArea c).2 ≤ 0x7C000)) &&
  !overlaps (s.blockArea c) (s.coefArea c) &&
  (List.range 4).all (fun j => s.df c (0x140 + 4 * j) 31 31 = 0 ||
    (decide (s.df c (0x140 + 4 * j) 30 28 < s.npwm c) && decide (s.df c (0x140 + 4 * j) 27 21 * 4 < (s.blockArea c).2))) &&
  (List.range 16).all (fun k => s.df c (0x100 + 4 * k) 31 31 = 0 ||
    decide (s.df c (0x100 + 4 * k) 18 9 + s.df c (0x100 + 4 * k) 28 19 + 1 ≤ 1024))

/-- Two contexts are in conflict: areas of one core overlap, or they bind one channel (R152). -/
def State.clash (s : State) (c d : Nat) : Bool :=
  decide (c ≠ d) &&
  ((decide (coreOf c = coreOf d) &&
      (overlaps (s.blockArea c) (s.blockArea d) || overlaps (s.blockArea c) (s.coefArea d) ||
       overlaps (s.coefArea c) (s.blockArea d) || overlaps (s.coefArea c) (s.coefArea d))) ||
    (s.pwmCodes c).any (fun k => (s.pwmCodes d).contains k))

/-- Judge one context against some configured ones. -/
def State.judgeBy (s : State) (l : List Nat) (c : Nat) : State :=
  s.putB (R.RAFTER_CTX_STAT_CFG c) (s.descOk c && l.all (fun d => !s.clash c d))

/-- Judge one context against those configured now. -/
def State.judgeOne (s : State) (c : Nat) : State := s.judgeBy s.cfgd c

/-- Judge anew after a change of the descriptors of some contexts (R147): a changed context that was configured against those
configured just before the change, then every unconfigured one in ascending number. -/
def State.judge (s : State) (changed : List Nat) : State :=
  let before := s.cfgd
  let s := s.each (changed.filter s.isCfg) (fun c t => t.judgeBy before c)
  s.each (List.range 256) (fun c t => if t.isCfg c then t else t.judgeOne c)

/-- The bits of a descriptor word that the layouts assign, by its offset; the others and whole words not listed are reserved
(R148 to R151). -/
def descMask (o : Nat) : Word :=
  if o = 0 then 0xFFFFFFFF
  else if o = 8 then 0xFFFFE000
  else if o = 4 ∨ o = 0xC then 0xFFFF0000
  else if o = 0x10 then 0x0001FFF8
  else if 0x40 ≤ o ∧ o < 0x80 then 0xFFFF0000
  else if 0xC0 ≤ o ∧ o < 0xE0 then 0x000100FF
  else if 0x100 ≤ o ∧ o < 0x140 then 0xFFFFFE00
  else if 0x140 ≤ o ∧ o < 0x150 then 0xFFFF0000
  else if (0x80 ≤ o ∧ o < 0xC0) ∨ (0xE0 ≤ o ∧ o < 0x100) ∨ (0x150 ≤ o ∧ o < 0x160) then 0xFFFFFFFF
  else 0

/-- The context in whose descriptor an address of a data memory lies. -/
def descCtx (a : Nat) : Option Nat :=
  if a < 0x800000 ∧ 0x7C000 ≤ a % 0x100000 ∧ a % 0x100000 < 0x80000 then
    some (a / 0x100000 * 32 + (a % 0x100000 - 0x7C000) / 0x200)
  else none

/-! ### Epochs towards Batten (R125, R165, R204) -/

/-- The epochs on their way from a source: 0 to 7 RCn, 8 the boost engine. -/
def State.epochsOf (s : State) (src : Nat) : List Epoch := tblGet (fun _ => []) s.bat.epochs src

/-- Replace them. -/
def State.setEpochs (s : State) (src : Nat) (l : List Epoch) : State :=
  { s with bat := { s.bat with epochs := tblSet (fun _ => []) s.bat.epochs src l } }

/-- A committed epoch of a context is refused at a closed gate: dropped and recorded, with DRP (R37, R185). -/
def State.refuseEpoch (s : State) (c : Nat) : State := s.flagPost 4 (R.RAFTER_CTX_STAT_DRP c) (pdOfRc (coreOf c)) c

/-- Send an update epoch of a context from its core to PD12, where it waits while PD12's clock stands still; a closed gate
refuses it (R36, R37). -/
def State.sendEpoch (s : State) (c : Nat) (entries : List CbEntry) (hold : Bool) : State :=
  let n := coreOf c
  if entries.isEmpty then s
  else if s.pdOpen 12 && s.pdOpen (pdOfRc n) then
    let x := s.core n
    let s := s.setEpochs n (s.epochsOf n ++ [⟨n, x.epochSeq, entries, hold, some c⟩])
    s.setCore n { x with epochSeq := (x.epochSeq + 1) % 8192 }
  else s.refuseEpoch c

/-- The gates of PD12 close while its clock stands still: the epochs that it has not captured are refused (R36, R37). -/
def State.refuseEpochs (s : State) : State :=
  s.each (List.range 9) (fun n t =>
    let l := t.epochsOf n
    (l.filterMap (·.ctx)).foldl (fun u c => u.refuseEpoch c) (t.setEpochs n []))

/-- The last committed value of a select of binding k, or the channel's active value where the context has committed
none (R165). -/
def State.committedVal (s : State) (c k sel : Nat) : Word :=
  match tblGet (fun _ => none) (s.ctx c).committed (s.pwmCode c k * 8 + sel) with
  | some v => v
  | none => match chanOfCode (s.pwmCode c k) with
    | some ch => match selOff ch sel with
      | some o => s.rd (chReg ch o)
      | none => 0
    | none => 0

/-- What binding k holds while the context is open (R165). -/
def State.holdVal (s : State) (c k : Nat) : Word :=
  if bitAt (s.pwmBind c k) 16 then s.desc c (0xE0 + 4 * k) else s.committedVal c k 1

/-- The held value of binding k, for the bumpless close: the DUTY that its channel holds (R166, R191). -/
def State.heldDuty (s : State) (c k : Nat) : Word :=
  match tblGet (fun _ => none) (s.ctx c).held (s.pwmCode c k) with
  | some v => v &&& 0x3FFFFF#32
  | none => match chanOfCode (s.pwmCode c k) with
    | some ch => s.rd (chReg ch 0x0C)
    | none => 0

/-! ### Trace blocks end (R184) -/

/-- Close the open block of every node; the next one carries GAP. -/
def State.traceBreak (s : State) (c : Nat) : State :=
  let x := s.ctx c
  s.setCtx c { x with trace := (List.range 16).foldl (fun t k =>
    let n := tblGet (fun _ => traceReset) t k
    tblSet (fun _ => traceReset) t k { n with live := false, gap := true }) x.trace }

/-! ### Opening and closing (R127, R128, R165 to R167) -/

/-- Set PEND from the accepted commands. -/
def State.setPendCtx (s : State) (c : Nat) (o cl : Bool) : State :=
  (s.setCtx c { s.ctx c with pendOpen := o, pendClose := cl }).putB (R.RAFTER_CTX_STAT_PEND c) (o || cl)

/-- The context is the one its core is running. -/
def State.isRunning (s : State) (c : Nat) : Bool := (s.core (coreOf c)).ctx = some c

/-- An OPEN takes effect: the held values go out as one epoch of DUTY entries (R165). -/
def State.openEffect (s : State) (c : Nat) : State :=
  let vals := (List.range (s.npwm c)).map (fun k => (k, s.holdVal c k))
  let s := (s.setPendCtx c false false).raise (R.RAFTER_CTX_STAT_OPN c)
  let s := if s.isRunning c then s else s.clear (R.RAFTER_CTX_STAT_FIRST c)
  let s := s.traceBreak c
  let s := s.setCtx c { s.ctx c with
    held := vals.foldl (fun t v => tblSet (fun _ => none) t (s.pwmCode c v.1) (some v.2)) [] }
  s.sendEpoch c (vals.map (fun v => ⟨1, s.pwmCode c v.1, v.2⟩)) true

/-- Opening at once acts on the context as it stands; the policy opens it, and no SWAP closes it again (R170, R171). -/
def State.openAtOnce (s : State) (c : Nat) : State :=
  let s := { s with cfg := { s.cfg with reclose := s.cfg.reclose.filter (· ≠ c) } }
  let s := (s.clear (R.RAFTER_CTX_STAT_SWP c)).setCtx c { s.ctx c with swapClose := false }
  if s.isOpen c then (s.setPendCtx c false false).clear (R.RAFTER_CTX_STAT_FIRST c) else s.openEffect c

/-- An OPEN command for RCn with the status code of R127. -/
def State.ctxOpen (s : State) (n : Nat) (num : Word) : State × Nat :=
  let c := num.toNat
  if 256 ≤ c then (s, 0x06)
  else if coreOf c ≠ n then (s, 0x11)
  else if s.cfg.changed.contains c || s.on (R.RAFTER_CTX_STAT_PEND c) then (s, 0x12)
  else if s.isOpen c then (s, 0x10)
  else if s.isRunning c then (s.setPendCtx c true false, 0)
  else (s.openEffect c, 0)

/-- A CLOSE command for RCn with the status code of R127. -/
def State.ctxClose (s : State) (n : Nat) (num : Word) : State × Nat :=
  let c := num.toNat
  if 256 ≤ c then (s, 0x06)
  else if coreOf c ≠ n then (s, 0x11)
  else if s.cfg.changed.contains c || s.on (R.RAFTER_CTX_STAT_PEND c) then (s, 0x12)
  else if !s.isOpen c then (s, 0x10)
  else if !s.isCfg c then (s, 0x14)
  else if s.fbl c then (s, 0x13)
  else ((s.setPendCtx c false true).raise (R.RAFTER_CTX_STAT_FIRST c), 0)

/-- The SRC code of a master (R40, R189). -/
def srcCode : Master → Nat
  | .host => 0
  | .sc0 => 1
  | .sc1 => 2
  | .rc k => 3 + k

/-- An OPEN or CLOSE through CTXCMD (R189), with its result in CTXRES. -/
def State.ctxCmd (s : State) (n : Nat) (src : Master) (c : Byte) (opn : Bool) : State :=
  if s.pdRun (pdOfRc n) then
    let w : Word := BitVec.ofNat 32 c.toNat
    let r := if opn then s.ctxOpen n w else s.ctxClose n w
    r.1.wr (R.RAFTER_CORE_CTXRES n) (BitVec.ofNat 32 (srcCode src * 65536 + c.toNat * 256 + r.2))
  else s

/-- The bumpless seed of one integrator (R166). -/
def bumpSeed (h g : Word) (sh : Nat) : Word := wordOfInt (satInt 32 (roundShift (h.toInt * g.toInt) (31 - sh)))

/-- A CLOSE takes effect before the first bundle of a dispatch: the integrators are seeded (R166). -/
def State.closeEffect (s : State) (c : Nat) : State :=
  let s := ((s.setPendCtx c false false).clear (R.RAFTER_CTX_STAT_OPN c)).raise (R.RAFTER_CTX_STAT_FIRST c)
  let s := s.clear (R.RAFTER_CTX_STAT_SWP c)
  let s := s.setCtx c { s.ctx c with swapClose := false }
  s.each (List.range 4) (fun j t =>
    if t.df c (0x140 + 4 * j) 31 31 = 1 then
      t.putWords (t.blockAddr c + 4 * t.df c (0x140 + 4 * j) 27 21)
        [bumpSeed (t.heldDuty c (t.df c (0x140 + 4 * j) 30 28)) (t.desc c (0x150 + 4 * j)) (t.df c (0x140 + 4 * j) 20 16)]
    else t)

/-! ### Rollback of a region (R111, R112, R115, R163) -/

/-- Write a general register; G0 discards (R62). -/
def setG (x : CoreSt) (d : Nat) (v : Word) : CoreSt :=
  if d = 0 then x else { x with g := tblSet (fun _ => 0) x.g d v }

/-- A CSR of a core. -/
def csrOf (x : CoreSt) (n : Nat) : Word := tblGet csrReset x.csr n

/-- Set a CSR of a core. -/
def setCsr (x : CoreSt) (n : Nat) (v : Word) : CoreSt := { x with csr := tblSet csrReset x.csr n v }

/-- Restore the undo log, newest entry first (R163). -/
def State.undoAll (s : State) : List (Nat × Word) → State
  | [] => s
  | (a, v) :: l => (s.putWords a [v]).undoAll l

/-- Roll the region of a core back with the code for its cause (R111, R115). -/
def State.rollback (s : State) (n code : Nat) : State :=
  let x := s.core n
  let s := s.undoAll x.undo
  let k := x.ckpt
  let x := { x with g := k.g, acc := k.acc, f := k.f, k := k.k, pc := k.pc, cb := x.cb.take k.cbLen, undo := [] }
  let x := { x with region := .live, stalled := none, reexec := true }
  let x := setCsr (setCsr x 0x011 k.accstat) 0x010 k.fcsr
  let x := setCsr x 0x101 (csrOf x 0x101 + 1)
  let x := setG x x.specDst (BitVec.ofNat 32 code)
  (s.setCore n x).clear (R.RAFTER_CORE_STAT_UNDO n)

/-! ### Outputs bound to an island (R47, R651) -/

/-- The outputs bound to an island. -/
def State.boundTo (s : State) (pd : Nat) : List Chan :=
  if 4 ≤ pd ∧ pd ≤ 11 then
    ((List.range 32).map (fun k => 32 * (pd - 4) + k)).flatMap (fun c => if s.isCfg c then s.boundChans c else [])
  else if pd = 12 ∨ pd = 13 then allChans
  else if pd = 14 then allRem
  else []

/-- Assert INH on the outputs bound to an island (R47). -/
def State.inhibitIsland (s : State) (pd : Nat) : State := (s.boundTo pd).foldl (fun t c => t.inhibit pd c) s

/-- Withdraw an island's reason for INH everywhere. -/
def State.uninhibitAll (s : State) (k : Nat) : State := allChans.foldl (fun t c => t.uninhibit k c) s

/-- The parts that one island presents: component k goes into each awaited vector that `ok` names for it; a vector that is
no longer awaited is discarded (R156, R168). -/
def State.takeParts (s : State) (c : Nat) (ok : Awaited → Nat → Bool) (vals : List (Nat × Word)) : State :=
  let x := s.ctx c
  s.setCtx c { x with waits := x.waits.map (fun a =>
    { a with part := vals.foldl (fun t v => if ok a v.1 then tblSet (fun _ => none) t v.1 (some v.2) else t) a.part }) }

/-! ### Yealms (R172, R173) -/

/-- The CRC-32 of a yealm, over its words in the order of R172 (DESIGN CHOICE: the places within it are open). -/
def yealmCrc (y : Yealm) : Word :=
  let vals := fun (t : Tbl Word) => (List.range 16).map (tblGet (fun _ => 0) t)
  BitVec.ofNat 32 (crc32 (wordsBytes (y.block ++
    [BitVec.ofNat 32 (y.opn.toNat + 2 * y.pendOpen.toNat + 4 * y.pendClose.toNat + 8 * y.fbp + 32 * y.fbCount)] ++
    vals y.last ++ vals y.pred ++ y.committed.flatMap (fun e => [BitVec.ofNat 32 e.1, e.2.getD 0]) ++ [y.stamp])))

/-- What a yealm holds of a context as it stands. -/
def State.yealmOf (s : State) (c age : Nat) : Yealm :=
  let x := s.ctx c
  let y : Yealm :=
  { marked := true, age := age, block := s.memWords (s.blockAddr c) ((s.blockArea c).2 / 4), opn := s.isOpen c,
    pendOpen := x.pendOpen, pendClose := x.pendClose, fbp := s.get (R.RAFTER_CTX_STAT_FBP c), fbCount := x.fbCount,
    last := x.last, pred := x.pred,
    committed := (List.range (s.npwm c)).foldl (fun t k => (List.range 7).foldl (fun t sel =>
      match chanOfCode (s.pwmCode c k) with
      | some ch => if (selOff ch sel).isSome then
          tblSet (fun _ => none) t (s.pwmCode c k * 8 + sel) (some (s.committedVal c k sel)) else t
      | none => t) t) [],
    stamp := x.dispStamp, crc := 0 }
  { y with crc := yealmCrc y }

/-- The age of the newer slot. -/
def newerAge (x : CtxSt) : Nat := max x.yealmA.age x.yealmB.age

/-- The copy that runs completes: the older slot takes it (R173). -/
def State.yealmDone (s : State) (c : Nat) : State :=
  let x := s.ctx c
  match x.copy with
  | none => s
  | some y =>
    if x.yealmA.age ≤ x.yealmB.age then s.setCtx c { x with copy := none, yealmA := y }
    else s.setCtx c { x with copy := none, yealmB := y }

end Sys2Proof.Machine
end

