-- ==== Sys2Proof/Machine/Boost.lean ====
section
/-!
DEFINITION. The boost engine and the MPP engines of PD12 (R346 to R374).
-/

namespace Sys2Proof.Machine

/-- STATE of a converter. -/
def State.bcState (s : State) (k : Nat) : Nat := s.get (R.BOOST_BC_STAT_STATE k)
/-- The lead leg. -/
def State.bcLead (s : State) (k : Nat) : Nat := s.get (R.BOOST_BC_CFG_LEAD k)
/-- The phases of a converter. -/
def State.bcNph (s : State) (k : Nat) : Nat := s.get (R.BOOST_BC_CFG_NPH k)
/-- The channel of phase i, where the part has it. -/
def State.bcLeg (s : State) (k i : Nat) : Option (Fin 48) :=
  if h : s.bcLead k + i < 48 then some ⟨s.bcLead k + i, h⟩ else none
/-- The legs of a converter. -/
def State.bcLegs (s : State) (k : Nat) : List Nat := (List.range (s.bcNph k)).map (s.bcLead k + ·)
/-- Bit i of FAIL. -/
def State.bcFailed (s : State) (k i : Nat) : Bool := (s.get (R.BOOST_BC_PHSTAT_FAIL k)).testBit i
/-- Bit i of ACT. -/
def State.bcActive (s : State) (k i : Nat) : Bool := (s.get (R.BOOST_BC_PHSTAT_ACT k)).testBit i
/-- The active phases. -/
def State.bcActs (s : State) (k : Nat) : List Nat := (List.range (s.bcNph k)).filter (s.bcActive k)
/-- The phases without a FAIL bit. -/
def State.bcOk (s : State) (k : Nat) : List Nat := (List.range (s.bcNph k)).filter (fun i => !s.bcFailed k i)

/-- A phase conducts (R349). -/
def State.conducts (s : State) (k i : Nat) : Bool :=
  s.bcActive k i && decide (s.get (R.BATTEN_CH_STAT_STATE (s.bcLead k + i)) = 2) && decide (s.pstate (s.bcLead k + i) = 0)

/-- The weight of a phase (R350). -/
def State.bcWeight (s : State) (k i : Nat) : Nat :=
  let b := s.bc k
  if !s.conducts k i || decide (b.add = some i) then 0
  else if b.shed = some i then 64 * (b.shedN - b.shedJ) / b.shedN
  else 64

/-- Recompute NACT, NOK, NCD and SHD (R371). -/
def State.bcRefresh (s : State) (k : Nat) : State :=
  let acts := s.bcActs k
  let s := (s.put (R.BOOST_BC_STAT_NACT k) acts.length).put (R.BOOST_BC_STAT_NOK k) (s.bcOk k).length
  let s := s.put (R.BOOST_BC_PHSTAT_NCD k) (maskOf (acts.filter (fun i => !s.conducts k i)))
  s.put (R.BOOST_BC_PHSTAT_SHD k) (match (s.bc k).shed with | some i => 2 ^ i | none => 0)

/-- The fields of CMP(c) that an enabled converter owns: RAMPEN and RCH of CFG, CODE of DAC, SLOPE and FLOOR of RAMP (R347). -/
def State.cmpOwned (s : State) (c : Nat) : Bool :=
  decide (c % 2 = 0) && (List.range 8).any (fun k => decide (s.bcState k ≠ 0) && (s.bcLegs k).contains (c / 2))

/-- A threshold code is written by another master than the engine: an owned field keeps its value, with WLE where it would have
changed (R17, R284, R347). -/
def State.codeWrite (s : State) (c : Cmp) (code : Nat) (late : Bool) : State :=
  match c with
  | .leg n =>
    if s.cmpOwned n then (if s.get (R.CMP_DAC_CODE n) = code then s else s.raise (R.CMP_STAT_WLE n))
    else s.dacWrite c code late
  | _ => s.dacWrite c code late

/-- Set the active phases. -/
def State.bcSetAct (s : State) (k : Nat) (l : List Nat) : State := (s.put (R.BOOST_BC_PHSTAT_ACT k) (maskOf l)).bcRefresh k

/-- The per-phase limit and DRT (R363); a change of DRT to 1 is recorded. -/
def State.bcLimit (s : State) (k : Nat) : State :=
  let nok := (s.bcOk k).length
  let ceil := s.get (R.BOOST_BC_LIM_IPCEIL k)
  let x := s.get (R.BOOST_BC_LIM_IPL k) * s.bcNph k
  let drt := decide (ceil * nok < x)
  let was := s.on (R.BOOST_BC_STAT_DRT k)
  let s := s.setBc k { s.bc k with iple := if nok = 0 then 0 else min ceil (x / nok) }
  let s := s.putB (R.BOOST_BC_STAT_DRT k) drt
  if drt && !was then s.postFlag 9 (R.BOOST_BC_STAT_DRT k) 12 k else s

/-- A phase's threshold base is presented to its comparator (R350, R351). -/
def State.bcBase (s : State) (k i code : Nat) : State :=
  match s.bcLeg k i with
  | some n => s.dacWrite (.leg ⟨2 * n, by omega⟩) code false
  | none => s

/-- The share of a phase (R350). -/
def bcShare (icmd w total : Nat) : Nat := if total = 0 then 0 else (2 * icmd * w + 8 * total) / (16 * total)

/-- The bases of the coming period from given weights; the phase in `full` takes its current limit (R350, R355). -/
def State.bcBases (s : State) (k : Nat) (wt : Nat → Nat) (full : Option Nat) : State :=
  let l := List.range (s.bcNph k)
  let total := (l.map wt).sum
  let icmd := s.get (R.BOOST_BC_ICMD_ICMD k)
  let zofs := s.get (R.BOOST_BC_LIM_ZOFS k)
  let lim := (s.bc k).iple
  s.each l (fun i t =>
    let sh := if full = some i then lim else bcShare icmd (wt i) total
    let t := if lim < sh then (t.raise (R.BOOST_BC_STAT_CLMP k)).setMpp k { t.mpp k with clmp := true } else t
    t.bcBase k i (zofs + min lim sh))

/-- The phase of an active follower (R357). -/
def bcPhase (r p n : Nat) : Nat := r * p / n

/-- The epoch that re-spaces the followers of the active set (R348, R357). -/
def State.bcRespace (s : State) (k : Nat) : State :=
  let acts := s.bcActs k
  let lead := s.bcLead k
  let p := s.ownPeriod lead
  let es := (acts.zip (List.range acts.length)).filterMap (fun x =>
    if x.1 = 0 then none
    else some (⟨2, lead + x.1, wordOfFine (s.presc lead) (bcPhase x.2 p acts.length)⟩ : CbEntry))
  let s := s.setBc k { s.bc k with respace := false }
  if es.isEmpty then s else s.setEpochs 8 (s.epochsOf 8 ++ [⟨8, 0, es, false, none⟩])

/-- Write EN = 0 to a phase channel. -/
def State.bcStopPhase (s : State) (k i : Nat) : State :=
  match s.bcLeg k i with
  | some n => s.chDisable (.dir n)
  | none => s

/-- Write EN = 1 to a phase channel. -/
def State.bcStartPhase (s : State) (k i : Nat) : State :=
  match s.bcLeg k i with
  | some n => s.chEnable (.dir n) false
  | none => s

/-- End any shed and add. -/
def State.bcQuiet (s : State) (k : Nat) : State :=
  s.setBc k { s.bc k with shed := none, shedJ := 0, shedDue := false, add := none, shCnt := 0, adCnt := 0 }

/-- Enter a state: both counts of R354 reset. -/
def State.bcEnter (s : State) (k st : Nat) : State :=
  (s.put (R.BOOST_BC_STAT_STATE k) st).setBc k { s.bc k with shCnt := 0, adCnt := 0 }

/-- The MPP engine stops; a scan ends without a result (R365, R369). -/
def State.mppStop (s : State) (k : Nat) : State :=
  (s.setMpp k { s.mpp k with on := false, scan := none, best := none }).clear (R.BOOST_BC_MSTAT_SCN k)

/-- A reference of the MPP engine. -/
def State.mppVref (s : State) (k : Nat) : Int := s.getS (R.BOOST_BC_MREF_VREF k)

/-- Point i of a scan (R369). -/
def State.scanPoint (s : State) (k i : Nat) : Int :=
  let hi := s.getS (R.BOOST_BC_MSCAN_VSHI k)
  let lo := s.getS (R.BOOST_BC_MSCAN_VSLO k)
  hi - ((i : Int) * (hi - lo)) / (s.get (R.BOOST_BC_MCFG_NSC k) : Int)

/-- A scan starts (R369). -/
def State.scanStart (s : State) (k : Nat) : State :=
  let s := s.setMpp k { s.mpp k with
    scan := some 0, best := none, before := s.mppVref k, req := false, held := false, lastScan := some s.upNs }
  (s.raise (R.BOOST_BC_MSTAT_SCN k)).putS (R.BOOST_BC_MREF_VREF k) (s.scanPoint k 0)

/-- An input of the engine reports a condition of R278, or carries no data (R365, R373). -/
def State.mppInputBad (s : State) (n : Nat) : Bool :=
  decide (23 < n) || s.on (R.MOD_MD_STAT_DCKL n) || s.on (R.MOD_MD_STAT_STKL n) || s.on (R.MOD_MD_STAT_FRZL n)

/-- VSRC or ISRC reports a condition now. -/
def State.mppBadNow (s : State) (k : Nat) : Bool :=
  s.mppInputBad (s.get (R.BOOST_BC_MCFG_VSRC k)) || s.mppInputBad (s.get (R.BOOST_BC_XCHK_ISRC k))

/-- The MPP engine starts: VREF = VSHI, direction down (R365, R366). -/
def State.mppStart (s : State) (k : Nat) : State :=
  if s.on (R.BOOST_BC_MCFG_MEN k) && decide (1 ≤ s.bcState k ∧ s.bcState k ≤ 3) && !(s.mpp k).on then
    let s := s.setMpp k { mppReset with
      on := true, lastScan := (s.mpp k).lastScan, began := s.upNs, t0 := s.upNs, inv := s.mppBadNow k }
    let s := (s.putS (R.BOOST_BC_MREF_VREF k) (s.getS (R.BOOST_BC_MSCAN_VSHI k))).clear (R.BOOST_BC_MSTAT_DIR k)
    if s.on (R.BOOST_BC_MCFG_SCST k) then s.scanStart k else s
  else s

/-- Every phase channel is OFF. -/
def State.bcAllOff (s : State) (k : Nat) : Bool := (s.bcLegs k).all (fun n => s.get (R.BATTEN_CH_STAT_STATE n) = 0)

/-- A disabled converter is OFF once every phase channel is OFF (R353). -/
def State.bcSettle (s : State) (k : Nat) : State :=
  if !s.on (R.BOOST_BC_CFG_EN k) && decide (s.bcState k ≠ 0) && s.bcAllOff k then
    (s.put (R.BOOST_BC_STAT_STATE k) 0).bcRefresh k
  else s

/-- EN written 0 (R353). -/
def State.bcDisable (s : State) (k : Nat) : State :=
  let s := s.clear (R.BOOST_BC_CFG_EN k)
  if s.bcState k = 0 then s
  else
    let s := (s.bcQuiet k).mppStop k
    let s := s.each (List.range (s.bcNph k)) (fun i t => t.bcStopPhase k i)
    (s.bcSetAct k []).bcSettle k

/-- The converter goes to FAULT (R353). -/
def State.bcFault (s : State) (k : Nat) : State :=
  let s := ((s.bcQuiet k).mppStop k).each (List.range (s.bcNph k)) (fun i t => t.bcStopPhase k i)
  let s := (s.bcSetAct k []).put (R.BOOST_BC_STAT_STATE k) 4
  s.postPlain 9 12 k (s.rd (R.BOOST_BC_STAT k))

/-- Start adding an available inactive phase (R356). -/
def State.bcAdd (s : State) (k : Nat) : State :=
  match (s.bcOk k).filter (fun i => !s.bcActive k i) with
  | [] => s
  | i :: _ =>
    let acts := (List.range (s.bcNph k)).filter (fun j => s.bcActive k j || j = i)
    let r := (acts.filter (· < i)).length
    let lead := s.bcLead k
    let s := (s.bcSetAct k acts).setBc k { s.bc k with add := some i, shCnt := 0, adCnt := 0 }
    let s := if i = 0 then s else
      s.wr (R.BATTEN_CH_PHASE (lead + i)) (wordOfFine (s.presc lead) (bcPhase r (s.ownPeriod lead) acts.length))
    ((s.bcStartPhase k i).put (R.BOOST_BC_STAT_STATE k) 3).bcRefresh k

/-- An abort of the shed (R355): SHAB and the record with j and ICMD; the shedding phase takes its current limit at the lead reload
of the abort, or at the next one. -/
def State.bcAbort (s : State) (k : Nat) (lift : Option Nat) : State :=
  let b := s.bc k
  let s := s.raise (R.BOOST_BC_STAT_SHAB k)
  let s := s.post 0x0927 12 (bytesLE 2 k ++ bytesLE 4 (s.rd (R.BOOST_BC_STAT k)).toNat ++ bytesLE 2 b.shedJ ++
    bytesLE 4 (s.get (R.BOOST_BC_ICMD_ICMD k)))
  let s := (s.bcQuiet k).bcEnter k 1
  s.setBc k { s.bc k with lift := lift }

/-- A phase is removed as failed (R353, R360 to R363); `flag` is OPF, SNSF or none. -/
def State.bcRemove (s : State) (k i : Nat) (flag : Option Ref) : State :=
  let b := s.bc k
  let st := s.bcState k
  let s := s.bcStopPhase k i
  let s := s.put (R.BOOST_BC_PHSTAT_FAIL k) (s.get (R.BOOST_BC_PHSTAT_FAIL k) ||| 2 ^ i)
  let s := match flag with
    | some f => s.flagPost 9 f 12 k
    | none => s.postPlain 9 12 k (s.rd (R.BOOST_BC_STAT k))
  let s := s.bcSetAct k ((s.bcActs k).filter (· ≠ i))
  let s := s.setBc k { s.bc k with respace := true }
  let s := s.bcLimit k
  if (s.bcOk k).isEmpty then s.bcFault k
  else if st = 2 then
    (if b.shed = some i then (s.bcQuiet k).bcEnter k 1 else s.bcAbort k b.shed).bcRefresh k
  else
    let adding := decide (b.add.isSome ∧ b.add ≠ some i)
    let s := if adding then s else (s.bcQuiet k).bcEnter k 1
    if adding then s else s.bcAdd k

/-- Phases whose channel has left RUN for OFF or STOPPING between two states are removed (R362). -/
def State.bcLeft (old s : State) : State :=
  s.each (List.range 8) (fun k t =>
    if 1 ≤ t.bcState k ∧ t.bcState k ≤ 3 then
      t.each (List.range (t.bcNph k)) (fun i u =>
        let a := R.BATTEN_CH_STAT_STATE (u.bcLead k + i)
        if u.bcActive k i && decide (old.get a = 2) && decide (u.get a = 0 ∨ u.get a = 3) then u.bcRemove k i none else u)
    else t.bcSettle k)

/-- The lead of a converter has lost its sync edges: SYL and a record (R359). -/
def State.bcSyncLost (s : State) (n : Nat) : State :=
  s.each (List.range 8) (fun k t =>
    if decide (t.bcState k ≠ 0) && t.on (R.BOOST_BC_CFG_SYNC k) && decide (t.bcLead k = n) then t.flagPost 9 (R.BOOST_BC_STAT_SYL k) 12 k
    else t)

/-- Legs that other enabled converters use. -/
def State.otherLegs (s : State) (k : Nat) : List Nat :=
  ((List.range 8).filter (fun j => j ≠ k && s.bcState j ≠ 0)).flatMap s.bcLegs

/-- Whether an enable is refused (R346). -/
def State.bcRefused (s : State) (k : Nat) : Bool :=
  let nph := s.bcNph k
  decide (nph = 0 ∨ nph = 7) || decide (47 < s.bcLead k + nph - 1) ||
  (s.bcLegs k).any (fun n => (s.otherLegs k).contains n) ||
  decide (24 < (s.otherLegs k).length + nph) ||
  decide (s.get (R.BOOST_BC_CFG_NMIN k) = 0 ∨ nph < s.get (R.BOOST_BC_CFG_NMIN k)) ||
  decide (s.get (R.BOOST_BC_CFG_DMAX k) = 0) ||
  !s.bcAllOff k || (s.bcLegs k).any (fun n => s.cfgd.any (fun c => (s.pwmCodes c).contains n)) ||
  (s.on (R.BOOST_BC_CFG_SHEN k) && decide (s.get (R.BOOST_BC_SHED_ADDTH k) ≤ s.get (R.BOOST_BC_SHED_SHEDTH k))) ||
  decide (s.get (R.BOOST_BC_LIM_IPCEIL k) < s.get (R.BOOST_BC_LIM_IPL k)) ||
  decide (1023 < s.get (R.BOOST_BC_LIM_ZOFS k) + s.get (R.BOOST_BC_LIM_IPCEIL k)) ||
  (s.bcOk k).isEmpty

/-- The comparator fields that the engine writes to a phase (R347, R351). -/
def State.bcCmp (s : State) (k i : Nat) : State :=
  match s.bcLeg k i with
  | some n =>
    let c := 2 * n.val
    (s.put (R.CMP_RAMP_SLOPE c) (s.get (R.BOOST_BC_RAMP_SLOPE k))).put (R.CMP_RAMP_FLOOR c) (s.get (R.BOOST_BC_RAMP_FLOOR k))
  | none => s

/-- What an accepted enable sets up on one phase (R347). -/
def State.bcSetup (s : State) (k i : Nat) : State :=
  let n := s.bcLead k + i
  let lead := s.bcLead k
  let p := s.ownPeriod lead
  let pre := s.presc lead
  let acts := s.bcActs k
  let s := ((s.put (R.BATTEN_CH_CTRL_MODE n) 2).put (R.BATTEN_CH_CTRL_POL n) 1).put (R.BATTEN_CH_CTRL_PRESC n)
    (s.get (R.BATTEN_CH_CTRL_PRESC lead))
  let s := s.wr (R.BATTEN_CH_DUTY n) (wordOfFine pre (p * s.get (R.BOOST_BC_CFG_DMAX k) / 256))
  let s :=
    if i = 0 then
      if s.on (R.BOOST_BC_CFG_SYNC k) then
        (s.put (R.BATTEN_CH_CTRL_SYNCSRC n) 3).wr (R.BATTEN_CH_PHASE n) (BitVec.ofNat 32 (s.get ⟨R.BOOST_BC_SYNC k, 21, 0⟩))
      else (s.put (R.BATTEN_CH_CTRL_SYNCSRC n) 0).wr (R.BATTEN_CH_PHASE n) 0
    else
      let r := (acts.filter (· < i)).length
      ((s.put (R.BATTEN_CH_CTRL_SYNCSRC n) 1).put (R.BATTEN_CH_CTRL_SYNCCH n) lead).wr (R.BATTEN_CH_PHASE n)
        (wordOfFine pre (bcPhase r p (max 1 acts.length)))
  let s := (s.raise (R.CMP_CFG_RAMPEN (2 * n))).put (R.CMP_CFG_RCH (2 * n)) n
  (s.bcBase k i (s.get (R.BOOST_BC_LIM_ZOFS k))).bcCmp k i

/-- EN written 1 (R346, R347, R353). -/
def State.bcEnable (s : State) (k : Nat) : State :=
  if s.bcState k ≠ 0 then s
  else if s.bcRefused k then (s.raise (R.BOOST_BC_STAT_CFE k)).clear (R.BOOST_BC_CFG_EN k)
  else
    let s := (s.raise (R.BOOST_BC_CFG_EN k)).setBc k bcReset
    let s := s.bcSetAct k (s.bcOk k)
    let s := s.each (List.range (s.bcNph k)) (fun i t => t.bcSetup k i)
    let s := s.each (s.bcOk k) (fun i t => t.bcStartPhase k i)
    let s := s.bcLimit k
    (((s.bcEnter k 1).bcRefresh k)).mppStart k

/-- The running cross-check window takes a pulse of a conducting phase of weight 64: its threshold code at the end and its on-time
(R361). -/
def State.xPulse (s : State) (k i code onT : Nat) : State :=
  let b := s.bc k
  match b.win with
  | some w =>
    if s.bcWeight k i = 64 then
      let o := tblGet (fun _ => (0, 0)) w.on i
      s.setBc k { b with win := some { w with
        est := w.est + 8 * ((code : Int) - s.get (R.BOOST_BC_LIM_ZOFS k)), on := tblSet (fun _ => (0, 0)) w.on i (o.1 + onT, o.2 + 1) } }
    else s
  | none => s

/-- What a phase's own reload tells the engine: how its last pulse ended (R360), and the pulse for the cross-check; the base stands
for the threshold of a pulse ended by CTMAX (R361). -/
def State.bcCollect (s : State) (n : Nat) : State :=
  s.each (List.range 8) (fun k t =>
    if decide (1 ≤ t.bcState k ∧ t.bcState k ≤ 3) && (t.bcLegs k).contains n then
      let b := t.bc k
      let i := n - t.bcLead k
      let x := t.bch n
      match x.endPrev with
      | 1 => (t.setBc k { b with endCmp := b.endCmp ||| 2 ^ i }).xPulse k i x.endThr x.onT
      | 2 => (t.setBc k { b with endCt := b.endCt ||| 2 ^ i }).xPulse k i (t.get (R.CMP_DAC_ACT (2 * n))) x.onT
      | _ => t
    else t)

/-- The cross-check at a lead reload: a window starts, goes on, or ends after XWIN lead periods; it counts only with ICMD at or above
XMIN throughout and no condition at ISRC (R361, R373). -/
def State.xReload (s : State) (k : Nat) : State :=
  if s.on (R.BOOST_BC_XCHK_XEN k) then
    let b := s.bc k
    let bad := decide (s.get (R.BOOST_BC_ICMD_ICMD k) < s.get (R.BOOST_BC_XMIN_XMIN k)) || s.mppInputBad (s.get (R.BOOST_BC_XCHK_ISRC k))
    let new : XWin := ⟨0, bad, 0, (0, 0), []⟩
    match b.win with
    | some w =>
      if max 1 (s.get (R.BOOST_BC_XCHK_XWIN k)) ≤ w.n + 1 then
        s.setBc k { b with win := some new, done := some { w with n := w.n + 1, bad := w.bad || bad } }
      else s.setBc k { b with win := some { w with n := w.n + 1, bad := w.bad || bad } }
    | none => s.setBc k { b with win := some new }
  else s

/-- ICMD has been written: below XMIN the running window does not count (R361). -/
def State.xIcmd (s : State) (k : Nat) : State :=
  match (s.bc k).win with
  | some w =>
    if s.get (R.BOOST_BC_ICMD_ICMD k) < s.get (R.BOOST_BC_XMIN_XMIN k) then s.setBc k { s.bc k with win := some { w with bad := true } } else s
  | none => s

/-- The count toward OPENN over the lead period that has ended (R360). -/
def State.bcOpenCount (s : State) (k : Nat) : State :=
  let b := s.bc k
  let cond := (s.bcActs k).filter (fun i => s.bcWeight k i = 64)
  let all := !cond.isEmpty && cond.all (fun i => b.endCt.testBit i)
  let s := if all then s.raise (R.BOOST_BC_STAT_ALLCT k) else s
  let run := cond.foldl (fun t i =>
    if b.endCmp.testBit i then tblSet (fun _ => 0) t i 0
    else if b.endCt.testBit i && !all && cond.any (fun j => j ≠ i && b.endCmp.testBit j) then
      tblSet (fun _ => 0) t i (tblGet (fun _ => 0) t i + 1)
    else t) b.ctRun
  s.setBc k { b with ctRun := run, endCmp := 0, endCt := 0 }

/-- The engine's work at a lead reload (R350 to R357). -/
def State.bcReload (s : State) (k : Nat) : State :=
  let s := (s.bcOpenCount k).xReload k
  let icmd := s.get (R.BOOST_BC_ICMD_ICMD k)
  let b := s.bc k
  let n := (s.bcActs k).length
  -- the shed: abort, its last step, or the next one (R353 to R355)
  let jump := decide (b.prevIcmd + s.get (R.BOOST_BC_STEP_STEPTH k) < icmd)
  let total := ((List.range (s.bcNph k)).map (s.bcWeight k)).sum
  let full := (s.bcActs k).any (fun i => s.conducts k i && decide (b.shed ≠ some i) &&
    decide (b.iple ≤ bcShare icmd (s.bcWeight k i) total))
  let shedding := decide (s.bcState k = 2)
  let abort := shedding && (jump || full)
  let s :=
    if shedding && !abort then
      if b.shedJ < b.shedN then s.setBc k { b with shedJ := b.shedJ + 1 } else s.setBc k { b with shedDue := true }
    else s
  let lift := if abort then b.shed else b.lift
  let s := s.bcBases k (fun i => if lift = some i then 64 else s.bcWeight k i) lift
  let s := if abort then s.bcAbort k none else s.setBc k { s.bc k with lift := none }
  -- conditions of R354, in RUN only
  let sh := s.on (R.BOOST_BC_CFG_SHEN k) && decide (s.get (R.BOOST_BC_CFG_NMIN k) < n ∧ 1 < n) &&
    decide (icmd / (n - 1) ≤ s.get (R.BOOST_BC_SHED_SHEDTH k))
  let ad := decide (n < (s.bcOk k).length) && decide (0 < n) && decide (s.get (R.BOOST_BC_SHED_ADDTH k) < icmd / n)
  let b := s.bc k
  let run := decide (s.bcState k = 1) && !abort
  let s := s.setBc k { b with
    shCnt := if run && sh then b.shCnt + 1 else 0, adCnt := if run && ad then b.adCnt + 1 else 0, prevIcmd := icmd }
  -- a refused enable of an added phase is tried again (R356)
  let s := match (s.bc k).add with
    | some i => if s.get (R.BATTEN_CH_STAT_STATE (s.bcLead k + i)) = 0 then s.bcStartPhase k i else s
    | none => s
  let s := s.each (List.range (s.bcNph k)) (fun i t => t.bcCmp k i)
  let s := if (s.bc k).respace then s.bcRespace k else s
  s.bcRefresh k

/-- The engine's part of a reload of channel n. -/
def State.bcOnReload (s : State) (n : Nat) : State :=
  let s := s.bcCollect n
  s.each (List.range 8) (fun k t =>
    if decide (1 ≤ t.bcState k ∧ t.bcState k ≤ 3) && decide (t.bcLead k = n) then t.bcReload k else t)

/-- The shed condition has held for SHT lead reloads (R354). -/
def State.shedStart (s : State) (k : Nat) : State :=
  let b := s.bc k
  if decide (s.bcState k = 1) && decide (max 1 (s.get (R.BOOST_BC_SHTM_SHT k)) ≤ b.shCnt) then
    match (s.bcActs k).getLast? with
    | some i =>
      let s := s.setBc k { b with shed := some i, shedJ := 1, shedN := max 1 (s.get (R.BOOST_BC_SHTM_SHDN k)), shedDue := false }
      let s := (s.bcEnter k 2).bcRefresh k
      s.bcBases k (s.bcWeight k) none
    | none => s
  else s

/-- The last shed step has passed: the phase is disabled and the others re-spaced (R354, R357). -/
def State.shedComplete (s : State) (k : Nat) : State :=
  let b := s.bc k
  match b.shed with
  | some i =>
    if decide (s.bcState k = 2) && b.shedDue then
      let s := s.bcStopPhase k i
      let s := s.bcSetAct k ((s.bcActs k).filter (· ≠ i))
      (((s.bcQuiet k).bcEnter k 1).bcRespace k).bcRefresh k
    else s
  | none => s

/-- The add condition has held for ADT lead reloads (R356). -/
def State.addStart (s : State) (k : Nat) : State :=
  if decide (s.bcState k = 1) && decide (max 1 (s.get (R.BOOST_BC_SHTM_ADT k)) ≤ (s.bc k).adCnt) then s.bcAdd k else s

/-- The added phase is in RUN at a lead reload: it is counted and the others re-spaced (R356). -/
def State.addComplete (s : State) (k : Nat) : State :=
  match (s.bc k).add with
  | some i =>
    if decide (s.bcState k = 3) && decide (s.get (R.BATTEN_CH_STAT_STATE (s.bcLead k + i)) = 2) then
      (((s.bcQuiet k).bcEnter k 1).bcRespace k).bcRefresh k
    else s
  | none => s

/-- A phase has failed open (R360). -/
def State.phaseOpen (s : State) (k i : Nat) : State :=
  if decide (1 ≤ s.bcState k ∧ s.bcState k ≤ 3) && s.bcActive k i &&
      decide (max 1 (s.get (R.BOOST_BC_CFG_OPENN k)) ≤ tblGet (fun _ => 0) (s.bc k).ctRun i) then
    s.bcRemove k i (some (R.BOOST_BC_STAT_OPF k))
  else s

/-- The median of a list of numbers, doubled; the middle two count for an even length. -/
def median2 (l : List Nat) : Nat :=
  let t := l.insertionSort (· ≤ ·)
  let n := t.length
  if n = 0 then 0
  else if n % 2 = 1 then 2 * t.getD (n / 2) 0 else t.getD (n / 2 - 1) 0 + t.getD (n / 2) 0

/-- EST of a window and IDC differ by more than XTOL: EST is est / n, and M the mean of the MON outputs, for which the register
stands where the window had none (R361). -/
def State.xMismatch (s : State) (k : Nat) (w : XWin) : Bool :=
  let m := if w.mon.2 = 0 then (sextNat 16 (fieldOf (s.rd (R.MOD_MD_MON (s.get (R.BOOST_BC_XCHK_ISRC k)))) 31 16), 1) else w.mon
  let idc := m.1 * (s.get (R.BOOST_BC_XTOL_XGAIN k) : Int) / (256 * m.2 : Nat)
  decide (((s.get (R.BOOST_BC_XTOL_XTOL k) * w.n : Nat) : Int) < |w.est - idc * w.n|)

/-- The conducting phases of weight 64 whose mean on-time over a window lies more than TONDEV × P / 256 from the median (R361): the
means stand over one denominator. -/
def State.xFar (s : State) (k : Nat) (w : XWin) : List Nat :=
  let on := (List.range (s.bcNph k)).filterMap (fun i =>
    let o := tblGet (fun _ => (0, 0)) w.on i
    if s.bcWeight k i = 64 ∧ o.2 ≠ 0 then some (i, o) else none)
  let d := (on.map (·.2.2)).prod
  let means := on.map (fun x => (x.1, x.2.1 * (d / x.2.2)))
  let md := median2 (means.map (·.2))
  let lim := 2 * d * s.get (R.BOOST_BC_XCHK_TONDEV k) * s.ownPeriod (s.bcLead k)
  (means.filter (fun x => decide (lim < 256 * ((2 * x.2 - md) + (md - 2 * x.2))))).map (·.1)

/-- A cross-check window that has ended is judged (R361). -/
def State.crossCheck (s : State) (k : Nat) : State :=
  let b := s.bc k
  match b.done with
  | some w =>
    let s := s.setBc k { b with done := none }
    if s.on (R.BOOST_BC_XCHK_XEN k) && decide (1 ≤ s.bcState k ∧ s.bcState k ≤ 3) && !w.bad then
      if !s.xMismatch k w then s.setBc k { s.bc k with xMis := 0 }
      else if b.xMis + 1 < max 1 (s.get (R.BOOST_BC_XCHK_XN k)) then s.setBc k { s.bc k with xMis := b.xMis + 1 }
      else
        let s := s.setBc k { s.bc k with xMis := 0 }
        match s.xFar k w with
        | [i] => s.bcRemove k i (some (R.BOOST_BC_STAT_SNSF k))
        | _ => (s.raise (R.BOOST_BC_STAT_SNSF k)).bcFault k
    else s
  | none => s

/-- A FAIL bit is cleared only while EN = 0 (R364). -/
def State.failClear (s : State) (k mask : Nat) : State :=
  if s.on (R.BOOST_BC_CFG_EN k) then
    if s.get (R.BOOST_BC_PHSTAT_FAIL k) &&& mask = 0 then s else s.raise (R.BOOST_BC_STAT_WLE k)
  else
    let f := s.get (R.BOOST_BC_PHSTAT_FAIL k)
    (s.put (R.BOOST_BC_PHSTAT_FAIL k) (f - (f &&& mask))).bcRefresh k

/-- ICMD is written; a write that the reload has missed sets BND (R351). -/
def State.icmdWrite (s : State) (k : Nat) (v : Word) (late : Bool) : State :=
  let s := (s.put (R.BOOST_BC_ICMD_ICMD k) (v.toNat % 65536)).xIcmd k
  if late then s.raise (R.BOOST_BC_STAT_BND k) else s

/-! ### MPP engines (R365 to R369) -/

/-- Whether the engine refuses to start (R374). -/
def State.mppRefused (s : State) (k : Nat) : Bool :=
  let avg := s.get (R.BOOST_BC_MCFG_MAVG k)
  let t := s.get (R.BOOST_BC_MCFG_TMPP k)
  decide (avg = 0 ∨ t < avg ∨ t = 0) || decide (s.get (R.BOOST_BC_MCFG_NSC k) = 0) ||
  decide (23 < s.get (R.BOOST_BC_MCFG_VSRC k)) ||
  decide (s.getS (R.BOOST_BC_MVLIM_VMAX k) ≤ s.getS (R.BOOST_BC_MVLIM_VMIN k)) ||
  decide (s.getS (R.BOOST_BC_MSCAN_VSHI k) ≤ s.getS (R.BOOST_BC_MSCAN_VSLO k))

/-- MEN written 1 (R365, R374). -/
def State.mppEnable (s : State) (k : Nat) : State :=
  if s.mppRefused k then (s.raise (R.BOOST_BC_STAT_CFE k)).clear (R.BOOST_BC_MCFG_MEN k)
  else (s.raise (R.BOOST_BC_MCFG_MEN k)).mppStart k

/-- Whether a scan started less than SCMIN seconds ago (R368). -/
def State.scanSoon (s : State) (k : Nat) : Bool :=
  match (s.mpp k).lastScan with
  | some t => decide (s.upNs < t + s.get (R.BOOST_BC_MTRIG_SCMIN k) * 1000000000)
  | none => false

/-- SCPER has passed since the last scan started, or since the engine started where none has (R368). -/
def State.scanPeriodic (s : State) (k : Nat) : Bool :=
  let p := s.get (R.BOOST_BC_MTRIG_SCPER k)
  decide (p ≠ 0 ∧ (s.mpp k).lastScan.getD (s.mpp k).began + p * 10000000000 ≤ s.upNs)

/-- One step of perturb and observe (R366). -/
def State.mppStep (s : State) (k p : Nat) : State :=
  let x := s.mpp k
  let up := s.on (R.BOOST_BC_MSTAT_DIR k)
  let db := s.get (R.BOOST_BC_MSTEP_PDB k) * 2 ^ 12
  let rev := match x.prevP with
    | none => true
    | some q => decide (p ≤ q + db)
  let up := if x.clmp then true else if rev then !up else up
  let st : Int := s.get (R.BOOST_BC_MSTEP_MSTEP k)
  let lo := s.getS (R.BOOST_BC_MVLIM_VMIN k)
  let hi := s.getS (R.BOOST_BC_MVLIM_VMAX k)
  let v := clampInt lo hi (s.mppVref k + if up then st else -st)
  let up := if v = lo ∨ v = hi then !up else up
  ((s.putS (R.BOOST_BC_MREF_VREF k) v).putB (R.BOOST_BC_MSTAT_DIR k) up).setMpp k { x with prevP := some p }

/-- One point of a scan has been taken (R369). -/
def State.scanTake (s : State) (k i : Nat) (v ix : Nat) (p : Option Nat) : State :=
  let x := s.mpp k
  let nsc := s.get (R.BOOST_BC_MCFG_NSC k)
  let s := s.wr (R.BOOST_BC_MTAB k i) (if p.isSome then BitVec.ofNat 32 (v * 65536 + ix) else 0)
  let best := match p, x.best with
    | some q, some (b, j) => if b < q then some (q, i) else some (b, j)
    | some q, none => some (q, i)
    | none, b => b
  if i < nsc then
    (s.setMpp k { x with scan := some (i + 1), best := best }).putS (R.BOOST_BC_MREF_VREF k) (s.scanPoint k (i + 1))
  else
    let s := s.clear (R.BOOST_BC_MSTAT_SCN k)
    let s := match best with
      | some (q, j) => ((s.putS (R.BOOST_BC_MREF_VREF k) (s.scanPoint k j)).put (R.BOOST_BC_MSTAT_BEST k) j).setMpp k { x with
          scan := none, best := none, prevP := some q }
      | none => (s.putS (R.BOOST_BC_MREF_VREF k) x.before).setMpp k { x with scan := none, best := none }
    ((s.clear (R.BOOST_BC_MSTAT_DIR k)).raise (R.BOOST_BC_MSTAT_SCDN k)).postFlag 9 (R.BOOST_BC_MSTAT_SCDN k) 12 k

/-- The reference word in the data memory of RCORE, as one 64-bit write (R367). It is refused while a gate is closed,
and never reaches a descriptor or a context block (R337). -/
def State.writeRefWord (s : State) (core off lo hi : Nat) : State :=
  let a := rcData core + off
  let blocks := (List.range 32).any (fun j =>
    let c := 32 * core + j
    s.isCfg c && overlaps (off, 8) (s.blockArea c))
  if s.pdOpen (pdOfRc core) && s.pdOpen 12 && decide (off + 8 ≤ 0x7C000) && !blocks then
    s.putWords a [BitVec.ofNat 32 lo, BitVec.ofNat 32 hi]
  else s

/-- The mean of MON outputs: the spec states no rounding and no mean of none, which the draw `c` gives. -/
def monMean (acc : Int × Nat) (c : Nat) : BitVec 16 :=
  if acc.2 = 0 then (Config.freeWord c).setWidth 16
  else BitVec.ofInt 16 (acc.1 / acc.2 + if acc.1 % acc.2 = 0 then 0 else (Config.freeNat c % 2 : Nat))

/-- TMPP has passed since the running interval started. -/
def State.mppDue (s : State) (k : Nat) : Bool :=
  (s.mpp k).on && decide ((s.mpp k).t0 + 1000000 * s.get (R.BOOST_BC_MCFG_TMPP k) ≤ s.upNs)

/-- An interval ends: V and I are the means of the MON outputs of VSRC and ISRC over its last MAVG ms (R365 to R369). -/
def State.mppInterval (s : State) (k : Nat) : State :=
  if !s.mppDue k then s
  else
    let x := s.mpp k
    let v := monMean x.vAcc s.freeCtr
    let i := monMean x.iAcc (s.freeCtr + 1)
    let bad := x.inv || s.mppBadNow k
    let p := (v.toInt * i.toInt).toNat
    let x := { x with
      t0 := x.t0 + 1000000 * s.get (R.BOOST_BC_MCFG_TMPP k), vAcc := (0, 0), iAcc := (0, 0), inv := s.mppBadNow k }
    let s := (s.setMpp k x).drawn.drawn
    let s := if bad then s.raise (R.BOOST_BC_MSTAT_INV k) else s.wr (R.BOOST_BC_MPWR k) (BitVec.ofNat 32 p)
    let drop := match x.prevP, s.get (R.BOOST_BC_MTRIG_SCTRIG k) with
      | some q, t => decide (t ≠ 0 ∧ p < q - q * t / 256) && !bad
      | none, _ => false
    let s := match x.scan with
      | some j =>
        let t := s.scanTake k j v.toNat i.toNat (if bad then none else some p)
        t.setMpp k { t.mpp k with req := false }
      | none =>
        let s := if bad then s else s.mppStep k p
        if x.req || drop || s.scanPeriodic k then
          if s.scanSoon k then (s.raise (R.BOOST_BC_MSTAT_SCDF k)).setMpp k { s.mpp k with req := false, held := true }
          else s.scanStart k
        else s
    let s := s.bump (R.BOOST_BC_MREF_SEQ k)
    let s := if s.on (R.BOOST_BC_MADDR_WEN k) then
        s.writeRefWord (s.get (R.BOOST_BC_MCFG_RCORE k)) (s.get (R.BOOST_BC_MADDR_ADDR k) * 8)
          (s.get (R.BOOST_BC_MREF_VREF k) * 65536)
          (s.get (R.BOOST_BC_MREF_SEQ k) + 65536 * s.get (R.BOOST_BC_MSTAT_SCN k) + 131072 * s.get (R.BOOST_BC_STAT_DRT k) +
            262144 * x.clmp.toNat)
      else s
    s.setMpp k { s.mpp k with clmp := false }

/-- GO requests a scan; during a scan it is discarded (R368). -/
def State.scanGo (s : State) (k : Nat) : State :=
  if (s.mpp k).on && (s.mpp k).scan.isNone then s.setMpp k { s.mpp k with req := true } else s

/-- SCMIN has passed: a held trigger is released (R368). -/
def State.scminEnd (s : State) (k : Nat) : State :=
  if (s.mpp k).held && !s.scanSoon k then s.setMpp k { s.mpp k with held := false, req := true } else s

end Sys2Proof.Machine
end

