-- ==== Sys2Proof/Machine/Policy.lean ====
section
/-!
DEFINITION. Feedback lost or frozen (R168 to R171): the flag of a context, its policy, and the records of both.
-/

namespace Sys2Proof.Machine

/-- A policy record (R170): code 0x10, context number and status in the payload. -/
def State.fbRecord (s : State) (c : Nat) : State :=
  s.postPlain 4 (pdOfRc (coreOf c)) c (s.rd (R.RAFTER_CTX_STAT c))

/-- Disable every bound channel, with all that a software disable does (R171, R219, R362). -/
def State.disableBound (s : State) (c : Nat) : State := State.bcLeft s ((s.boundChans c).foldl (fun t ch => t.chDisable ch) s)

/-- A bound modulator input reports a condition of R278. -/
def State.boundInputBad (s : State) (c : Nat) : Bool :=
  (List.range (s.ncomp c)).any (fun k =>
    let w := s.samp c k
    let n := fieldOf w 29 24
    decide (fieldOf w 31 30 = 0) && (s.on (R.MOD_MD_STAT_DCKL n) || s.on (R.MOD_MD_STAT_STKL n) || s.on (R.MOD_MD_STAT_FRZL n)))

/-- The feedback flag of a configured context is raised; a report while it is set breaks the run of good vectors (R168, R170). -/
def State.fbRaise (s : State) (c : Nat) : State :=
  if s.isCfg c then
    let s := s.setCtx c { s.ctx c with good := 0, waits := (s.ctx c).waits.map (fun a => { a with rep := true }) }
    if s.fbl c then s
    else
      let s := (s.raise (R.RAFTER_CTX_STAT_FBL c)).raise (R.RAFTER_CTX_STAT_FBEV c)
      let s := s.setCtx c { s.ctx c with fbCount := 0 }
      let s := if s.isRunning c && decide ((s.core (coreOf c)).region = .spec) then s.rollback (coreOf c) 5 else s
      if s.get (R.RAFTER_CTX_STAT_FBP c) = 0 then
        match s.fbpol c with
        | 0 => ((s.openAtOnce c).put (R.RAFTER_CTX_STAT_FBP c) 1).fbRecord c
        | 1 => (((s.openAtOnce c).disableBound c).put (R.RAFTER_CTX_STAT_FBP c) 2).fbRecord c
        | _ => (s.put (R.RAFTER_CTX_STAT_FBP c) 3).fbRecord c
      else s
  else s

/-- The flag clears (R168, R170). -/
def State.fbClear (s : State) (c : Nat) : State :=
  if s.fbl c then
    let s := s.clear (R.RAFTER_CTX_STAT_FBL c)
    let s := s.setCtx c { s.ctx c with good := 0, fbCount := 0 }
    if s.get (R.RAFTER_CTX_STAT_FBP c) = 0 then s else (s.clear (R.RAFTER_CTX_STAT_FBP c)).fbRecord c
  else s

/-- The HOLDN-th dispatch event under the flag (R170). -/
def State.holdnReached (s : State) (c : Nat) : State :=
  if s.fbl c && decide (s.holdn c ≤ (s.ctx c).fbCount) then
    match s.get (R.RAFTER_CTX_STAT_FBP c) with
    | 1 => ((s.disableBound c).put (R.RAFTER_CTX_STAT_FBP c) 2).fbRecord c
    | 3 => (((s.openAtOnce c).disableBound c).put (R.RAFTER_CTX_STAT_FBP c) 2).fbRecord c
    | _ => s
  else s

/-! ### Reports of the input detectors (R279) -/

/-- The live flags of a detector. -/
def State.liveFlags (s : State) (n : Nat) : Nat := s.get ⟨R.MOD_MD_STAT n, 10, 8⟩

/-- A context binds a modulator input. -/
def State.bindsMd (s : State) (c n : Nat) : Bool :=
  (List.range (s.ncomp c)).any (fun k => decide (fieldOf (s.samp c k) 31 30 = 0) && decide (fieldOf (s.samp c k) 29 24 = n))

/-- The live flags that have been set since `s` are on their way to every configured context that binds the input (R279). -/
def State.noteReports (s t : State) : State :=
  let ns := (List.range 24).filter (fun n => decide (t.liveFlags n &&& (7 - s.liveFlags n) ≠ 0))
  if ns.isEmpty then t
  else
    let cs := t.cfgd.filter (fun c => ns.any (t.bindsMd c) && !t.fbDue.contains c)
    { t with fbDue := t.fbDue ++ cs }

/-- The reports on their way reach a context (R168, R279). -/
def State.fbReport (s : State) (c : Nat) : State :=
  if s.isCfg c && (s.fbDue.contains c || s.boundInputBad c) then
    ({ s with fbDue := s.fbDue.filter (· ≠ c) } : State).fbRaise c
  else s

end Sys2Proof.Machine
end

