-- ==== Sys2Proof/Machine/Clocks.lean ====
section
/-!
DEFINITION. Clock synthesis and the time base (R457 to R488).
-/

namespace Sys2Proof.Machine

/-! ### Synthesizers (R457 to R471) -/

/-- The islands that a synthesizer feeds (R457). -/
def synIslands (n : Nat) : List Nat :=
  match n with
  | 0 => [4, 5, 6, 7, 8, 9, 10, 11]
  | 1 => [12]
  | 2 => [14]
  | _ => [3, 13, 15]

/-- The synthesizer that feeds an island. -/
def synOf (pd : Nat) : Nat :=
  if 4 ≤ pd ∧ pd ≤ 11 then 0 else if pd = 12 then 1 else if pd = 14 then 2 else 3

/-- BYP of a synthesizer. -/
def State.bypassed (s : State) (n : Nat) : Bool := s.on (R.CLK_SYN_STAT_BYP n)

/-- TSYN falls: SYNL is set and a record posted (R476). -/
def State.tsynFall (s : State) : State :=
  if s.on R.TIME_STAT_TSYN then (s.clear R.TIME_STAT_TSYN).flagPost 3 R.TIME_STAT_SYNL 3 0 else s

/-- Show which islands run on BYPCLK; the cycles counted before the switch stand (R487, R561). -/
def State.markByp (s : State) (n : Nat) (b : Bool) : State :=
  let s := if n = 1 then s.noteTicks else if n = 3 then s.noteRamps else s
  s.each (synIslands n) (fun k t => (t.putB ⟨R.CLK_ISL, k - 3, k - 3⟩ b).putB (R.SYSCTL_PD_BYP k) b)

/-- INH on every output bound to an island that a synthesizer feeds, while it is bypassed (R224, R465). -/
def State.bypassInhibit (s : State) (n : Nat) : State :=
  s.each (synIslands n) (fun k t => (t.boundTo k).foldl (fun u c => u.inhibit (16 + n) c) t)

/-- The consumers of a synthesizer switch to BYPCLK, with INH on every bound output (R465). -/
def State.toBypass (s : State) (n : Nat) : State :=
  if s.bypassed n then s
  else
    let s := ((s.raise (R.CLK_SYN_STAT_BYP n)).bumpSat (R.CLK_SYN_STAT_BYPCNT n)).markByp n true
    let s := s.setSyn n { s.syn n with resumeHeld := false }
    let s := if n = 3 then
        let s := (s.raise R.TIME_STAT_BYPT).tsynFall
        if s.on R.HADC_STAT_BUSY then { s with hadc := { s.hadc with byp := true } } else s
      else s
    s.bypassInhibit n

/-- The consumers return to the synthesizer; its reason for INH ends (R466). -/
def State.fromBypass (s : State) (n : Nat) : State :=
  let s := (s.clear (R.CLK_SYN_STAT_BYP n)).markByp n false
  let s := s.setSyn n { s.syn n with resumeHeld := false }
  let s := if n = 3 then s.clear R.TIME_STAT_BYPT else s
  s.uninhibitAll (16 + n)

/-- Acquisition restarts: neither locked nor stable. -/
def State.unlock (s : State) (n : Nat) : State := (s.clear (R.CLK_SYN_STAT_LOCK n)).clear (R.CLK_SYN_STAT_STABLE n)

/-- A loss of reference or lock at one synthesizer (R464 to R466). -/
def State.synLoss (s : State) (n : Nat) (flag : Ref) (ref : Bool) : State :=
  let was := s.bypassed n
  let s := (s.raise flag).toBypass n
  let s := if was then s else s.postFlag 2 flag 3 n
  let s := s.unlock n
  if ref then s.setSyn n { s.syn n with waitRef := true } else s

/-- The synthesizers on a reference: LREFCLK feeds SYN2 under REFSEL, REFCLK the others (R457). -/
def State.refUsers (s : State) (lref : Bool) : List Nat :=
  if lref then (if s.on (R.CLK_SYN_CFG_REFSEL 2) then [2] else [])
  else if s.on (R.CLK_SYN_CFG_REFSEL 2) then [0, 1, 3] else [0, 1, 2, 3]

/-- Loss of a reference (R464). -/
def State.refLoss (s : State) (lref : Bool) : State :=
  let s := if lref then s else s.clear R.CLK_BYP_VLD
  let s := s.each (s.refUsers lref) (fun n t => t.synLoss n (R.CLK_SYN_STAT_LOR n) true)
  if lref then s else s.tsynFall

/-- Loss of lock (R464). -/
def State.lockLoss (s : State) (n : Nat) : State := s.synLoss n (R.CLK_SYN_STAT_LOL n) false

/-- The reference has been back for 10 µs: acquisition restarts (R466). -/
def State.refReturn (s : State) (lref : Bool) : State :=
  s.each (s.refUsers lref) (fun n t => t.setSyn n { t.syn n with waitRef := false })

/-- Lock (R462). -/
def State.synLock (s : State) (n : Nat) : State :=
  if s.on (R.CLK_SYN_CFG_EN n) && !(s.syn n).waitRef && !s.on (R.CLK_SYN_STAT_LOCK n) then
    (s.raise (R.CLK_SYN_STAT_LOCK n)).startTimer (.locked n)
  else s

/-- The selected reference of a synthesizer in 10 kHz units. -/
def State.fref (s : State) (n : Nat) : Nat :=
  if n = 2 ∧ s.on (R.CLK_SYN_CFG_REFSEL 2) then 15625 else s.get R.CLK_REF_NOM

/-- LOCK has stood for 1024 cycles of the selected reference (R462). -/
def State.lockStood (s : State) (n : Nat) : Bool :=
  s.on (R.CLK_SYN_STAT_LOCK n) && s.past (.locked n) (1024 * 100000 / s.fref n)

/-- Stable after 1024 reference cycles of lock: consumers return under R466, R467 or R470. -/
def State.synStable (s : State) (n : Nat) : State :=
  if s.lockStood n then
    let s := s.raise (R.CLK_SYN_STAT_STABLE n)
    let held := s.on (R.CLK_SYN_STAT_FBH n)
    if s.on (R.CLK_SYN_STAT_UPDP n) then
      let x := s.syn n
      let s := s.clear (R.CLK_SYN_STAT_UPDP n)
      let s := if s.bypassed n && !held then s.fromBypass n else s
      s.post 0x0210 3 (bytesLE 2 x.oldN ++ bytesLE 2 (s.get ⟨R.CLK_SYN_ADIV n, 9, 0⟩) ++ bytesLE 4 x.oldF ++ bytesLE 4 x.frac)
    else if s.bypassed n && !held && (s.on (R.CLK_SYN_CFG_AUTORES n) || (s.syn n).resumeHeld) then
      let s := s.fromBypass n
      s.postPlain 2 3 n (s.rd (R.CLK_SYN_STAT n))
    else s
  else s

/-- FBYP: consumers go to BYPCLK and stay until RESUME (R467). -/
def State.forceBypass (s : State) (n : Nat) : State :=
  let was := s.bypassed n
  let s := (s.toBypass n).raise (R.CLK_SYN_STAT_FBH n)
  let s := s.setSyn n { s.syn n with resumeHeld := false }
  if was then s else s.postFlag 2 (R.CLK_SYN_STAT_BYP n) 3 n

/-- RESUME: consumers return when the synthesizer is stable, at once or later (R467). -/
def State.resume (s : State) (n : Nat) : State :=
  let s := s.clear (R.CLK_SYN_STAT_FBH n)
  if !s.bypassed n then s
  else if s.on (R.CLK_SYN_STAT_STABLE n) then
    let s := s.fromBypass n
    s.postPlain 2 3 n (s.rd (R.CLK_SYN_STAT n))
  else s.setSyn n { s.syn n with resumeHeld := true }

/-- Twice the output frequency etc. are compared without division: whether shadow dividers keep the limits of R457, R460
and R469, in units of 10 kHz. -/
def dividersOk (n fref rdiv nDiv f odiv : Nat) : Bool :=
  let m := nDiv * 2 ^ 24 + f
  let rated := if n = 2 then 31875 else if n = 3 then 102000 else 81600
  decide (1000 * rdiv ≤ fref ∧ fref ≤ 10000 * rdiv) && decide (40 ≤ nDiv ∧ nDiv ≤ 640) && decide (4 ≤ odiv ∧ odiv ≤ 32) &&
  decide (400000 * rdiv * 2 ^ 24 ≤ fref * m ∧ fref * m ≤ 640000 * rdiv * 2 ^ 24) &&
  decide (fref * m ≤ rated * odiv * rdiv * 2 ^ 24) &&
  (decide (n ≠ 3) || decide (99990 * odiv * rdiv * 2 ^ 24 ≤ fref * m ∧ fref * m ≤ 100010 * odiv * rdiv * 2 ^ 24))

/-- The seed as loaded (R461). -/
def seedOf (v : Nat) : BitVec 24 := if v = 0 then 1 else BitVec.ofNat 24 v

/-- UPD: refused, or the shadow dividers are applied (R469, R470). -/
def State.update (s : State) (n : Nat) : State :=
  let d := s.rd (R.CLK_SYN_DIV n)
  let f := s.get (R.CLK_SYN_FRAC_F n)
  if s.on (R.CLK_SYN_STAT_UPDP n) ||
      !dividersOk n (s.fref n) (fieldOf d 30 28 + 1) (fieldOf d 9 0) f (fieldOf d 25 20) then s.raise (R.CLK_SYN_STAT_CFE n)
  else
    let oldN := s.get ⟨R.CLK_SYN_ADIV n, 9, 0⟩
    let oldF := (s.syn n).frac
    let s := (s.toBypass n).raise (R.CLK_SYN_STAT_UPDP n)
    let s := ((s.wr (R.CLK_SYN_ADIV n) d).unlock n).startTimer (.updated n)
    s.setSyn n { s.syn n with oldN := oldN, oldF := oldF, frac := f, lfsr := seedOf (s.get (R.CLK_SYN_DITH_SEED n)) }

/-- Not stable 5 ms after the dividers changed (R470). -/
def State.updateTimeout (s : State) (n : Nat) : State :=
  if s.on (R.CLK_SYN_STAT_UPDP n) && !s.on (R.CLK_SYN_STAT_STABLE n) && s.past (.updated n) 5000000 then
    (s.clear (R.CLK_SYN_STAT_UPDP n)).flagPost 2 (R.CLK_SYN_STAT_TMO n) 3 n
  else s

/-- REFCLK has been lost and has not returned: SYN0 uses it always (R457, R464). -/
def State.refLost (s : State) : Bool := (s.syn 0).waitRef

/-- BYPCLK and REFCLK have been measured against each other, while REFCLK is present (R459, R487). -/
def State.bypMeasure (s : State) (byp ref : Nat) : State :=
  if s.refLost then s else ((s.put R.CLK_BYP_MEAS byp).raise R.CLK_BYP_VLD).put R.CLK_REF_MEAS ref

/-- A measured REFCLK differs from NOM by more than 2 % (R464). -/
def State.refOff (s : State) (ref : Nat) : Bool :=
  decide (2 * s.get R.CLK_REF_NOM < 100 * (((ref : Int) - s.get R.CLK_REF_NOM).natAbs))

/-- SYN2 has been given its other reference: it waits for REFCLK where that is lost, and its monitor judges LREFCLK anew (R457,
R464). -/
def State.refSelected (s : State) : State :=
  if !s.on (R.CLK_SYN_CFG_REFSEL 2) && s.refLost then s.synLoss 2 (R.CLK_SYN_STAT_LOR 2) true
  else s.setSyn 2 { s.syn 2 with waitRef := false }

/-! ### The modulator (R461) -/

/-- The next value of the dither register: x^24 + x^23 + x^22 + x^17 + 1 (R461). -/
def nextDither (r : BitVec 24) : BitVec 24 :=
  (r <<< 1) ||| BitVec.ofNat 24 ((r.getLsbD 23 ^^ r.getLsbD 22 ^^ r.getLsbD 21 ^^ r.getLsbD 16).toNat)

/-- A phase-detector cycle of the modulator with a dither of `d`: three accumulators in cascade, each carry differenced once more
than the one before it, which takes the divider to N - 3 to N + 4 (R461). -/
def SynSt.cycle (x : SynSt) (d : Int) : SynSt :=
  let a := (x.acc.1 : Int) + x.frac + d
  let b := (x.acc.2.1 : Int) + a % 2 ^ 24
  let c := (x.acc.2.2 : Int) + b % 2 ^ 24
  { x with lfsr := nextDither x.lfsr, acc := ((a % 2 ^ 24).toNat, (b % 2 ^ 24).toNat, (c % 2 ^ 24).toNat),
           carry := (b / 2 ^ 24, c / 2 ^ 24, x.carry.2.1),
           ofs := clampInt (-3) 4 (a / 2 ^ 24 + (b / 2 ^ 24 - x.carry.1) + (c / 2 ^ 24 - 2 * x.carry.2.1 + x.carry.2.2)) }

/-- So many phase-detector cycles (R461). -/
def SynSt.cycles (den : Bool) : Nat → SynSt → SynSt
  | 0, x => x
  | k + 1, x => SynSt.cycles den k (x.cycle (if den then clampInt (-1) 1 (Config.dither (x.lfsr.getLsbD 23)) else 0))

/-- The time base's cycle passes at a synthesizer: the phase-detector cycles that end in it (R460, R461). -/
def State.synRuns (s : State) (ns n : Nat) : State :=
  let x := s.syn n
  if s.on (R.CLK_SYN_CFG_EN n) && !x.waitRef then
    let t := x.phase + ns * s.fref n
    let cyc := 100000 * (s.get ⟨R.CLK_SYN_ADIV n, 30, 28⟩ + 1)
    s.setSyn n (SynSt.cycles (s.on (R.CLK_SYN_DITH_DEN n)) (t / cyc) { x with phase := t % cyc })
  else s

/-- EN becomes 1: the dither register takes its seed (R461). -/
def State.synEnabled (s : State) (n : Nat) : State :=
  s.setSyn n { s.syn n with lfsr := seedOf (s.get (R.CLK_SYN_DITH_SEED n)) }

/-! ### The time base (R472 to R478) -/

/-- ADJ as applied (R472). -/
def State.adjApplied (s : State) : Int := clampInt (-4294967) 4294967 (s.rd R.TIME_ADJ).toInt

/-- What one clock cycle adds, in units of 2^-32 ns (R472, R473). -/
def State.timeInc (s : State) : Nat :=
  if s.on R.TIME_STAT_BYPT then
    let meas := s.get R.CLK_BYP_MEAS
    let p := if meas = 0 then 10 * 65536 else 100000 * 65536 / meas
    ((p : Int) * 65536 + (p : Int) * s.adjApplied / 65536).toNat
  else (2 ^ 32 + s.adjApplied).toNat

/-- The time after an addition of units of 2^-32 ns. -/
def addTime (t : TimeSt) (inc : Nat) : TimeSt :=
  let f := t.frac + inc
  let ns := t.ns + f / 2 ^ 32
  { t with frac := f % 2 ^ 32, ns := ns % 1000000000, sec := (t.sec + ns / 1000000000) % 2 ^ 48 }

/-- One cycle of the time base; it stands still while PD3 does not run (R472, R650). -/
def State.timeTick (s : State) : State := if s.pdRun 3 then { s with time := addTime s.time s.timeInc } else s

/-- Nanoseconds of one cycle of the time base. -/
def State.cycleNs (s : State) : Nat := if s.on R.TIME_STAT_BYPT then 10 else 1

/-- ADJ has been written: ADJL shows a value outside the bound (R472). -/
def State.adjWritten (s : State) : State :=
  if s.adjApplied = (s.rd R.TIME_ADJ).toInt then s else s.raise R.TIME_STAT_ADJL

/-- A step of the time base by an offset in nanoseconds: what PD3 does (R475). Ticks, ramps and timers go on counting their own
time. -/
def State.stepTime (s : State) (ofs : Int) : State :=
  let t := ((s.nowNs : Int) + ofs) % ((2 ^ 48 * 1000000000 : Nat) : Int)
  let s := s.noteTicks
  let s := { s with time := { s.time with
    sec := t.toNat / 1000000000, ns := t.toNat % 1000000000 } }
  s.resumeTicks

/-- The signed 64-bit offset of STEPL and STEPH. -/
def State.stepOffset (s : State) : Int := sextNat 64 ((s.rd R.TIME_STEPL).toNat + 2 ^ 32 * (s.rd R.TIME_STEPH).toNat)

/-- UNACQ (R475). -/
def State.unacquire (s : State) : State :=
  let s := (s.clear R.TIME_STAT_TSTATE).tsynFall
  s.postPlain 3 3 0 (s.rd R.TIME_STAT)

/-- SYNC = 1 (R476). -/
def State.syncTime (s : State) : State :=
  if s.on R.TIME_STAT_TSTATE && !s.on R.TIME_STAT_BYPT then (s.raise R.TIME_STAT_TSYN).startTimer .synced else s

/-- No further SYNC = 1 for HOLD seconds, 0 applied as 1 (R476, R488). -/
def State.holdOver (s : State) : State :=
  if s.past .synced (max 1 (s.get R.TIME_CTRL_HOLD) * 1000000000) then s.tsynFall else s

/-- PD3 refreshes the followers of the islands that run (R478). -/
def State.refreshFollowers (s : State) : State :=
  { s with time := { s.time with lag := tblKeep (fun k => !s.pdRun k) s.time.lag } }

/-- What the time base shows in NOW_NS, SECL, SECH and LST (R488). -/
def State.nowReg (s : State) (a : Nat) : Word :=
  let t := s.time
  if a = R.TIME_NOW_NS then BitVec.ofNat 32 t.ns
  else if a = R.TIME_NOW_SECL then BitVec.ofNat 32 t.sec
  else if a = R.TIME_NOW_SECH then BitVec.ofNat 32 (t.frac / 65536 * 65536 + t.sec / 2 ^ 32)
  else s.stampL

end Sys2Proof.Machine
end

