-- ==== Sys2Proof/Machine/Eaves.lean ====
section
/-!
DEFINITION. PD0: the Eaves domain with its stores, seconds counter and MRAM bursts (R527 to R544), and the Thatch log
(R545 to R557).
-/

namespace Sys2Proof.Machine

/-! ### Stores and energy (R529 to R533, R540) -/

/-- The stores have been measured: VMEAS and OK45; at or below VSTART the harvester stops (R530, R532). -/
def State.storeSet (s : State) (vqs vls : Nat) : State :=
  let s := ((s.put R.EAVES_VMEAS_VQS vqs).put R.EAVES_VMEAS_VLS vls).putB R.EAVES_STAT_OK45 (decide (2000 ≤ vqs ∧ 1000 ≤ vls))
  if vqs ≤ 1900 then s.clear R.EAVES_STAT_HRUN else s

/-- CONT shows continuous references, forced or entered by a failed check (R533). -/
def State.contShow (s : State) : State := s.putB R.EAVES_STAT_CONT (s.eaves.cont || s.on R.EAVES_CFG_FCONT)

/-- The record of an entry into continuous references (R533, R550). -/
def State.refRecord (s : State) : State :=
  s.post 0x0006 0 [BitVec.ofNat 8 (s.get R.EAVES_STAT_RCF + 2 * s.get R.EAVES_STAT_HOT)]

/-- The 64 ms refresh (R530, R533): a difference above 2 % or more than 85 °C leads to continuous references, from which
16 good refreshes below 80 °C lead back. -/
def State.storeMeasure (s : State) (vqs vls : Nat) (refBad : Bool) (temp : Int) : State :=
  if s.eaves.on then
    let s := s.storeSet vqs vls
    let s := if refBad then s.raise R.EAVES_STAT_RCF else s
    let hot := decide (85 < temp)
    let s := s.putB R.EAVES_STAT_HOT hot
    let e := s.eaves
    if refBad || hot then
      let was := s.on R.EAVES_STAT_CONT
      let s := { s with eaves := { e with cont := true, passes := 0 } }
      let s := s.contShow
      if was then s else s.refRecord
    else
      let n := if temp < 80 then e.passes + 1 else 0
      let s := { s with eaves := { e with passes := min n 16, cont := e.cont && decide (n < 16) } }
      s.contShow
  else s

/-- FCONT and HEN have been written (R532, R533). -/
def State.fcontWritten (s : State) : State :=
  let was := s.on R.EAVES_STAT_CONT
  let s := (if s.on R.EAVES_CFG_HEN then s else s.clear R.EAVES_STAT_HRUN).contShow
  if s.on R.EAVES_STAT_CONT && !was then s.refRecord else s

/-- The HLS full voltage of VLSMAX in mV (R529). -/
def vlsMax (v : Nat) : Nat := match v with | 0 => 2300 | 1 => 2500 | 2 => 2700 | _ => 3000

/-- The harvester runs or stops as its source and the stores allow (R532). -/
def State.harvest (s : State) (hvin vmpp vqs vls : Nat) : State :=
  if s.eaves.on then
    let mx := vlsMax (s.get R.EAVES_CFG_VLSMAX)
    let full := if s.eaves.full then decide (2950 < vqs ∧ mx < vls + 50) else decide (3000 ≤ vqs ∧ mx ≤ vls)
    let src := if s.on R.EAVES_STAT_HRUN then decide (vmpp < hvin) else decide (vmpp + 10 < hvin)
    let s := { s with eaves := { s.eaves with full := full } }
    s.putB R.EAVES_STAT_HRUN (s.on R.EAVES_CFG_HEN && decide (1900 < vqs) && src && !full)
  else s

/-- EA ≥ EB for a burst of `words` words (R540), both sides in units of 1/20,000 nJ. -/
def State.energyOk (s : State) (words : Nat) : Bool :=
  let q := s.get R.EAVES_VMEAS_VQS
  let l := s.get R.EAVES_VMEAS_VLS
  let cq := max 100 (min 470 (s.get R.EAVES_STORE_QSC))
  let cl := max 100 (min 5000 (s.get R.EAVES_STORE_LSC))
  let eq := if q < 2000 then 0 else cq * (q * q - 2000 * 2000)
  let el := if l < 1000 then 0 else 8000 * cl * (l * l - 1000 * 1000)
  decide (20000 * (50 + words) ≤ eq + el)

/-- The stores are measured afresh for a burst while VIO33 is absent (R540). -/
def State.burstMeasure (s : State) (vqs vls : Nat) : State := if s.eaves.vio33 then s else s.storeSet vqs vls

/-- The number of a requester in a DEFER record (R550). -/
def reqNo : Requester → Nat
  | .thatch => 0 | .final => 1 | .software => 2 | .metering => 3 | .warden => 4 | .cfgset => 5

/-- A burst is deferred (R540). -/
def State.deferBurst (s : State) (req : Requester) (dst words : Nat) : State :=
  let s := (s.bumpSat R.EAVES_DEFCNT_CNT).raise R.EAVES_STAT_DEFF
  let minute := s.eaves.sec / 60
  if s.eaves.deferMin = some minute then s
  else ({ s with eaves := { s.eaves with deferMin := some minute } } : State).post 0x0009 0
    (bytesLE 4 (reqNo req) ++ bytesLE 4 dst ++ bytesLE 2 words)

/-! ### Bursts (R539 to R544) -/

/-- A requester may write this range (R539). -/
def destOk (req : Requester) (dst words : Nat) : Bool :=
  let within := fun lo hi => decide (lo ≤ dst ∧ dst + 4 * words ≤ hi)
  match req with
  | .thatch => within 0x00F00000 0x00F80000
  | .final => within 0x00FFF000 0x01000000
  | .software => within 0x00F80000 0x00FFF000
  | .metering => within 0x01000000 0x01040000
  | .warden => within 0x0107F000 0x01080000
  | .cfgset => within 0x01040000 0x0107F000

/-- A request enters the queue of the MRAM writer; while PD0 is off it is refused (R531). -/
def State.askBurst (s : State) (b : Burst) : State :=
  if s.eaves.on then { s with eaves := { s.eaves with reqs := s.eaves.reqs ++ [b] } } else s

/-- The words of a burst in the order written: ascending, the one at MARK last (R542). -/
def burstOrder (b : Burst) : List (Nat × Word) :=
  let l := b.words.zipIdx.map (fun x => (x.2, x.1))
  (l.filter (fun x => x.1 ≠ b.mark) ++ l.filter (fun x => x.1 = b.mark)).map (fun x => (b.dst + 4 * x.1, x.2))

/-- Write a list of words at their addresses. -/
def State.writeAt (s : State) : List (Nat × Word) → State
  | [] => s
  | (a, w) :: l => (s.setMemWord a w).writeAt l

/-- The status of a software burst (R544). -/
def State.swStatus (s : State) (code : Nat) : State := (s.clear R.EAVES_BSTAT_BUSY).put R.EAVES_BSTAT_CODE code

/-- A burst may start: a journal word whenever VQS ≥ VRES (R541), any other by its energy (R540). -/
def State.mayStart (s : State) (b : Burst) : Bool :=
  if b.req = .metering ∧ b.words.length = 1 then decide (2000 ≤ s.get R.EAVES_VMEAS_VQS) else s.energyOk b.words.length

/-- The MRAM writer takes the oldest request: it starts, or the requester receives a status (R539, R540). -/
def State.burstTake (s : State) (vqs vls : Nat) : State × Option (Burst × Nat) :=
  match s.eaves.on, s.eaves.burst, s.eaves.reqs with
  | true, none, b :: r =>
    let s := { s with eaves := { s.eaves with reqs := r } }
    if !destOk b.req b.dst b.words.length then (if b.req = .software then s.swStatus 0x05 else s, some (b, 0x05))
    else
      let s := s.burstMeasure vqs vls
      if s.mayStart b then ({ s with eaves := { s.eaves with burst := some b } }, none)
      else
        let s := s.deferBurst b.req b.dst b.words.length
        (if b.req = .software then s.swStatus 0x0A else s, some (b, 0x0A))
  | _, _, _ => (s, none)

/-- A burst ends: whole with OK, or with MFAIL at a word that cannot be verified, whose content is then open and whose
mark is not written (R542, R543). -/
def State.burstEnd (s : State) (fail : Option Nat) : State × Option (Burst × Nat) :=
  match s.eaves.burst with
  | none => (s, none)
  | some b =>
    let s := { s with eaves := { s.eaves with burst := none } }
    let l := burstOrder b
    match fail with
    | none =>
      let s := s.writeAt l
      (if b.req = .software then s.swStatus 0 else s, some (b, 0))
    | some f =>
      let k := if l.length ≤ f then l.length - 1 else f
      let s := s.writeAt (l.take k)
      let s := match l[k]? with
        | some (a, _) => (s.setMemWord a s.openWord).drawn
        | none => s
      let s := s.raise R.EAVES_STAT_MFL
      (if b.req = .software then s.swStatus 0x0C else s, some (b, 0x0C))

/-- GO of the software channel (R544). -/
def State.burstGo (s : State) : State :=
  if s.on R.EAVES_BSTAT_BUSY then s.put R.EAVES_BSTAT_CODE 0x0B
  else
    let len := s.get R.EAVES_BCTL_LENW
    let mark := s.get R.EAVES_BCTL_MARK
    let src := s.get R.EAVES_BSRC_ADDR * 4
    let dst := s.get R.EAVES_BDST_ADDR * 4
    if 512 < len then s.swStatus 0x03
    else if len = 0 ∨ len ≤ mark ∨ inSram src (4 * len) = false then s.swStatus 0x06
    else if !destOk .software dst len then s.swStatus 0x05
    else if !s.pdRun 3 then s.swStatus 0x04
    else
      let s := (s.raise R.EAVES_BSTAT_BUSY).put R.EAVES_BSTAT_CODE 0x0B
      s.askBurst ⟨.software, dst, s.memWords src len, mark⟩

/-! ### Seconds, supply loss, tamper and wake (R534 to R538) -/

/-- One tick of 32.768 kHz while PD3 is dark: every 2^20 ticks the count moves by TRIM as well (R534). -/
def State.slowTick (s : State) : State :=
  if s.eaves.on then
    let e := s.eaves
    let wrap := decide (e.ticks + 1 = 2 ^ 20)
    let t := ((e.sec * 32768 + e.sub : Nat) : Int) + 1 + (if wrap then s.getS R.EAVES_TRIM_TRIM else 0)
    let t := t.toNat % (2 ^ 48 * 32768)
    { s with eaves := { e with ticks := if wrap then 0 else e.ticks + 1, sec := t / 32768, sub := t % 32768 } }
  else s

/-- The top of a time-base second (R534). -/
def State.topOfSecond (s : State) : State :=
  if s.eaves.on && s.pdRun 3 then { s with eaves := { s.eaves with sec := s.time.sec, sub := 0 } } else s

/-- TRIM was set less than an hour ago (R534). -/
def State.trimmed (s : State) : Bool := (s.timerAt .hour).isSome && !s.past .hour 3600000000000

/-- TRIM from the ticks counted in an hour of the time base (R534). -/
def State.autoTrim (s : State) (ticks : Nat) : State :=
  if s.eaves.on && s.on R.EAVES_CFG_AUTOTRIM && s.on R.TIME_STAT_TSYN && decide (ticks ≠ 0) && !s.trimmed then
    let s := s.startTimer .hour
    let d : Int := 117964800 - (ticks : Int)
    s.putS R.EAVES_TRIM_TRIM (clampInt (-2048) 2047 ((2 * d * 2 ^ 20 + ticks) / (2 * ticks)))
  else s

/-- The words of MRAM at an address. -/
def State.mramWord (s : State) (a : Nat) : Word := s.memWord a

/-- A final checkpoint in a slot is valid (R536). -/
def State.ckptValid (s : State) (slot : Nat) : Bool :=
  decide (s.memWord (slot + 0x3C) = 0x45415645#32) && decide ((s.memWord (slot + 0x38)).toNat = crc32 (s.bytes slot 0x38))

/-- The slot of the newer valid final checkpoint (R536). -/
def State.newerCkpt (s : State) : Option Nat :=
  let a := 0x00FFF000
  let b := 0x00FFF040
  if s.ckptValid a && s.ckptValid b then some (if (s.memWord a).toNat < (s.memWord b).toNat then b else a)
  else if s.ckptValid a then some a else if s.ckptValid b then some b else none

/-- The final checkpoint asked for last and not written yet, else the newer valid one: its slot and SEQ (R536). -/
def State.lastCkpt (s : State) : Option (Nat × Word) :=
  match ((s.eaves.burst.toList ++ s.eaves.reqs).filter (fun b => decide (b.req = .final))).getLast? with
  | some b => some (b.dst, b.words.headD 0)
  | none => s.newerCkpt.map (fun a => (a, s.memWord a))

/-- The final checkpoint as it would be asked for now (R536). -/
def State.finalCkpt (s : State) : Burst :=
  let slot := match s.lastCkpt with | some (0x00FFF000, _) => 0x00FFF040 | _ => 0x00FFF000
  let seq := match s.lastCkpt with | some x => x.2 + 1 | none => 1
  let e := s.eaves
  let w : List Word :=
    [seq, BitVec.ofNat 32 e.sec, BitVec.ofNat 32 (e.sub * 65536 + e.sec / 2 ^ 32), s.rd R.EAVES_LOSSSEC, s.rd R.EAVES_LOSSNS,
     BitVec.ofNat 32 (s.get R.EAVES_STAT_LOSSV + 2 * (!e.vio33).toNat)] ++ List.replicate 8 0
  ⟨.final, slot, w ++ [BitVec.ofNat 32 (crc32 (w.flatMap (fun x => bytesLE 4 x.toNat))), 0x45415645#32], 15⟩

/-- The first brown-out that reaches PD0 (R535). -/
def State.supplyLoss (s : State) (vcore vio33 : Bool) : State :=
  if s.eaves.on && (vcore || vio33) then
    let s := if vio33 then
        let t := (({ s with eaves := { s.eaves with vio33 := false } } : State).clear R.EAVES_STAT_VMAIN).stopTimer .vio33
        if s.eaves.vio33 then t.startTimer .dark0 else t
      else s
    if s.on R.EAVES_STAT_LOSSV then s
    else
      let run := s.pdRun 3
      let sec := if run then s.time.sec else s.eaves.sec
      let ns := if run then s.time.ns else s.eaves.sub * 1000000000 / 32768
      let s := ((s.wr R.EAVES_LOSSSEC (BitVec.ofNat 32 sec)).wr R.EAVES_LOSSNS (BitVec.ofNat 32 ns)).raise R.EAVES_STAT_LOSSV
      let s := { s with eaves := { s.eaves with lossAt := sec, stamp := true } }
      let s := s.askBurst s.finalCkpt
      s.post 0x0007 0 (bytesLE 4 ns ++ [BitVec.ofNat 8 (vcore.toNat + 2 * vio33.toNat)])
  else s

/-- CKPER minutes have passed since the loss of VIO33 or the checkpoint after it, 0 applied as 1 (R535, R558). -/
def State.ckptDue (s : State) : Bool := s.past .dark0 (max 1 (s.get R.EAVES_CFG_CKPER) * 60000000000)

/-- A final checkpoint while VIO33 is absent (R535). -/
def State.darkCkpt (s : State) : State :=
  if s.eaves.on && !s.eaves.vio33 && s.ckptDue then (s.askBurst s.finalCkpt).startTimer .dark0 else s

/-- VIO33 returns (R535). -/
def State.supplyReturn (s : State) : State :=
  if s.eaves.on && !s.eaves.vio33 then
    let s := (({ s with eaves := { s.eaves with vio33 := true } } : State).raise R.EAVES_STAT_VMAIN).startTimer .vio33
    let s := s.askBurst s.finalCkpt
    s.post 0x000A 0 (bytesLE 4 (s.eaves.sec - s.eaves.lossAt))
  else s

/-- Assert or release EWAKE_N. -/
def State.setWake (s : State) (b : Bool) : State := { s with eaves := { s.eaves with ewake := b } }

/-- A tamper input is recognised active, or no longer is; one that is so already is not recognised again (R537). -/
def State.tamper (s : State) (k : Nat) (act : Bool) : State :=
  if s.eaves.on && (s.get R.EAVES_TAMP_EN).testBit k && !(act && s.on ⟨R.EAVES_TAMP, 4 + k, 4 + k⟩) then
    let s := s.putB ⟨R.EAVES_TAMP, 4 + k, 4 + k⟩ act
    if act then
      let s := (s.raise ⟨R.EAVES_TAMP, k, k⟩).raise R.EAVES_STAT_TMPF
      let lvl := ((s.get R.EAVES_TAMP_POL).testBit k).toNat
      let s := s.post 0x0005 0 [BitVec.ofNat 8 k, BitVec.ofNat 8 lvl]
      if (s.get R.EAVES_TAMP_WK).testBit k then s.setWake true else s
    else s
  else s

/-- A disabled tamper input is not recognised active (R537). -/
def State.tampWritten (s : State) : State :=
  s.put ⟨R.EAVES_TAMP, 7, 4⟩ (fieldOf (s.rd R.EAVES_TAMP) 7 4 &&& s.get R.EAVES_TAMP_EN)

/-- The wake alarm (R538). -/
def State.wakeAlarm (s : State) : State :=
  if s.eaves.on && s.on R.EAVES_CFG_ALEN && decide (s.eaves.sec % 2 ^ 32 = s.get R.EAVES_WAKE_ASEC) then s.setWake true else s

/-- EWAKE_N is released once VIO33 has been present for 1 s (R538). -/
def State.wakeRelease (s : State) : State :=
  if s.eaves.on && s.eaves.vio33 && ((s.timerAt .vio33).isNone || s.past .vio33 1000000000) then s.setWake false else s

/-! ### Log records (R545 to R551) -/

/-- The slot of a SEQ. -/
def slotAddr (seq : Nat) : Nat := 0x00F00000 + 32 * (seq % 16384)

/-- Bytes 0 to 27 of a record, VM taken as 0. -/
def recBody (seq : Word) (p : Post) : List Byte :=
  bytesLE 4 seq.toNat ++ bytesLE 4 p.sec ++ bytesLE 4 p.ns ++ bytesLE 2 p.event ++
    [BitVec.ofNat 8 p.source, BitVec.ofNat 8 (p.flags % 128)] ++ pad12 p.payload

/-- The record of a post with VM set (R545). -/
def recBytes (seq : Word) (p : Post) : List Byte :=
  let b := recBody seq p
  (b.take 15 ++ [BitVec.ofNat 8 (p.flags % 128 + 128)] ++ b.drop 16) ++ bytesLE 2 0 ++ bytesLE 2 (crc16 b)

/-- A slot's record has VM set and its CRC checks (R546). -/
def State.recChecks (s : State) (a : Nat) : Bool :=
  let vm := (s.byte (a + 15)).toNat
  let b := s.bytes a 28
  decide (128 ≤ vm) && decide (crc16 (b.take 15 ++ [BitVec.ofNat 8 (vm - 128)] ++ b.drop 16) = natLE (s.bytes (a + 30) 2)) &&
    !s.marked a && !s.marked (a + 8) && !s.marked (a + 16) && !s.marked (a + 24)

/-- A valid record (R546). -/
def State.recValid (s : State) (a : Nat) : Bool :=
  s.recChecks a && (match s.thatch.clearSeq with | some q => decide (q.toNat ≤ (s.memWord a).toNat) | none => true)

/-- The slots whose mark byte has VM set. -/
def State.vmSlots (s : State) : List Nat :=
  s.mem.filterMap (fun x => if 0x00F00000 ≤ x.1 ∧ x.1 < 0x00F80000 ∧ x.1 % 32 = 15 ∧ 128 ≤ x.2.toNat then some (x.1 - 15) else none)

/-- Clear VM of the slot at an address. -/
def State.clearVm (s : State) (a : Nat) : State := s.setByte (a + 15) (s.byte (a + 15) &&& 0x7F#8)

/-- The least SEQ of a valid record from a SEQ on. -/
def State.nextValid (s : State) : Nat → Nat → Nat
  | 0, q => q
  | n + 1, q => if s.recValid (slotAddr q) ∧ (s.memWord (slotAddr q)).toNat = q then q else s.nextValid n (q + 1)

/-- A record has been written: HEAD, TAIL and VALID follow (R552). -/
def State.headMoves (s : State) (seq : Word) : State :=
  let had := s.on R.THATCH_STAT_VALID
  let tail := (s.rd R.THATCH_TAIL).toNat
  let s := (s.wr R.THATCH_HEAD seq).raise R.THATCH_STAT_VALID
  if !had then s.wr R.THATCH_TAIL seq
  else if tail + 16384 ≤ seq.toNat then s.wr R.THATCH_TAIL (BitVec.ofNat 32 (s.nextValid 16384 (tail + 1)))
  else s

/-- Write a whole record at the next SEQ. -/
def State.writeRecord (s : State) (p : Post) : State :=
  let q := s.thatch.nextSeq
  let s := s.setBytes (slotAddr q.toNat) (recBytes q p)
  ({ s with thatch := { s.thatch with nextSeq := q + 1 } } : State).headMoves q

/-- The steps of a record burst: VM cleared, the words, VM set last (R547). -/
def recSteps (q : Word) (p : Post) : List (Nat × Word) :=
  let w := fun k => BitVec.ofNat 32 (natLE (((recBytes q p).drop (4 * k)).take 4))
  [(12, w 3 &&& 0x7FFFFFFF)] ++ [0, 1, 2, 4, 5, 6, 7].map (fun k => (4 * k, w k)) ++ [(12, w 3)]

/-- A record burst ends with MFAIL at a step: what it wrote stands, the failing word is open, and the slot is invalid; its SEQ is
consumed, and TAIL moves where the slot held it (R547). -/
def State.recordFails (s : State) (p : Post) (k : Nat) : State :=
  let q := s.thatch.nextSeq
  let a := slotAddr q.toNat
  let l := recSteps q p
  let k := if l.length ≤ k then l.length - 1 else k
  let s := s.writeAt ((l.take k).map (fun x => (a + x.1, x.2)))
  let s := match l[k]? with
    | some x => (s.setMemWord (a + x.1) s.openWord).drawn
    | none => s
  let s := s.clearVm a
  let s := { s with thatch := { s.thatch with nextSeq := q + 1 } }
  let tail := (s.rd R.THATCH_TAIL).toNat
  if s.on R.THATCH_STAT_VALID && decide (slotAddr tail = a) then s.wr R.THATCH_TAIL (BitVec.ofNat 32 (s.nextValid 16384 (tail + 1)))
  else s

/-- A post is lost: counted, LOGL set, and a LOST record due (R547, R548). -/
def State.lostPost (s : State) : State :=
  let s := (s.bumpSat R.THATCH_LOST_CNT).raise R.EAVES_STAT_LOGL
  { s with thatch := { s.thatch with lostDue := true } }

/-- A due LOST record is posted as soon as the FIFO has room (R548). -/
def State.lostRecord (s : State) : State :=
  if s.thatch.lostDue && decide (s.thatch.fifo.length < 64) then
    ({ s with thatch := { s.thatch with lostDue := false } } : State).post 0x0008 0 (bytesLE 4 (s.rd R.THATCH_LOST).toNat)
  else s

/-- Take the oldest post out of the FIFO. -/
def State.dropPost (s : State) : State :=
  let s := { s with thatch := { s.thatch with fifo := s.thatch.fifo.tail } }
  (s.put R.THATCH_STAT_FIFO s.thatch.fifo.length).lostRecord

/-- The post merges into the newest record (R551). -/
def State.merges (s : State) (p : Post) : Bool :=
  let a := slotAddr (s.rd R.THATCH_HEAD).toNat
  let win := s.get R.THATCH_REPWIN_WIN
  let b := s.bytes a 32
  let t := natLE ((b.drop 4).take 4) * 1000000000 + natLE ((b.drop 8).take 4)
  let u := p.sec % 2 ^ 32 * 1000000000 + p.ns
  s.on R.THATCH_STAT_VALID && decide (win ≠ 0) && s.recValid a &&
    decide (b.drop 12 = bytesLE 2 p.event ++ [BitVec.ofNat 8 p.source, BitVec.ofNat 8 (p.flags % 128 + 128)] ++ pad12 p.payload ++
      b.drop 28) &&
    decide (u < t + win * 1000000000) && decide (natLE ((b.drop 28).take 2) < 0xFFFF)

/-- The controller takes a post and writes or merges a record, to the end or up to a word that cannot be verified; a deferred one
stays (R540, R547, R551). -/
def State.recordWrite (s : State) (vqs vls : Nat) (fail : Option Nat) : State :=
  match s.eaves.on, s.eaves.burst, s.thatch.fifo with
  | true, none, p :: _ =>
    if s.get R.THATCH_STAT_CST = 2 then s
    else
      let s := s.burstMeasure vqs vls
      let m := s.merges p
      let a := slotAddr (if m then (s.rd R.THATCH_HEAD).toNat else s.thatch.nextSeq.toNat)
      if !s.energyOk (if m then 1 else 9) then s.deferBurst .thatch a (if m then 1 else 9)
      else match fail with
      | some k =>
        let s := if m then (s.setMemWord (a + 28) s.openWord).drawn else s.recordFails p k
        ((s.raise R.EAVES_STAT_MFL).lostPost).dropPost
      | none =>
      if m then (s.setBytes (a + 28) (bytesLE 2 (natLE (s.bytes (a + 28) 2) + 1))).dropPost
      else (s.writeRecord p).dropPost
  | _, _, _ => s

/-- A software post (R555): the source is the poster's code of R549. -/
def State.swPost (s : State) (src : Nat) (w : Word) : State :=
  let s := s.wr R.THATCH_POST3 w
  let ev := s.get R.THATCH_POST0_EVENT
  if ev < 0x8000 then s.raise R.THATCH_STAT_PSTE
  else s.post ev src (bytesLE 4 (s.rd R.THATCH_POST1).toNat ++ bytesLE 4 (s.rd R.THATCH_POST2).toNat ++ bytesLE 4 w.toNat)

/-- The SOURCE code of a software post (R549). -/
def srcOfMaster : Master → Nat
  | .rc n => 0x10 + n
  | .sc0 => 0x18
  | .sc1 => 0x19
  | .host => 0x1F

/-! ### Cold start (R531, R554) and loss of PD0 -/

/-- The registers of EAVES and THATCH take their reset values. -/
def State.pd0Regs (s : State) : State := { s with regs := tblKeep (fun a => !decide (pdOfReg a = 0)) s.regs }

/-- PD0 turns off: registers, counters and queued records are lost; a burst is cut after `done` words (R531). The answer
holds the bursts whose requesters receive GATED. -/
def State.pd0Off (s : State) (done : Nat) : State × List Burst :=
  if s.eaves.on then
    let cut := match s.eaves.burst with | some b => [b] | none => []
    let all := cut ++ s.eaves.reqs
    let s := cut.foldl (fun t b => t.writeAt ((burstOrder b).take done)) s
    let s := s.pd0Regs
    ({ s with eaves := { State.reset.eaves with on := false, vio33 := false },
              thatch := { State.reset.thatch with nextSeq := s.thatch.nextSeq },
              timers := s.timers.filter (fun x => decide (x.1.pd ≠ 0)) }, all)
  else (s, [])

/-- The start scan (R554): records that fail are invalidated; HEAD, TAIL and the newest CLEAR are found. The answer holds
how many slots were invalidated and the highest SEQ among them. -/
def State.scanLog (s : State) : State × Nat × Nat :=
  let good := s.vmSlots.filter s.recChecks
  let isClear := fun a => natLE (s.bytes (a + 12) 2) = 0x0003
  let seqs := fun (l : List Nat) => l.map (fun a => (s.memWord a).toNat)
  let clr := (seqs (good.filter isClear)).foldl (fun m q => match m with | some k => some (max k q) | none => some q) none
  let s := { s with thatch := { s.thatch with clearSeq := clr.map (BitVec.ofNat 32) } }
  let bad := s.vmSlots.filter (fun a => !s.recValid a)
  let badSeqs := bad.map (fun a => (s.memWord a).toNat)
  let s := s.each bad (fun a t => t.clearVm a)
  let live := s.vmSlots.map (fun a => (s.memWord a).toNat)
  let s := match live with
    | [] => { s with thatch := { s.thatch with nextSeq := BitVec.ofNat 32 (badSeqs.foldl max 0 + badSeqs.length.min 1) } }
    | q :: r =>
      let hi := r.foldl max q
      let lo := r.foldl min q
      let s := ((s.wr R.THATCH_HEAD (BitVec.ofNat 32 hi)).wr R.THATCH_TAIL (BitVec.ofNat 32 lo)).raise R.THATCH_STAT_VALID
      { s with thatch := { s.thatch with nextSeq := BitVec.ofNat 32 (hi + 1) } }
  (s, bad.length, badSeqs.foldl max 0)

/-- The fused access bits (R555, R570). -/
def State.fuseBit (s : State) (w b : Nat) : Bool := bitAt (tblGet fuseDefault s.sys.shadow w) b

/-- A cold start of PD0 (R528, R531, R554). -/
def State.coldStart (s : State) (vio33 : Bool) : State :=
  if s.eaves.on then s
  else
    let s := s.pd0Regs
    let sec := match s.newerCkpt with
      | some a => (s.memWord (a + 4)).toNat + 2 ^ 32 * fieldOf (s.memWord (a + 8)) 15 0 + 1
      | none => 0
    let gapSec := match s.newerCkpt with | some a => (s.memWord (a + 4)).toNat | none => 0xFFFFFFFF
    let s := { s with eaves := { State.reset.eaves with sec := sec % 2 ^ 48, vio33 := vio33 }, thatch := State.reset.thatch }
    let s := (s.putB R.EAVES_STAT_VMAIN vio33).startTimer (if vio33 then .vio33 else .dark0)
    let s := (s.putB R.THATCH_STAT_RDEN (s.fuseBit 57 0)).putB R.THATCH_STAT_CLREN (s.fuseBit 57 1)
    let x := s.scanLog
    let s := x.1
    let s := if x.2.1 = 0 then s
      else s.enqueue (s.mkPost 0x0002 0 0x08 (bytesLE 4 x.2.1 ++ bytesLE 4 x.2.2))
    let s := s.post 0x0001 0 (bytesLE 4 gapSec ++ bytesLE 4 sec)
    s.raise R.EAVES_STAT_COLD

/-! ### Authorised clearing (R555 to R557) -/

/-- A 256-bit key of the fuse map from its first word, most significant byte first (R570). -/
def State.fuseKey (s : State) (w : Nat) : List Byte :=
  (List.range 8).flatMap (fun k => bytesBE 4 (tblGet fuseDefault s.sys.shadow (w + k)).toNat)

/-- A zero key fails every exchange (R569). -/
def keyZero (k : List Byte) : Bool := k.all (· = 0)

/-- Eight response words as bytes, word 0 most significant. -/
def rspBytes (t : Tbl Word) : List Byte := (List.range 8).flatMap (fun k => bytesBE 4 (tblGet (fun _ => 0) t k).toNat)

/-- CLRREQ is written (R555, R556). -/
def State.clrReq (s : State) (purp : Nat) : State :=
  if s.on R.THATCH_STAT_CLREN && decide (s.get R.THATCH_STAT_CST < 2) && decide (purp = 3) then
    let hi := s.openWord
    let s := s.drawn
    let lo := s.openWord
    let s := s.drawn
    let s := { s with thatch := { s.thatch with nonce := hi ++ lo, clrHead := s.rd R.THATCH_HEAD, rsp := [] } }
    ((s.put R.THATCH_STAT_CST 1).wr (R.THATCH_CH 0) hi).wr (R.THATCH_CH 1) lo
  else s

/-- The message of the clear exchange (R556). -/
def State.clrMsg (s : State) : List Byte :=
  bytesBE 8 s.thatch.nonce.toNat ++ [0x03#8] ++ bytesBE 4 (s.rd R.THATCH_HEAD).toNat ++ bytesBE 4 (s.rd R.SYSCTL_ID).toNat

/-- The post of a record that the controller itself writes at once. -/
def State.ownPost (s : State) (event : Nat) (payload : List Byte) : Post := s.mkPost event 0 0 (pad12 payload)

/-- RSP7 is written: the response is checked (R556, R557). -/
def State.clrResponse (s : State) (w : Word) : State :=
  if s.get R.THATCH_STAT_CST = 1 then
    let rsp := tblSet (fun _ => 0) s.thatch.rsp 7 w
    let key := s.fuseKey 66
    let ok := decide (rspBytes rsp = hmac key s.clrMsg) && !keyZero key && s.eaves.vio33 &&
      decide (s.rd R.THATCH_HEAD = s.thatch.clrHead)
    let s := { s with thatch := { s.thatch with nonce := 0, rsp := [] } }
    let s := (s.wr (R.THATCH_CH 0) 0).wr (R.THATCH_CH 1) 0
    if ok then
      let s := { s with thatch := { s.thatch with fails := 0 } }
      let h := s.rd R.THATCH_HEAD
      let p := s.ownPost 0x0003 (bytesLE 4 h.toNat ++ bytesLE 4 (s.rd R.THATCH_TAIL).toNat ++
        bytesLE 4 (s.vmSlots.filter s.recValid).length)
      let q := if s.on R.THATCH_STAT_VALID then h + 1 else s.thatch.nextSeq
      let s := (({ s with thatch := { s.thatch with nextSeq := q } } : State).writeRecord p).put R.THATCH_STAT_CST 2
      { s with thatch := { s.thatch with clearSeq := some q } }
    else
      let n := s.thatch.fails + 1
      let s := { s with thatch := { s.thatch with fails := if n = 3 then 0 else n } }
      let s := if n = 3 then s.startTimer .clrBlock else s
      let s := (s.put R.THATCH_STAT_CST (if n = 3 then 3 else 0)).raise R.THATCH_STAT_CLF
      s.post 0x0004 0 [BitVec.ofNat 8 n]
  else s

/-- The clear finishes (R557). -/
def State.clrDone (s : State) : State :=
  if s.get R.THATCH_STAT_CST = 2 then
    let h := s.rd R.THATCH_HEAD
    let s := s.each (s.vmSlots.filter (fun a => a ≠ slotAddr h.toNat)) (fun a t => t.clearVm a)
    ((s.wr R.THATCH_TAIL h).raise R.THATCH_STAT_CLD).put R.THATCH_STAT_CST 0
  else s

/-- The 600 s block of clearing ends (R556). -/
def State.clrUnblock (s : State) : State :=
  if s.get R.THATCH_STAT_CST = 3 ∧ s.past .clrBlock 600000000000 = true then s.put R.THATCH_STAT_CST 0 else s

end Sys2Proof.Machine
end

