-- ==== Sys2Proof/Machine/Queue.lean ====
section
/-!
DEFINITION. The hardware queues (R83, R84, R613 to R618): enable and disable, push, pop and counts with their status
codes, and the host's command registers.
-/

namespace Sys2Proof.Machine

/-- The messages of a queue, head first. -/
def State.msgs (s : State) (n : Nat) : List (List Byte) := tblGet (fun _ => []) s.host.queues n

/-- The queue is enabled. -/
def State.qOn (s : State) (n : Nat) : Bool := s.on (R.QUEUE_CFG_EN n)

/-- ESIZE in bytes (R613). -/
def State.esize (s : State) (n : Nat) : Nat := 4 * (s.get (R.QUEUE_CFG_ESZ n) + 1)

/-- The storage area of a queue: address and bytes (R613). -/
def State.qArea (s : State) (n : Nat) : Nat × Nat := (s.get (R.QUEUE_BASE_ADDR n) * 4, s.get (R.QUEUE_CFG_DEPTH n) * s.esize n)

/-- The enabled queue in whose storage area an address lies (R614). -/
def State.queueAt (s : State) (a : Nat) : Option Nat :=
  (List.range 32).find? (fun n => s.qOn n && decide ((s.qArea n).1 ≤ a ∧ a < (s.qArea n).1 + (s.qArea n).2))

/-! ### Conditions and interrupt lines (R609, R618) -/

/-- The NE condition. -/
def State.qNe (s : State) (n : Nat) : Bool := s.qOn n && s.on (R.QUEUE_IRQ_NEEN n) && !(s.msgs n).isEmpty

/-- The SP condition. -/
def State.qSp (s : State) (n : Nat) : Bool :=
  s.qOn n && s.on (R.QUEUE_IRQ_SPEN n) && decide (s.get (R.QUEUE_IRQ_SPTH n) ≤ s.get (R.QUEUE_STAT_FREE n))

/-- QUEUE_PEND (R620). -/
def State.qPend (s : State) : Nat := (List.range 32).foldl (fun w n => if s.qNe n || s.qSp n then w + 2 ^ n else w) 0

/-- The QUEUE line as a destination sees it (R618). -/
def State.qLine (s : State) (m : Nat) : Bool :=
  (List.range 32).any (fun n => decide (s.get (R.QUEUE_CFG_DEST n) = m) &&
    (s.qNe n || s.qSp n || (s.rd (R.QUEUE_STAT n) &&& 0xFC00#32) ≠ 0))

/-- Some W1C field of a register is not 0; HOST_DBELL is not counted. -/
def w1cSet (a : Nat) (v : Word) : Bool :=
  match regAt a with
  | some (r, _) => decide (r.kind ≠ .HOST_DBELL) && decide (v &&& r.w1c ≠ 0)
  | none => false

/-- The line of a block as a destination sees it; RSTCAUSE alone has a W1C field that is 1 after reset. -/
def State.line (s : State) (b : Block) (m : Nat) : Bool :=
  if b = .QUEUE then s.qLine m
  else (decide (b = .SYSCTL) && w1cSet R.SYSCTL_RSTCAUSE (s.rd R.SYSCTL_RSTCAUSE)) ||
    s.regs.any (fun x => decide (blockOf x.1 = some b) && w1cSet x.1 x.2)

/-- HOST_ISUMm (R609, R621). -/
def State.isum (s : State) (m : Nat) : Word :=
  BitVec.ofNat 32 ((List.range 20).foldl (fun w k =>
    match blocks[k]? with
    | some b => if s.line b m then w + 2 ^ k else w
    | none => w) 0 + s.get R.HOST_DBELL_DB * 2 ^ 20)

/-- Destination m has an interrupt pending (R610). -/
def State.intPending (s : State) (m : Nat) : Bool := s.isum m &&& s.rd (R.HOST_IEN m) ≠ 0

/-- HINT_N is asserted (R610). -/
def State.hint (s : State) : Bool := s.pdOpen 3 && s.intPending 0

/-- The interrupt destination of a core (R610); the Warden is none. -/
def intDest (n : Nat) : Option Nat := if n < 8 then some (3 + n) else if n < 10 then some (n - 7) else none

/-- A core has an interrupt pending. -/
def State.coreInt (s : State) (n : Nat) : Bool := match intDest n with | some m => s.intPending m | none => false

/-- An interrupt that is about to be withdrawn has ended the WAIT of its destination: the cores in WAIT with one pending are
noted (R85). -/
def State.noteInts (s : State) : State :=
  let waits := fun n => ((s.core n).waiting || (s.core n).bgWait) && s.coreInt n
  { s with host := { s.host with
      woken := (List.range 10).foldl (fun w n => if waits n then w ||| 2 ^ n else w) s.host.woken } }

/-- A core in WAIT has, or has had, an interrupt pending since WAIT began (R85). -/
def State.intSeen (s : State) (n : Nat) : Bool :=
  s.coreInt n || s.host.woken.testBit n

/-- Replace the messages of a queue; OCC and FREE follow (R620), and with them its interrupt conditions (R618). -/
def State.setMsgs (s : State) (n : Nat) (l : List (List Byte)) : State :=
  let s := s.noteInts
  let s := { s with host := { s.host with queues := tblSet (fun _ => []) s.host.queues n l } }
  let s := s.put (R.QUEUE_STAT_OCC n) l.length
  s.put (R.QUEUE_STAT_FREE n) (if s.qOn n then s.get (R.QUEUE_CFG_DEPTH n) - l.length else 0)

/-- The result of a queue operation: code and message length (R83). -/
structure QueRes where
  code : Nat
  len : Nat
  msg : List Byte
  deriving DecidableEq, Repr

/-- The status word of R83. -/
def qWord (r : QueRes) : Word := BitVec.ofNat 32 (r.code + 256 * r.len)

/-- Push a message without a look at rights (R83, R613, R615); every code but OK leaves the queue unchanged (R84). The
bytes lie in the storage area entry after entry. -/
def State.qPushFree (s : State) (n : Nat) (m : List Byte) : State × QueRes :=
  if m.isEmpty || decide (256 < m.length) then (s, ⟨6, 0, []⟩)
  else if !s.pdOpen 3 then (s, ⟨4, m.length, []⟩)
  else if !s.qOn n then (s, ⟨5, m.length, []⟩)
  else if s.esize n < m.length then (s.raise (R.QUEUE_STAT_TBE n), ⟨3, m.length, []⟩)
  else if s.get (R.QUEUE_CFG_DEPTH n) ≤ (s.msgs n).length then (s.raise (R.QUEUE_STAT_FULLE n), ⟨1, m.length, []⟩)
  else
    let p := tblGet (fun _ => 0) s.host.qpos n
    let s := s.putBytes ((s.qArea n).1 + p * s.esize n) m
    let s := { s with host :=
      { s.host with qpos := tblSet (fun _ => 0) s.host.qpos n ((p + 1) % s.get (R.QUEUE_CFG_DEPTH n)) } }
    (s.setMsgs n (s.msgs n ++ [m]), ⟨0, m.length, []⟩)

/-- Pop the head message into a buffer of the given capacity without a look at rights (R83). -/
def State.qPopFree (s : State) (n cap : Nat) : State × QueRes :=
  if cap = 0 ∨ 256 < cap then (s, ⟨6, 0, []⟩)
  else if !s.pdOpen 3 then (s, ⟨4, 0, []⟩)
  else if !s.qOn n then (s, ⟨5, 0, []⟩)
  else match s.msgs n with
    | [] => (s, ⟨2, 0, []⟩)
    | m :: l =>
      if cap < m.length then (s.raise (R.QUEUE_STAT_TBE n), ⟨3, m.length, []⟩)
      else (s.setMsgs n l, ⟨0, m.length, m⟩)

/-- The bit of a master in the right masks, which is also its interrupt destination (R610, R615). -/
def masterBit : Master → Nat
  | .host => 0 | .sc0 => 1 | .sc1 => 2 | .rc n => 3 + n.val

/-- The push right of a master (R615). -/
def State.mayPush (s : State) (m : Master) (n : Nat) : Bool := (s.get (R.QUEUE_RIGHTS_PUSH n)).testBit (masterBit m)

/-- The pop right of a master (R615). -/
def State.mayPop (s : State) (m : Master) (n : Nat) : Bool := (s.get (R.QUEUE_RIGHTS_POP n)).testBit (masterBit m)

/-- A push by a master (R83, R615). -/
def State.qPush (s : State) (m : Master) (n : Nat) (b : List Byte) : State × QueRes :=
  if b.isEmpty || decide (256 < b.length) then (s, ⟨6, 0, []⟩)
  else if s.pdOpen 3 && !s.mayPush m n then (s, ⟨5, b.length, []⟩)
  else s.qPushFree n b

/-- A pop by a master (R83, R615). -/
def State.qPop (s : State) (m : Master) (n cap : Nat) : State × QueRes :=
  if cap = 0 ∨ 256 < cap then (s, ⟨6, 0, []⟩)
  else if s.pdOpen 3 && !s.mayPop m n then (s, ⟨5, 0, []⟩)
  else s.qPopFree n cap

/-- QSTAT for a master: occupied and free entries, 0 without a right (R84). A disabled queue also reads 0 (DESIGN CHOICE, log
entry 111). -/
def State.qStat (s : State) (m : Master) (n : Nat) : Word :=
  if s.pdOpen 3 && s.qOn n && (s.mayPush m n || s.mayPop m n) then
    BitVec.ofNat 32 ((s.msgs n).length + 65536 * (s.get (R.QUEUE_CFG_DEPTH n) - (s.msgs n).length))
  else 0

/-! ### Enable and disable (R613, R618) -/

/-- Two areas of memory share a byte. -/
def areasMeet (a b : Nat × Nat) : Bool :=
  decide (0 < a.2) && decide (0 < b.2) && decide (a.1 < b.1 + b.2) && decide (b.1 < a.1 + a.2)

/-- EN = 1 is allowed (R613). -/
def State.qMayEnable (s : State) (n : Nat) : Bool :=
  decide (4 ≤ s.get (R.QUEUE_CFG_DEPTH n) ∧ s.get (R.QUEUE_CFG_DEPTH n) ≤ 256) &&
  inSram (s.qArea n).1 (s.qArea n).2 &&
  (List.range 32).all (fun k => decide (k = n) || !s.qOn k || !areasMeet (s.qArea n) (s.qArea k))

/-- EN = 1 is written to a disabled queue (R613). -/
def State.qEnable (s : State) (n : Nat) : State :=
  if s.qOn n then s
  else if s.qMayEnable n then
    let s := s.raise (R.QUEUE_CFG_EN n)
    ({ s with host := { s.host with qpos := tblSet (fun _ => 0) s.host.qpos n 0 } } : State).setMsgs n []
  else s.raise (R.QUEUE_STAT_CFE n)

/-- EN = 0 is written to an enabled queue (R618): entries are discarded, with DSC where there were any, and a record is
posted. -/
def State.qDisable (s : State) (n : Nat) : State :=
  if s.qOn n then
    let had := !(s.msgs n).isEmpty
    let s := (s.clear (R.QUEUE_CFG_EN n)).setMsgs n []
    if had then s.flagPost 14 (R.QUEUE_STAT_DSC n) 3 n else s.postPlain 14 3 n (s.rd (R.QUEUE_STAT n))
  else s

/-! ### The host's command registers (R616) -/

/-- Bytes of QUEUE_HBUF. -/
def State.hbuf (s : State) (len : Nat) : List Byte :=
  ((List.range 64).flatMap (fun k => bytesLE 4 (s.rd (R.QUEUE_HBUF k)).toNat)).take len

/-- Write bytes into QUEUE_HBUF from its first; the bytes after them stay (R616). -/
def State.hbufSet (s : State) (m : List Byte) : State :=
  let all := m ++ (s.hbuf 256).drop m.length
  s.each (List.range 64) (fun k t => t.wr (R.QUEUE_HBUF k) (BitVec.ofNat 32 (natLE ((all.drop (4 * k)).take 4))))

/-- OP = push. -/
def State.hcmdPush (s : State) (n len : Nat) : State :=
  if len = 0 ∨ 256 < len then s.wr R.QUEUE_HRES 6
  else
    let r := s.qPush .host n (s.hbuf len)
    r.1.wr R.QUEUE_HRES (qWord r.2)

/-- OP = pop. -/
def State.hcmdPop (s : State) (n cap : Nat) : State :=
  let r := s.qPop .host n cap
  (if r.2.code = 0 then r.1.hbufSet r.2.msg else r.1).wr R.QUEUE_HRES (qWord r.2)

/-- OP = stat. -/
def State.hcmdStat (s : State) (n : Nat) : State := s.wr R.QUEUE_HRES (s.qStat .host n)

end Sys2Proof.Machine
end

