-- ==== Sys2Proof/Machine/Warden.lean ====
section
/-!
DEFINITION. The safety functions (R409 to R456): the two channels, Warden and Flashing, their views of inputs, functions,
permits and relay chains, safe frames, lock-out, the deliberate reset, and the confirmation of the parameter record.
-/

namespace Sys2Proof.Machine

/-! ### The parameter record (R449, R450) -/

/-- A field of word `w` of the loaded safety parameter record. -/
def State.spr (s : State) (w hi lo : Nat) : Nat := fieldOf (s.rd (R.SAFE_PAR w)) hi lo

/-- Word `k` (0 to 3 for A to D) of safety function f. -/
def sfWord (f k : Nat) : Nat := 32 + 4 * f + k

/-- EN of a safety function. -/
def State.sfEn (s : State) (f : Nat) : Bool := s.spr (sfWord f 2) 1 1 = 1
/-- SPI of a safety function. -/
def State.sfSpi (s : State) (f : Nat) : Bool := s.spr (sfWord f 2) 0 0 = 1
/-- RT of a safety function. -/
def State.sfRt (s : State) (f : Nat) : Bool := s.spr (sfWord f 2) 8 8 = 1
/-- CHAIN of a safety function. -/
def State.sfChain (s : State) (f : Nat) : Nat := s.spr (sfWord f 2) 7 4
/-- CHDLY of a safety function. -/
def State.sfChdly (s : State) (f : Nat) : Nat := s.spr (sfWord f 2) 31 16
/-- RMAN of a safety function. -/
def State.sfRman (s : State) (f : Nat) : Bool := s.spr (sfWord f 3) 5 5 = 1
/-- RSRC of a safety function. -/
def State.sfRsrc (s : State) (f : Nat) : Bool := s.spr (sfWord f 3) 4 4 = 1
/-- RSI of a safety function. -/
def State.sfRsi (s : State) (f : Nat) : Nat := s.spr (sfWord f 3) 3 0

/-- The bits that word `w` of the record may hold (R449). -/
def sprMask (w : Nat) : Nat :=
  if w = 0 ∨ w = 2 ∨ w = 3 ∨ w = 4 ∨ w = 127 then 0xFFFFFFFF
  else if w = 1 then 0xFFFF0300
  else if w = 5 then 0xFFFF
  else if w < 8 then 0
  else if w < 24 then 0xFF0F
  else if w < 32 then 0xFF03
  else if w < 64 then
    match w % 4 with | 0 => 0xFFFFFFFF | 1 => 0xB000FFFF | 2 => 0xFFFF01F3 | _ => 0x3F
  else if w < 80 then
    match w % 4 with | 0 => 0x003FFF01 | 1 => 0xFFFFFFFF | _ => 0
  else if w < 96 then
    match w % 4 with | 2 => 0xFFFF | 3 => 1 | _ => 0xFFFFFFFF
  else if w < 112 then
    match w % 4 with | 0 => 0xFFFFFFFF | 1 => 0xFFFF | 2 => 1 | _ => 0
  else 0

/-- The default of word `w` of the record (R449); a word without a default is 0. -/
def sprDefault (w : Nat) : Word :=
  if w = 0 then 0x53505201 else if w = 1 then 0x88B50000 else if w = 3 then 0x001400C8 else if w = 4 then 0x00640014
  else if 8 ≤ w ∧ w < 24 then 0x0A00
  else if 24 ≤ w ∧ w < 32 then 0x3200
  else if 64 ≤ w ∧ w < 80 then (match w % 4 with | 0 => 0x0A00 | 1 => 0x0096012C | _ => 0)
  else 0

/-- The words of the loaded record. -/
def State.sprWords (s : State) : List Word := (List.range 128).map (fun w => s.rd (R.SAFE_PAR w))

/-- The CRC of a record over its first 127 words (R449). -/
def sprCrc (l : List Word) : Word := BitVec.ofNat 32 (crc32 (wordsBytes (l.take 127)))

/-- The enabled functions. -/
def State.sfOn (s : State) : List Nat := (List.range 8).filter s.sfEn

/-- The inputs that trigger masks name. -/
def State.trigInputs (s : State) : Nat := s.sfOn.foldl (fun m f => m ||| s.spr (sfWord f 0) 15 0) 0

/-- The restart inputs. -/
def State.restartInputs (s : State) : List Nat := (s.sfOn.filter (fun f => s.sfRman f && s.sfRsrc f)).map s.sfRsi

/-- An input has USED = 1. -/
def State.siUsed (s : State) (i : Nat) : Bool := decide (i < 16) && decide (s.spr (8 + i) 0 0 = 1)

/-- The loaded record is valid (R450). -/
def State.sprValid (s : State) : Bool :=
  decide (s.rd (R.SAFE_PAR 0) = 0x53505201) &&
  (List.range 128).all (fun w => decide ((s.rd (R.SAFE_PAR w)).toNat &&& (0xFFFFFFFF - sprMask w) = 0)) &&
  decide (s.rd (R.SAFE_PAR 127) = sprCrc s.sprWords) &&
  decide (s.rd (R.SAFE_PAR 2) ≠ 0) &&
  decide (100 ≤ s.spr 3 15 0 ∧ s.spr 3 15 0 ≤ 800 ∧ 4 * (s.spr 3 15 0 + 50) < s.spr 3 31 16 * 1000) &&
  (List.range 8).all (fun p =>
    let m := s.spr (24 + p) 1 0
    decide (m ≠ 3) && (decide (m = 0) || (decide (s.spr (24 + p) 15 8 ≠ 0) &&
      !(decide (s.spr (8 + 2 * p) 1 1 = 1) && decide (s.spr (9 + 2 * p) 1 1 = 1) &&
        decide (s.spr (8 + 2 * p) 3 2 = s.spr (9 + 2 * p) 3 2))))) &&
  (List.range 4).all (fun c => decide (s.spr (64 + 4 * c) 0 0 = 0) ||
    (decide (s.spr (65 + 4 * c) 31 16 < s.spr (65 + 4 * c) 15 0 ∧ s.spr (65 + 4 * c) 15 0 ≤ 1000) &&
      (decide (s.spr (64 + 4 * c) 21 21 = 0) || s.siUsed (s.spr (64 + 4 * c) 20 16)))) &&
  (List.range 4).all (fun k => decide (s.spr (83 + 4 * k) 0 0 = 0) || decide (s.spr (81 + 4 * k) 31 16 < s.spr (81 + 4 * k) 15 0)) &&
  (List.range 4).all (fun t => decide (s.spr (98 + 4 * t) 0 0 = 0) || decide (1 ≤ s.spr (97 + 4 * t) 15 0)) &&
  s.restartInputs.all (fun i => !s.trigInputs.testBit i && s.siUsed i) &&
  (List.range 16).all (fun i => !s.trigInputs.testBit i || s.siUsed i)

/-! ### The views of a channel -/

/-- The channel works: its island runs and its dynamic signals toggle (R411). The Warden is `true`. -/
def State.chUp (s : State) (w : Bool) : Bool := if w then s.pdRun 2 && !s.safe.deadW else s.pdRun 1 && !s.safe.deadF

/-- The state OPERATE (R451). -/
def State.operate (s : State) : Bool := s.get R.SAFE_STAT_STATE = 3

/-- The state LOCKOUT. -/
def State.locked (s : State) : Bool := s.get R.SAFE_STAT_STATE = 4

/-- An input is in demand as a channel sees it (R423). -/
def State.siDem (s : State) (w : Bool) (i : Nat) : Bool := (if w then s.safe.inW else s.safe.inF).testBit i

/-- A pair is in demand (R424); in independent mode while either input is. -/
def State.pairDem (s : State) (w : Bool) (p : Nat) : Bool :=
  if s.spr (24 + p) 1 0 = 2 then s.siDem w (2 * p) || !s.siDem w (2 * p + 1)
  else s.siDem w (2 * p) || s.siDem w (2 * p + 1)

/-- A pair of mode 1 or 2 shows neither its healthy nor its demand pattern (R424). -/
def State.pairOdd (s : State) (w : Bool) (p : Nat) : Bool :=
  match s.spr (24 + p) 1 0 with
  | 1 => s.siDem w (2 * p) ≠ s.siDem w (2 * p + 1)
  | 2 => s.siDem w (2 * p) = s.siDem w (2 * p + 1)
  | _ => false

/-- What an input named in an SI mask contributes: in a pair each input's demand is the pair's (R424). -/
def State.inputTrig (s : State) (w : Bool) (i : Nat) : Bool :=
  let m := s.spr (24 + i / 2) 1 0
  if m = 1 ∨ m = 2 then s.pairDem w (i / 2) else s.siDem w i

/-- A subscription as a channel sees it. -/
def State.rxOf (s : State) (w : Bool) (k : Nat) : RxSt := tblGet (fun _ => rxReset) s.safe.rx (2 * k + (!w).toNat)

/-- Replace it. -/
def State.setRx (s : State) (w : Bool) (k : Nat) (x : RxSt) : State :=
  { s with safe := { s.safe with rx := tblSet (fun _ => rxReset) s.safe.rx (2 * k + (!w).toNat) x } }

/-- The command bits in force (R434, R436). -/
def rxCmd (x : RxSt) : Nat := if x.wdel || x.waiting then 0 else x.cmd

/-- A function's triggers, STOP apart (R425). -/
def State.sfTrig (s : State) (w : Bool) (f : Nat) : Bool :=
  !s.operate ||
  (onesOf 16 (s.spr (sfWord f 0) 15 0)).any (fun i => s.inputTrig w i) ||
  (onesOf 16 (s.spr (sfWord f 0) 31 16)).any (fun k => s.on (R.CMP_WIN_STAT_FLT k) || !s.on (R.CMP_WIN_CFG_EN k)) ||
  (decide (s.spr (sfWord f 1) 31 31 = 1) &&
    decide (rxCmd (s.rxOf w (s.spr (sfWord f 1) 29 28)) &&& s.spr (sfWord f 1) 15 0 ≠ s.spr (sfWord f 1) 15 0))

/-- A function in demand as a channel sees it. -/
def State.sfDem (s : State) (w : Bool) (f : Nat) : Bool :=
  (if w then s.get R.SAFE_SF_DEMW else s.get R.SAFE_SF_DEMF).testBit f

/-- The functions whose CHDLY runs in a channel. -/
def State.sfRun (s : State) (w : Bool) : Nat := if w then s.safe.runW else s.safe.runF

/-- The functions whose restart condition has been met in a channel. -/
def State.sfRst (s : State) (w : Bool) : Nat := if w then s.safe.rstW else s.safe.rstF

/-- A mask of eight bits from a test. -/
def mask8 (p : Nat → Bool) : Nat := (List.range 8).foldl (fun m f => if p f then m + 2 ^ f else m) 0

/-- Demand, CHDLY and restart of one function after an evaluation by a channel (R425 to R427); `stop` puts it in
demand. -/
def State.sfNext (s : State) (w stop : Bool) (f : Nat) : Bool × Bool × Bool :=
  let dem := s.sfDem w f
  let run := (s.sfRun w).testBit f
  let rst := (s.sfRst w).testBit f
  if !s.sfEn f then (false, false, false)
  else if stop || s.sfTrig w f then (if dem then (true, run, false) else (true, decide (s.sfChdly f ≠ 0), false))
  else if dem && !run && (!s.sfRman f || rst) then (false, false, false)
  else (dem, run, rst)

/-- One channel evaluates all functions. -/
def State.sfEval (s : State) (w stop : Bool) : State :=
  let dem := mask8 (fun f => (s.sfNext w stop f).1)
  let run := mask8 (fun f => (s.sfNext w stop f).2.1)
  let rst := mask8 (fun f => (s.sfNext w stop f).2.2)
  let s := s.each ((List.range 8).filter (fun f => run.testBit f && !(s.sfRun w).testBit f)) (fun f t => t.startTimer (.chdly w f))
  if w then
    let rstw := mask8 (fun f => (s.sfNext w stop f).1 && s.sfRman f && !s.sfTrig w f && !(s.sfNext w stop f).2.2)
    (({ s with safe := { s.safe with runW := run, rstW := rst } } : State).put R.SAFE_SF_DEMW dem).put R.SAFE_SF_RSTW rstw
  else ({ s with safe := { s.safe with runF := run, rstF := rst } } : State).put R.SAFE_SF_DEMF dem

/-- A channel permits the legs (R425), the Batten clock apart. -/
def State.permit (s : State) (w : Bool) : Bool :=
  s.chUp w && s.operate && s.sfOn.all (fun f => !s.sfSpi f || !s.sfDem w f)

/-- The chains that a demand or the lock-out names (R416, R442). -/
def State.chainsDemanded (s : State) : Nat :=
  if s.locked then 15
  else s.sfOn.foldl (fun m f => if s.sfDem true f || s.sfDem false f then m ||| s.sfChain f else m) 0

/-- A channel drives its switch of a chain conducting: by the conditions of R416, and after a demand until CHDLY has run
out. -/
def State.drives (s : State) (w : Bool) (c : Nat) : Bool :=
  let naming := s.sfOn.filter (fun f => (s.sfChain f).testBit c)
  let was := s.safe.drv.testBit (2 * c + (!w).toNat)
  s.chUp w && decide (s.spr (64 + 4 * c) 0 0 = 1) && s.operate &&
  if naming.all (fun f => !s.sfDem w f) then
    (s.get R.SAFE_RCREQ_CLOSE).testBit c || (was && naming.any (fun f => s.sfDem (!w) f && (s.sfRun (!w)).testBit f))
  else was && naming.all (fun f => !s.sfDem w f || (s.sfRun w).testBit f)

/-- The dark test of a switch. -/
def State.darkOf (s : State) (k : Nat) : Nat := tblGet (fun _ => 0) s.safe.dark k

/-- DARK of a chain in nanoseconds. -/
def State.darkNs (s : State) (c : Nat) : Nat := 1000 * s.spr (65 + 4 * c) 15 0

/-- A switch is open for a dark test: DARK has not passed since its start (R417). -/
def State.darkOpen (s : State) (k : Nat) : Bool := decide (s.darkOf k ≠ 0) && !s.past (.dark k) (s.darkNs (k / 2))

/-- A switch is commanded conducting: driven, and not open for a dark test (R416, R417). -/
def State.commanded (s : State) (k : Nat) : Bool := s.safe.drv.testBit k && !s.darkOpen k

/-- When a switch was last commanded otherwise, by a test or otherwise. -/
def State.commandedAt (s : State) (k : Nat) : Nat :=
  if s.darkOf k = 0 then (s.timerAt (.switch k)).getD 0
  else (s.timerAt (.dark k)).getD 0 + if s.darkOpen k then 0 else s.darkNs (k / 2)

/-- RBT has passed since a switch was last commanded otherwise. -/
def State.readable (s : State) (k : Nat) : Bool := decide (s.commandedAt k + 1000 * s.spr (65 + 4 * (k / 2)) 31 16 ≤ s.upNs)

/-- The commands of a chain's switches as SAFE_RCc shows them, open during a dark test (R417). -/
def State.chainShow (s : State) (c : Nat) : State :=
  ((s.putB (R.SAFE_RC_CMDH c) (s.commanded (2 * c))).putB (R.SAFE_RC_CMDL c) (s.commanded (2 * c + 1))).putB (R.SAFE_RC_EDM c)
    (decide (s.spr (64 + 4 * c) 20 16 < 16) && !s.siDem true (s.spr (64 + 4 * c) 20 16))

/-- The channels differ in the demand of a function or in a leg permit (R412). -/
def State.differ (s : State) : Bool :=
  decide (s.get R.SAFE_SF_DEMW ≠ s.get R.SAFE_SF_DEMF) || decide (s.permit true ≠ s.permit false)

/-- The channels time how long they differ, and how long their pairs are inconsistent (R412, R424). -/
def State.watch (s : State) : State :=
  let s := s.keepTimer .disag s.differ
  s.each (List.range 8) (fun p t =>
    (t.keepTimer (.disc true p) (t.chUp true && t.pairOdd true p)).keepTimer (.disc false p) (t.chUp false && t.pairOdd false p))

/-- The outputs follow the functions: permits, safe pulse inhibit, relay-chain requests and switches (R410 to R416). -/
def State.safeOutputs (s : State) : State :=
  let s := s.put R.SAFE_RCREQ_CLOSE (s.get R.SAFE_RCREQ_CLOSE &&& (15 - s.chainsDemanded))
  let pw := s.permit true
  let pf := s.permit false && !s.bat.clkLoss
  let drv := (List.range 8).foldl (fun m k => if s.drives (k % 2 = 0) (k / 2) then m + 2 ^ k else m) 0
  let turned := (List.range 8).filter (fun k => decide (drv.testBit k ≠ s.safe.drv.testBit k))
  let s := { s with safe := { s.safe with pw := pw, pf := pf, drv := drv, dark := tblKeep (fun k => !turned.contains k) s.safe.dark } }
  let s := s.each turned (fun k t => t.startTimer (.switch k))
  let s := ((s.putB R.SAFE_STAT_PW pw).putB R.SAFE_STAT_PF pf).putB R.SAFE_STAT_SPI (!(pw && pf))
  let s := if pw && pf then s else { s with gate := { s.gate with spiHold := 2 ^ 48 - 1 } }
  let s := s.put R.SAFE_SIP_PDEM (mask8 (fun p => s.pairDem true p))
  let s := s.put R.SAFE_SI_DEM s.safe.inW
  let s := s.each (List.range 4) (fun c t => t.chainShow c)
  s.watch

/-- Both channels evaluate their functions and outputs. -/
def State.safeEval (s : State) : State := ((s.sfEval true false).sfEval false false).safeOutputs

/-- RTRIP_N is asserted by a safety function or by the lock-out (R426, R442). -/
def State.safeRtrip (s : State) : Bool :=
  s.sfOn.any (fun f => s.sfRt f && (s.sfDem true f || s.sfDem false f)) || (s.locked && decide (s.spr 1 9 9 = 1))

/-- The fault output or the enable of a window has changed since `s`: Flashing and the Warden act over the hard-wired paths (R27,
R290). -/
def State.noteWindows (s t : State) : State :=
  if (List.range 16).any (fun k => decide (t.on (R.CMP_WIN_STAT_FLT k) ≠ s.on (R.CMP_WIN_STAT_FLT k)) ||
      decide (t.on (R.CMP_WIN_CFG_EN k) ≠ s.on (R.CMP_WIN_CFG_EN k))) then t.safeEval else t

/-! ### Lock-out (R441 to R443, R448) -/

/-- The lock record (R448). -/
def State.lockRecord (s : State) : List Word :=
  let body : List Word := [s.rd R.SAFE_LOCK, BitVec.ofNat 32 s.safe.lockSec, BitVec.ofNat 32 s.safe.lockNs,
    if s.locked then 0x4C4B0001 else 0] ++ List.replicate 11 0#32
  body ++ [BitVec.ofNat 32 (crc32 (wordsBytes body))]

/-- Ask for the burst of the lock record (R442). -/
def State.askLock (s : State) : State :=
  let s := ({ s with safe := { s.safe with lockDue := true } } : State).startTimer .lock
  if s.chUp true then s.askBurst ⟨.warden, 0x0107FC00, s.lockRecord, 15⟩ else s

/-- A fault of R441, found by the channel in `pd`: its bit is set, and outside LOCKOUT the device enters it. -/
def State.safeFault (s : State) (bit pd : Nat) : State :=
  let s := s.wr R.SAFE_LOCK (putBit (s.rd R.SAFE_LOCK) bit true)
  if s.locked then s
  else
    let s := if s.safe.everConf then s.bumpSat R.SAFE_LOCK_LCNT else s
    let s := s.put R.SAFE_STAT_STATE 4
    let s := { s with safe := { s.safe with lockSec := s.time.sec % 2 ^ 32, lockNs := s.time.ns, runW := 0, runF := 0 } }
    let s := ((s.sfEval true true).sfEval false true)
    let s := { s with safe := { s.safe with runW := 0, runF := 0 } }
    let s := s.safeOutputs
    (s.postPlain 11 pd 0 (s.rd R.SAFE_LOCK)).askLock

/-- The island of a channel. -/
def chPd (w : Bool) : Nat := if w then 2 else 1

/-- The lock record burst is tried again, 10 ms after the last try (R442). -/
def State.lockRetry (s : State) : State :=
  if s.safe.lockDue && s.chUp true && s.past .lock 10000000 && !(s.eaves.reqs.any (fun b => b.req = .warden && b.dst = 0x0107FC00)) &&
    !(match s.eaves.burst with | some b => b.req = .warden && b.dst = 0x0107FC00 | none => false)
  then s.askLock else s

/-- A burst of the Warden's has ended with a status (R442, R451). -/
def State.wardenBurst (s : State) (b : Burst) (code : Nat) : State :=
  if b.req ≠ .warden ∨ code ≠ 0 then s
  else if b.dst = 0x0107FC00 then { s with safe := { s.safe with lockDue := false } }
  else if b.dst = 0x0107F000 then { s with safe := { s.safe with markA := true } }
  else { s with safe := { s.safe with markB := true } }

/-! ### Safety inputs (R420 to R424) -/

/-- Set an input's demand as a channel sees it. -/
def State.setDem (s : State) (w : Bool) (i : Nat) (b : Bool) : State :=
  let f := fun m => (if b then m ||| 2 ^ i else m &&& (0xFFFF - 2 ^ i))
  if w then { s with safe := { s.safe with inW := f s.safe.inW } } else { s with safe := { s.safe with inF := f s.safe.inF } }

/-- The pad level of an input. -/
def State.siLevel (s : State) (i : Nat) (b : Bool) : State := s.wr R.SAFE_SI (putBit (s.rd R.SAFE_SI) i b)

/-- Input i has been low for FILT ms (R423). -/
def State.inputDemand (s : State) (w : Bool) (i : Nat) : State :=
  if s.chUp w then ((s.siLevel i false).setDem w i true).safeEval else s

/-- Mark a restart in a channel for the functions that a test selects, unless a trigger stands (R427). -/
def State.markRestart (s : State) (w : Bool) (p : Nat → Bool) : State :=
  let m := mask8 (fun f => s.sfEn f && p f && s.sfDem w f && s.sfRman f && !s.sfTrig w f)
  if w then { s with safe := { s.safe with rstW := s.safe.rstW ||| m } }
  else { s with safe := { s.safe with rstF := s.safe.rstF ||| m } }

/-- Input i has been high for FILT ms; the functions whose RSI it is restart (R423, R427). -/
def State.inputHealthy (s : State) (w : Bool) (i : Nat) : State :=
  if s.chUp w then
    let was := s.siDem w i
    let s := (s.siLevel i true).setDem w i false
    let s := if was then s.markRestart w (fun f => s.sfRsrc f && decide (s.sfRsi f = i)) else s
    s.safeEval
  else s

/-- TPW in nanoseconds. -/
def State.tpw (s : State) : Nat := 1000 * s.spr 3 15 0

/-- TPk is low now by the cycles of TPPER ms: from T0 + k × TPPER/4 for TPW µs (R421). -/
def State.tpPhase (s : State) (k : Nat) : Bool :=
  let per := 1000000 * s.spr 3 31 16
  let e := (s.upNs - (s.timerAt .cycle).getD 0) % per
  decide (k * per / 4 ≤ e ∧ e < k * per / 4 + s.tpw)

/-- TPk is driven low in its part of the cycle; a pad that has not followed two pulses in a row is a fault (R421). -/
def State.testPulse (s : State) (k : Nat) (follows : Bool) : State :=
  if s.chUp true && s.tpPhase k && !s.safe.tpLow.testBit k then
    let n := if follows then 0 else min 2 (tblGet (fun _ => 0) s.safe.tpBad k + 1)
    let s := { s with safe := { s.safe with tpLow := s.safe.tpLow ||| 2 ^ k, tpBad := tblSet (fun _ => 0) s.safe.tpBad k n } }
    let s := s.startTimer (.pulse k)
    if n = 2 then s.safeFault 5 2 else s
  else s

/-- The test window of TPk ends, 50 µs after its pulse: `low` inputs showed a low level in it, `around` were high just before and after (R422). -/
def State.testWindow (s : State) (k low around : Nat) : State :=
  if s.chUp true && s.safe.tpLow.testBit k && s.past (.pulse k) (s.tpw + 50000) then
    let s := { s with safe := { s.safe with tpLow := s.safe.tpLow &&& (15 - 2 ^ k) } }
    let own := fun i => decide (s.spr (8 + i) 1 1 = 1) && decide (s.spr (8 + i) 3 2 = k)
    let mm := (List.range 16).filter (fun i => s.siUsed i && own i && !low.testBit i)
    let xx := (List.range 16).filter (fun i => s.siUsed i && !own i && low.testBit i && around.testBit i)
    let s := s.each mm (fun i t => t.wr R.SAFE_SIF (putBit (t.rd R.SAFE_SIF) i true))
    let s := s.each xx (fun i t => t.wr R.SAFE_SIF (putBit (t.rd R.SAFE_SIF) (16 + i) true))
    if mm.isEmpty && xx.isEmpty then s else s.safeFault 5 2
  else s

/-- A pair has been inconsistent for DISC ms (R424). -/
def State.pairDisc (s : State) (w : Bool) (p : Nat) : State :=
  if s.chUp w && s.pairOdd w p && s.past (.disc w p) (1000000 * s.spr (24 + p) 15 8) then (s.wr R.SAFE_SIP (putBit (s.rd R.SAFE_SIP) p true)).safeFault 6 (chPd w) else s

/-- The channels have disagreed for 20 ms on a demand or a leg permit (R412); Flashing's removal for the Batten clock is
no disagreement. -/
def State.disagree (s : State) : State :=
  if s.differ && s.past .disag 20000000 then s.safeFault 4 1 else s

/-- CHDLY of a function runs out in a channel (R426). -/
def State.chdlyEnd (s : State) (w : Bool) (f : Nat) : State :=
  if !(s.sfRun w).testBit f || !s.past (.chdly w f) (1000000 * s.sfChdly f) then s
  else if w then ({ s with safe := { s.safe with runW := s.safe.runW &&& (255 - 2 ^ f) } } : State).safeEval
  else ({ s with safe := { s.safe with runF := s.safe.runF &&& (255 - 2 ^ f) } } : State).safeEval

/-- SAFE_CMD.STOP (R425). -/
def State.safeStop (s : State) : State :=
  if s.chUp true then ((s.sfEval true true).sfEval false true).safeOutputs else s

/-- SAFE_CMD.RST (R427). -/
def State.safeRestart (s : State) (m : Nat) : State :=
  if s.chUp true then
    let p := fun f => m.testBit f && !s.sfRsrc f
    ((s.markRestart true p).markRestart false p).safeEval
  else s

/-- The dynamic signals of a channel stop (R411). -/
def State.permitLoss (s : State) (w : Bool) : State :=
  (if w then { s with safe := { s.safe with deadW := true } } else { s with safe := { s.safe with deadF := true } } : State).safeEval

/-- PF returns after a loss of the Batten clock (R439). -/
def State.pfRestore (s : State) : State :=
  if s.bat.clkLoss && s.pdRun 12 && s.permit false then
    ({ s with bat := { s.bat with clkLoss := false } } : State).safeEval
  else s

/-! ### Relay chains (R415 to R419) -/

/-- SAFE_RCREQ is written (R416). -/
def State.rcreq (s : State) (v : Nat) : State :=
  if s.pdRun 2 && !s.on R.SYSCTL_FUSESTAT_TRIMFAIL then (s.put R.SAFE_RCREQ_CLOSE v).safeEval else s

/-- A dark test of a closed chain is due: of the high side TSTPER after the one before, or after the chain closed; of the low side at
the midpoint between two of them (R417). -/
def State.darkDue (s : State) (c : Nat) (high : Bool) : Bool :=
  let closed := max ((s.timerAt (.switch (2 * c))).getD 0) ((s.timerAt (.switch (2 * c + 1))).getD 0)
  let h := (s.timerAt (.dark (2 * c))).getD 0
  let l := (s.timerAt (.dark (2 * c + 1))).getD 0
  let per := 100000000 * s.spr (64 + 4 * c) 15 8
  s.safe.drv.testBit (2 * c) && s.safe.drv.testBit (2 * c + 1) &&
    if high then decide (max closed h + per ≤ s.upNs) else decide (closed < h ∧ l < h ∧ h + per / 2 ≤ s.upNs)

/-- A channel opens its switch of a closed chain for a dark test (R417). -/
def State.darkTest (s : State) (c : Nat) (high : Bool) : State :=
  let k := 2 * c + (!high).toNat
  if s.chUp high && s.darkDue c high && decide (s.darkOf k = 0) then
    (({ s with safe := { s.safe with dark := tblSet (fun _ => 0) s.safe.dark k 1 } } : State).startTimer (.dark k)).chainShow c
  else s

/-- One switch is checked against its read-back, RBT after its command: a dark test is seen open, then passes once the switch conducts
again, or the switch is stuck, which the answer says. -/
def State.checkSwitch (s : State) (c : Nat) (high rb : Bool) : State × Bool :=
  let k := 2 * c + (!high).toNat
  let stuck := if high then R.SAFE_RC_SCH c else R.SAFE_RC_SCL c
  let opn := if high then R.SAFE_RC_SOH c else R.SAFE_RC_SOL c
  let next := fun (t : State) v => ({ t with safe := { t.safe with dark := tblSet (fun _ => 0) t.safe.dark k v } } : State)
  if !s.readable k then (s, false)
  else if !s.commanded k then
    if rb then ((next s 0).raise stuck, true) else (if s.darkOf k = 0 then s else next s 2, false)
  else if rb then (if s.darkOf k = 2 then (next s 0).bump (R.SAFE_RC_TCNT c) else next s 0, false)
  else ((next s 0).raise opn, true)

/-- The read-backs are shown, and checked from RBT after a command on (R417); a stuck switch is a fault. -/
def State.readback (s : State) (c : Nat) (rbh rbl : Bool) : State :=
  if s.pdRun 2 then
    let s := (s.putB (R.SAFE_RC_RBH c) rbh).putB (R.SAFE_RC_RBL c) rbl
    if s.spr (64 + 4 * c) 0 0 = 1 then
      let h := s.checkSwitch c true rbh
      let l := h.1.checkSwitch c false rbl
      (if h.2 || l.2 then l.1.safeFault 7 (chPd h.2) else l.1).chainShow c
    else s
  else s

/-- 250 ms have passed since both switches of a chain took their commands, and no dark test is under way (R417). -/
def State.edmDue (s : State) (c : Nat) : Bool :=
  decide (max ((s.timerAt (.switch (2 * c))).getD 0) ((s.timerAt (.switch (2 * c + 1))).getD 0) + 250000000 ≤ s.upNs) &&
    decide (s.darkOf (2 * c) = 0) && decide (s.darkOf (2 * c + 1) = 0)

/-- The EDM input is checked 250 ms after a chain command (R417). -/
def State.edmCheck (s : State) (c : Nat) : State :=
  let h := s.safe.drv.testBit (2 * c)
  let l := s.safe.drv.testBit (2 * c + 1)
  if s.chUp true && s.edmDue c && decide (s.spr (64 + 4 * c) 0 0 = 1) && decide (s.spr (64 + 4 * c) 21 21 = 1) &&
    ((!h && !l && !s.on (R.SAFE_RC_EDM c)) || (h && l && s.on (R.SAFE_RC_EDM c)))
  then (s.raise (R.SAFE_RC_EDMF c)).safeFault 7 2 else s

/-- Chain c reads back closed: both switches conduct. -/
def State.chainClosed (s : State) (c : Nat) : Bool := s.on (R.SAFE_RC_RBH c) && s.on (R.SAFE_RC_RBL c)

/-! ### Safe frames (R429 to R436) -/

/-- One step of CRC-32C, reflected (R431). -/
def crc32cStep (c : Word) (b : Byte) : Word :=
  (List.range 8).foldl (fun c _ => if c.getLsbD 0 then (c >>> 1) ^^^ 0x82F63B78#32 else c >>> 1) (c ^^^ b.setWidth 32)

/-- CRC-32C (R431). -/
def crc32c (l : List Byte) : Word := ~~~ (l.foldl crc32cStep 0xFFFFFFFF#32)

/-- CMD of a PDU as a channel would send it: functions released, pairs healthy (R430). -/
def State.cmdBits (s : State) (w : Bool) : Nat :=
  mask8 (fun f => !s.sfDem w f) + 256 * mask8 (fun p => !s.pairDem w p)

/-- The PDU of publication t with a sequence number (R430). -/
def State.pdu (s : State) (t : Nat) (seq : Word) : List Byte :=
  let flg := s.locked.toNat + 2 * s.operate.toNat + 4 * s.get R.TIME_STAT_TSYN
  let cmd := if s.locked then 0 else s.cmdBits true
  let body := [1, BitVec.ofNat 8 flg] ++ bytesBE 2 s.safe.session ++ bytesBE 4 (s.rd (R.SAFE_PAR 2)).toNat ++
    bytesBE 4 (s.rd (R.SAFE_PAR (96 + 4 * t))).toNat ++ bytesBE 4 seq.toNat ++ bytesBE 4 s.time.sec ++
    bytesBE 4 s.time.ns ++ bytesBE 2 cmd ++ bytesBE 2 (s.get R.SAFE_LOCK_CAUSE) ++
    (List.range 3).flatMap (fun k => bytesBE 4 (s.rd (R.SAFE_TX_DATA t k)).toNat)
  body ++ bytesBE 4 (crc32c body).toNat

/-- Flashing suppresses a PDU that shows released what it holds in demand (R432). -/
def State.pduBad (s : State) : Bool :=
  !s.locked && decide (s.cmdBits true &&& (0xFFFF - s.cmdBits false) ≠ 0)

/-- A publication sends its PDU on both ports, or it is suppressed; the SEQ is consumed (R432). What is sent is kept in
`txPdu`. -/
def State.publish (s : State) (t : Nat) : State × Bool :=
  if s.chUp true && s.on (R.SAFE_TX_CTRL_EN t) && s.past (.publish t) (1000000 * s.spr (97 + 4 * t) 15 0) then
    let s := s.startTimer (.publish t)
    let seq := tblGet (fun _ => 0) s.safe.txSeq t + 1
    let s := { s with safe := { s.safe with txSeq := tblSet (fun _ => 0) s.safe.txSeq t seq } }
    let s := s.put (R.SAFE_TX_CTRL_SEQL t) seq.toNat
    if !s.chUp false || s.pduBad then (s.raise (R.SAFE_TX_CTRL_SUPR t), false)
    else ({ s with safe := { s.safe with txPdu := tblSet (fun _ => []) s.safe.txPdu t (s.pdu t seq) } }, true)
  else (s, false)

/-- Count in an 8-bit field of SAFE_RXs_CNT, in the Warden's view only. -/
def State.rxCount (s : State) (w : Bool) (r : Ref) : State := if w then s.bumpSat r else s

/-- Set a flag of a subscription in the Warden's view only. -/
def State.rxFlag (s : State) (w : Bool) (r : Ref) : State := if w then s.raise r else s

/-- The registers show the Warden's view of a subscription (R456). -/
def State.rxShow (s : State) (k : Nat) : State :=
  let x := s.rxOf true k
  (((s.putB (R.SAFE_RX_STAT_WDEL k) x.wdel).put (R.SAFE_RX_CMD_CMD k) (rxCmd x))).wr (R.SAFE_RX_SEQ k) x.seq

/-- A copy is accepted as a first copy with the given state after it. -/
def State.rxAccept (s : State) (w : Bool) (k : Nat) (net : Bool) (p : List Byte) (x : RxSt) : State :=
  let seq := BitVec.ofNat 32 (natBE ((p.drop 12).take 4))
  let s := s.setRx w k { x with
    seq := seq, cmd := natBE ((p.drop 24).take 2), wdel := false, first := x.first ++ [⟨seq, net, p, s.upNs⟩] }
  let s := s.startTimer (.rx w k)
  if w then s.put (R.SAFE_RX_CMD_STATUS k) (natBE ((p.drop 26).take 2)) else s

/-- A copy whose age exceeds MAXAGE, or that lies more than 1 ms ahead (R433 step 3). -/
def State.rxStale (s : State) (k : Nat) (p : List Byte) : Bool :=
  let sec := BitVec.ofNat 32 (natBE ((p.drop 16).take 4))
  let age : Int := (BitVec.ofNat 32 s.time.sec - sec).toInt * 1000000000 + (s.time.ns : Int) -
    (natBE ((p.drop 20).take 4) : Int)
  decide ((s.spr (82 + 4 * k) 15 0 : Int) * 1000000 < age) || decide (age < -1000000)

/-- DUPWIN of a subscription in nanoseconds. -/
def State.dupwin (s : State) (k : Nat) : Nat := 1000000 * s.spr (81 + 4 * k) 31 16

/-- One channel handles a copy for subscription k (R433 to R435). -/
def State.rxChannel (s : State) (w : Bool) (k : Nat) (net : Bool) (p : List Byte) : State :=
  let x := s.rxOf w k
  let seq := BitVec.ofNat 32 (natBE ((p.drop 12).take 4))
  let sess := natBE ((p.drop 2).take 2)
  if !s.chUp w then s
  else if p.length < 44 ∨ natBE ((p.drop 40).take 4) ≠ (crc32c (p.take 40)).toNat then s.rxCount w (R.SAFE_RX_CNT_CRCE k)
  else if p.take 1 ≠ [1] ∨ natBE ((p.drop 8).take 4) ≠ (s.rd (R.SAFE_PAR 2)).toNat ∨
    natBE ((p.drop 4).take 4) ≠ (s.rd (R.SAFE_PAR (80 + 4 * k))).toNat then s.rxCount w (R.SAFE_RX_CNT_ADR k)
  else if w && s.on R.TIME_STAT_TSYN && s.rxStale k p then s.rxCount w (R.SAFE_RX_CNT_STL k)
  else if x.sess = some sess then
    let d := (seq - x.seq).toInt
    if 0 < d then
      let s := if 1 < d then s.rxFlag w (R.SAFE_RX_STAT_LOST k) else s
      s.rxAccept w k net p { x with waiting := x.waiting && decide (d ≠ 1) }
    else if d = 0 then
      match x.first.find? (fun e => e.seq = seq && decide (s.upNs < e.at' + s.dupwin k)) with
      | some e =>
        let s := s.setRx w k { x with first := x.first.filter (fun e => e.seq ≠ seq) }
        let s := if w then (s.clear (R.SAFE_RX_STAT_NDA k)).clear (R.SAFE_RX_STAT_NDB k) else s
        if e.pdu.take 44 = p.take 44 then s else s.safeFault 8 (chPd w)
      | none => s.rxFlag w (R.SAFE_RX_STAT_LATE k)
    else s.rxFlag w (R.SAFE_RX_STAT_OLD k)
  else if x.sess.isNone || x.wdel || decide (1 ≤ seq.toNat ∧ seq.toNat ≤ 16) then
    let s := s.rxAccept w k net p { x with sess := some sess, waiting := true, first := [] }
    if w then s.flagPost 11 (R.SAFE_RX_STAT_NSES k) 2 k else s
  else s.rxFlag w (R.SAFE_RX_STAT_OLD k)

/-- Both channels handle a copy for every enabled subscription (R433). -/
def State.safeReceive (s : State) (net : Bool) (p : List Byte) : State :=
  (s.each (List.range 4) (fun k t =>
    if t.on (R.SAFE_RX_STAT_EN k) then ((t.rxChannel true k net p).rxChannel false k net p).rxShow k else t)).safeEval

/-- The first copies that still wait for their second after the oldest one of a list, whose DUPWIN has ended or not. -/
def State.dupLeft (s : State) (k : Nat) (l : List RxCopy) : List RxCopy :=
  match l with
  | [] => []
  | e :: r => if e.at' + s.dupwin k ≤ s.upNs then r else l

/-- DUPWIN of the oldest first copy ends without a second (R435). -/
def State.dupwinEnd (s : State) (k : Nat) : State :=
  let f := s.rxOf false k
  let x := s.rxOf true k
  let s := (s.setRx false k { f with first := s.dupLeft k f.first }).setRx true k { x with first := s.dupLeft k x.first }
  match x.first with
  | [] => s
  | e :: _ =>
    if e.at' + s.dupwin k ≤ s.upNs then
      let s := s.bumpSat (R.SAFE_RX_CNT_SGL k)
      (s.putB (R.SAFE_RX_STAT_NDA k) e.net).putB (R.SAFE_RX_STAT_NDB k) (!e.net)
    else s

/-- The watchdog of a subscription expires in a channel: no new SEQ for WDT ms (R436). -/
def State.rxWatchdog (s : State) (w : Bool) (k : Nat) : State :=
  if s.chUp w && s.on (R.SAFE_RX_STAT_EN k) && !(s.rxOf w k).wdel && s.past (.rx w k) (1000000 * s.spr (81 + 4 * k) 15 0) then
    let s := s.setRx w k { s.rxOf w k with wdel := true }
    let s := if w then (s.rxShow k).flagPost 11 (R.SAFE_RX_STAT_WDE k) 2 k else s
    s.safeEval
  else s

/-- CNTCLR (R456). -/
def State.cntclr (s : State) : State := s.each (List.range 4) (fun k t => t.wr (R.SAFE_RX_CNT k) 0)

/-! ### Supervision (R437 to R440) -/

/-- More than WMAX has passed since the Warden wrote its heartbeat (R437). -/
def State.hbLate (s : State) : Bool := s.past .heartbeat (1000 * s.spr 4 31 16 + 1)

/-- The Warden writes its heartbeat: alternate values, WMIN to WMAX apart (R437). -/
def State.heartbeat (s : State) (v : Word) : State :=
  if s.chUp true then
    let soon := match s.safe.hb with
      | none => false
      | some u => decide (u = v) || !s.past .heartbeat (1000 * s.spr 4 15 0)
    let bad := decide (v ≠ 0x5A5A ∧ v ≠ 0xA5A5) || soon || s.hbLate
    let s := ({ s with safe := { s.safe with hb := some v } } : State).startTimer .heartbeat
    if !s.chUp false then s
    else
      if bad then s.safeFault 1 1 else s
  else s

/-- An observer reports the clock of an island from PD3 to PD15 (R438). -/
def State.clockBad (s : State) (w : Bool) (pd : Nat) : State :=
  if s.chUp w && decide (3 ≤ pd ∧ pd ≤ 15) then
    s.wr R.SAFE_CLKMON (putBit (s.rd R.SAFE_CLKMON) (pd - 3 + (if w then 16 else 0)) true)
  else s

/-- A test of a window is counted: three failed or refused in a row are a fault (R440). -/
def State.winCount (s : State) (k : Nat) (good : Bool) : State :=
  let n := if good then 0 else min 3 (tblGet (fun _ => 0) s.safe.winFail k + 1)
  let s := { s with safe := { s.safe with winFail := tblSet (fun _ => 0) s.safe.winFail k n } }
  if n = 3 then s.safeFault 13 2 else s

/-- 8 h in nanoseconds. -/
def hours8 : Nat := 28800000000000

/-- The Warden starts a self-test of a comparator of a safety window: after INIT and every 8 h, while it tests no other (R440). A
window under a test of another master refuses it, and it is tried again. -/
def State.winTimer (s : State) (k : Nat) (upper : Bool) : State :=
  let due := match s.timerAt (.window (2 * k + upper.toNat)) with | none => true | some t => decide (t + hours8 ≤ s.upNs)
  if s.chUp true && (s.spr 5 15 0).testBit k && due && decide (s.safe.winBy = 0) then
    match (s.win k).test with
    | none =>
      let s := s.startTimer (.window (2 * k + upper.toNat))
      ({ s with safe := { s.safe with winBy := 2 ^ k } } : State).setWin k { s.win k with test := some upper }
    | some _ => s.winCount k false
  else s

/-- The Warden's part of the end of a window test; a test that fails is tried again. -/
def State.winDone (s : State) (k : Nat) (upper pass : Bool) : State :=
  if s.safe.winBy.testBit k then
    let s := if pass then s else s.stopTimer (.window (2 * k + upper.toNat))
    ({ s with safe := { s.safe with winBy := s.safe.winBy &&& (0xFFFF - 2 ^ k) } } : State).winCount k pass
  else s

/-! ### Deliberate reset (R444 to R446) -/

/-- A request with a purpose, 1 to unlock, 2 to edit (R444). -/
def State.unlRequest (s : State) (purp : Nat) : State :=
  if s.chUp true && decide (s.get R.SAFE_STAT_UNLST ≠ 3) then
    let hi := s.openWord
    let s := s.drawn
    let lo := s.openWord
    let s := s.drawn
    let s := (s.wr (R.SAFE_UNLCH 0) hi).wr (R.SAFE_UNLCH 1) lo
    let s := (s.put R.SAFE_STAT_UNLST 1).put R.SAFE_STAT_PURP (purp - 1)
    { s with safe := { s.safe with nonce := hi ++ lo, lockAt := s.rd R.SAFE_LOCK } }
  else s

/-- The message of the response (R444). -/
def State.unlMsg (s : State) : List Byte :=
  bytesBE 8 s.safe.nonce.toNat ++ [BitVec.ofNat 8 (s.get R.SAFE_STAT_PURP + 1)] ++
    bytesBE 4 (s.rd R.SAFE_LOCK).toNat ++ bytesBE 4 (s.rd R.SYSCTL_ID).toNat

/-- UNLRSP7 is written: the check (R444, R569). -/
def State.unlResponse (s : State) (v : Word) : State :=
  if s.chUp true && decide (s.get R.SAFE_STAT_UNLST = 1) then
    let rsp := tblSet (fun _ => 0) s.safe.rsp 7 v
    let key := s.fuseKey 58
    let ok := decide (rspBytes rsp = hmac key s.unlMsg) && !keyZero key && decide (s.rd R.SAFE_LOCK = s.safe.lockAt)
    let s := { s with safe := { s.safe with rsp := [], nonce := 0 } }
    let s := (s.wr (R.SAFE_UNLCH 0) 0).wr (R.SAFE_UNLCH 1) 0
    if ok then (({ s with safe := { s.safe with fails := 0 } } : State).startTimer .pend).put R.SAFE_STAT_UNLST 2
    else
      let n := s.safe.fails + 1
      let s := if n = 3 then s.startTimer .block else s
      let s := ({ s with safe := { s.safe with fails := if n = 3 then 0 else n } } : State).put R.SAFE_STAT_UNLST
        (if n = 3 then 3 else 0)
      s.flagPost 11 R.SAFE_STAT_UNLF 2 0
  else s

/-- PEND ends 60 s after it was reached (R444). -/
def State.pendEnd (s : State) : State :=
  if s.get R.SAFE_STAT_UNLST = 2 ∧ s.past .pend 60000000000 then s.put R.SAFE_STAT_UNLST 0 else s

/-- BLOCKED ends 600 s after it was reached (R444). -/
def State.blockedEnd (s : State) : State :=
  if s.get R.SAFE_STAT_UNLST = 3 ∧ s.past .block 600000000000 then s.put R.SAFE_STAT_UNLST 0 else s

/-- A fault of R441 that the state shows is present: a pair inconsistent for DISC or a switch whose read-back differs from its
command for RBT. -/
def State.faultStands (s : State) : Bool :=
  (List.range 8).any (fun p => s.pairOdd true p || s.pairOdd false p) ||
  (List.range 4).any (fun c => decide (s.spr (64 + 4 * c) 0 0 = 1) &&
    ((s.readable (2 * c) && decide (s.on (R.SAFE_RC_RBH c) ≠ s.commanded (2 * c))) ||
     (s.readable (2 * c + 1) && decide (s.on (R.SAFE_RC_RBL c) ≠ s.commanded (2 * c + 1)))))

/-- An SRST_N pulse as each channel has measured it, µs (R445, R446); `fault`: a fault of R441 is present at an edge. -/
def State.srstPulse (s : State) (lw lf : Nat) (fault : Bool) : State :=
  let acc := fun t => decide (100000 ≤ t ∧ t ≤ 2000000)
  if lw < 1000 ∧ lf < 1000 then s
  else if !(s.chUp true && s.chUp false && acc lw && acc lf) then (if s.pdRun 2 then s.raise R.SAFE_STAT_SRJ else s)
  else if s.locked && decide (s.get R.SAFE_STAT_UNLST = 2) && decide (s.get R.SAFE_STAT_PURP = 0) then
    let s := s.put R.SAFE_STAT_UNLST 0
    if fault || s.faultStands then s
    else
      let s := s.clear R.SAFE_LOCK_CAUSE
      let s := s.put R.SAFE_STAT_STATE (if s.safe.loaded then 3 else 2)
      let s := ((s.sfEval true true).sfEval false true)
      let s := ({ s with safe := { s.safe with runW := 0, runF := 0 } } : State).safeOutputs
      (s.postPlain 11 2 0 (s.rd R.SAFE_LOCK)).askLock
  else s

/-! ### Commissioning and INIT (R447 to R452) -/

/-- The subscriptions and publications of the loaded record (R456); their times count from now. -/
def State.sprApply (s : State) : State :=
  s.each (List.range 4) (fun k t =>
    let t := ((t.startTimer (.rx true k)).startTimer (.rx false k)).startTimer (.publish k)
    (t.put (R.SAFE_RX_STAT_EN k) (t.spr (83 + 4 * k) 0 0)).put (R.SAFE_TX_CTRL_EN k) (t.spr (98 + 4 * k) 0 0))

/-- SAFE_PARCRC shows the CRC that both channels compute (R452). -/
def State.parcrc (s : State) : State := s.wr R.SAFE_PARCRC (sprCrc s.sprWords)

/-- A write to SAFE_PAR (R451, R455). -/
def State.sprWrite (s : State) (k : Nat) (v : Word) : State :=
  if !s.pdRun 2 then s
  else if s.get R.SAFE_STAT_STATE = 1 ∨ s.get R.SAFE_STAT_STATE = 2 then
    let s := (s.wr (R.SAFE_PAR k) v).put R.SAFE_STAT_STATE 2
    (({ s with safe := { s.safe with loaded := false } } : State).startTimer .par).parcrc
  else if s.rd (R.SAFE_PAR k) = v then s
  else s.raise R.SAFE_STAT_PARW

/-- A write to SAFE_CONFIRM (R451, R452). -/
def State.sprConfirm (s : State) (v : Word) : State :=
  if s.chUp true && decide (s.get R.SAFE_STAT_STATE = 2) then
    if v = s.rd R.SAFE_PARCRC ∧ s.sprValid then
      let s := { s with safe := { s.safe with loaded := true, everConf := true } }
      let s := (s.askBurst ⟨.warden, 0x0107F000, s.sprWords, 127⟩).askBurst ⟨.warden, 0x0107F200, s.sprWords, 127⟩
      let s := (s.put R.SAFE_STAT_STATE 3).sprApply
      let s := ((s.sfEval true true).sfEval false true)
      let s := ({ s with safe := { s.safe with runW := 0, runF := 0 } } : State).safeOutputs
      s.postPlain 11 2 0 (s.rd R.SAFE_STAT)
    else s.raise R.SAFE_STAT_CNFE
  else s

/-- SAFE_CMD.EDIT (R451). -/
def State.safeEdit (s : State) : State :=
  if s.chUp true && s.operate then
    if s.get R.SAFE_STAT_UNLST = 2 ∧ s.get R.SAFE_STAT_PURP = 1 ∧ s.sfOn.all (fun f => s.sfDem true f && s.sfDem false f) then
      let s := (s.put R.SAFE_STAT_STATE 2).safeEval
      s.postPlain 11 2 0 (s.rd R.SAFE_STAT)
    else s.raise R.SAFE_STAT_PARW
  else s

/-- Each second the channels recompute the CRC of the confirmed record; `differs`: a result differs (R449). -/
def State.sprCheck (s : State) (w differs : Bool) : State :=
  if s.chUp w && s.safe.loaded && (differs || decide (sprCrc s.sprWords ≠ s.rd (R.SAFE_PAR 127))) then s.safeFault 9 (chPd w)
  else s

/-- The channels' CRCs still differ 100 ms after a write; SAFE_PARCRC reads 0 (R452). -/
def State.pcf (s : State) : State :=
  if s.pdRun 2 && decide (s.get R.SAFE_STAT_STATE = 2) && s.past .par 100000000 then (s.wr R.SAFE_PARCRC 0).safeFault 9 2 else s

/-- Load words into SAFE_PAR. -/
def State.sprLoad (s : State) (l : List Word) : State :=
  l.zipIdx.foldl (fun t x => t.wr (R.SAFE_PAR x.2) x.1) s

/-- A copy of the record in MRAM is marked confirmed and valid. -/
def State.copyGood (s : State) (a : Nat) (mark : Bool) : Bool := mark && (s.sprLoad (s.memWords a 128)).sprValid

/-- The lock record in MRAM is valid (R448). -/
def State.lockValid (s : State) : Bool :=
  let l := s.memWords 0x0107FC00 16
  decide (l.drop 15 = [BitVec.ofNat 32 (crc32 (wordsBytes (l.take 15)))]) && decide (l.drop 3 |>.take 1 |>.all (fun w => w = 0x4C4B0001))

/-- The cleared lock record in MRAM is valid; it carries LCNT. -/
def State.lockCleared (s : State) : Bool :=
  let l := s.memWords 0x0107FC00 16
  decide (l.drop 15 = [BitVec.ofNat 32 (crc32 (wordsBytes (l.take 15)))]) && decide (l.drop 3 |>.take 1 |>.all (fun w => w = 0))

/-- INIT at the release of PD1 and PD2 (R432, R440, R443, R451). -/
def State.safetyInit (s : State) : State :=
  if s.pdRun 1 && s.pdRun 2 && decide (s.get R.SAFE_STAT_STATE = 0) then
    let v := 1 + s.openBelow 65535
    let v := if v = s.safe.session then v % 65535 + 1 else v
    let s := s.drawn
    let old := s.safe
    let s := { s with safe := { safeReset with
      session := v, everConf := old.everConf, markA := old.markA, markB := old.markB, lockSec := old.lockSec,
      lockNs := old.lockNs } }
    let a := s.copyGood 0x0107F000 s.safe.markA
    let b := s.copyGood 0x0107F200 s.safe.markB
    let s := if a then s.sprLoad (s.memWords 0x0107F000 128) else if b then s.sprLoad (s.memWords 0x0107F200 128)
      else s.sprLoad ((List.range 128).map sprDefault)
    let good := a || b
    let s := { s with safe := { s.safe with loaded := good, everConf := s.safe.everConf || good } }
    let s := if good then s.sprApply.parcrc else s
    let s := if s.lockCleared then s.put R.SAFE_LOCK_LCNT (fieldOf (s.memWord 0x0107FC00) 31 24) else s
    let s :=
      if s.lockValid then (s.wr R.SAFE_LOCK (putBit (s.memWord 0x0107FC00) 12 true)).put R.SAFE_STAT_STATE 4
      else s.put R.SAFE_STAT_STATE (if good then 3 else 1)
    let s := ((s.sfEval true true).sfEval false true)
    let s := ({ s with safe := { s.safe with runW := 0, runF := 0 } } : State).safeOutputs
    let s := s.each (List.range 8) (fun k t => t.startTimer (.switch k))
    let s := (s.startTimer .heartbeat).startTimer .cycle
    if s.operate then s.each ((onesOf 16 (s.spr 5 15 0)).take 1) (fun k t => t.winTimer k false) else s
  else s

end Sys2Proof.Machine
end

