-- ==== Sys2Proof/Machine/Lanes.lean ====
section
/-!
DEFINITION. PD14: Purlin lanes with their frames and the remote-leg tile protocol (R489 to R515), the Ethernet MACs (R516
to R519) and the Ridge bus (R520 to R523).
-/

namespace Sys2Proof.Machine

/-- A lane. -/
def State.lane (s : State) (n : Nat) : LaneSt := tblGet (fun _ => laneReset) s.lanes n

/-- Replace a lane. -/
def State.setLane (s : State) (n : Nat) (x : LaneSt) : State :=
  { s with lanes := tblSet (fun _ => laneReset) s.lanes n x }

/-- A lane is enabled in a mode (R489). -/
def State.laneIn (s : State) (n mode : Nat) : Bool :=
  s.pdRun 14 && s.on (R.PURLIN_LANE_CFG_EN n) && decide (s.get (R.PURLIN_LANE_CFG_MODE n) = mode)

/-! ### Line code (R492) -/

/-- A 66-bit block on the line, the bit sent first lowest: sync header, then eight payload bytes, scrambled. -/
abbrev LineBlock := BitVec 66

/-- The payload of a block scrambled with the last 58 line bits, newest highest, and the line bits after it: x^58 + x^39 + 1, bit 0
first (R492). -/
def scramble (prev : BitVec 58) (d : BitVec 64) : BitVec 58 × BitVec 64 :=
  let p : BitVec 122 := prev.setWidth 122
  let x : BitVec 122 := d.setWidth 122
  let a := (x ^^^ (p >>> 19) ^^^ p) &&& 0x7FFFFFFFFF
  let q := p ||| (a <<< 58)
  let b := ((x >>> 39) ^^^ (q >>> 58) ^^^ (q >>> 39)) &&& 0x1FFFFFF
  let t := q ||| (b <<< 97)
  ((t >>> 64).setWidth 58, (t >>> 58).setWidth 64)

/-- The inverse: the payload that was scrambled, and the line bits after it (R492). -/
def descramble (prev : BitVec 58) (r : BitVec 64) : BitVec 58 × BitVec 64 :=
  let t : BitVec 122 := prev.setWidth 122 ||| (r.setWidth 122 <<< 58)
  ((t >>> 64).setWidth 58, ((t >>> 58) ^^^ (t >>> 19) ^^^ t).setWidth 64)

/-- Blocks, sync header and payload, as they go onto the line. -/
def lineOf (prev : BitVec 58) : List (BitVec 2 × BitVec 64) → List LineBlock
  | [] => []
  | b :: r => let x := scramble prev b.2; (x.2 ++ b.1) :: lineOf x.1 r

/-- The blocks that the line brought. -/
def blocksOf (prev : BitVec 58) : List LineBlock → List (BitVec 2 × BitVec 64)
  | [] => []
  | b :: r => let x := descramble prev (b.extractLsb' 2 64); (b.extractLsb' 0 2, x.2) :: blocksOf x.1 r

/-- The bytes of a payload, byte 0 first. -/
def blockBytes (d : BitVec 64) : List Byte := bytesLE 8 d.toNat

/-- A control block of a type. -/
def isCtl (ty : Byte) (b : BitVec 2 × BitVec 64) : Bool := decide (b.1 = 2) && decide (b.2.extractLsb' 0 8 = ty)

/-- What blocks hold: nothing to a receiver, a frame violation, or a frame's SOF bytes 1 to 7, its payload and its CRC (R493). A
frame that ABORT ends counts no violation; outside a frame only data blocks are one. -/
def frameIn (l : List (BitVec 2 × BitVec 64)) : Option (Option (List Byte)) :=
  match l.dropWhile (fun b => !decide (b.1 = 1) && !isCtl 0x78 b) with
  | [] => none
  | b :: r =>
    if decide (b.1 = 1) then some none
    else
      let sof := (blockBytes b.2).drop 1
      let data := r.takeWhile (fun x => decide (x.1 = 1))
      match r.dropWhile (fun x => decide (x.1 = 1)) with
      | [] => some none
      | e :: _ =>
        if isCtl 0xAA e then none
        else if isCtl 0x87 e && decide (data.length = natLE (sof.drop 1 |>.take 1)) then
          some (some (sof ++ data.flatMap (fun x => blockBytes x.2) ++ ((blockBytes e.2).drop 1).take 4))
        else some none

/-- What a receiver takes from line blocks and the 58 line bits before them; RXPOL inverts the line (R491, R492). -/
def State.received (s : State) (n : Nat) (prev : BitVec 58) (line : List LineBlock) : Option (Option (List Byte)) :=
  if s.on (R.PURLIN_LANE_CFG_RXPOL n) then frameIn (blocksOf (~~~prev) (line.map (~~~·))) else frameIn (blocksOf prev line)

/-! ### Frames (R490 to R494) -/

/-- TB of a RATE code in 0.01 ns (R490). -/
def tbOf (rate : Nat) : Nat :=
  match rate with | 0 => 5280 | 1 => 2112 | 2 => 1320 | 3 => 1056 | 4 => 640 | _ => 528

/-- The bytes of a frame that its CRC covers: SOF bytes 1 to 7, then the payload (R493). -/
def frameBody (ftype seq : Nat) (hdr : Word) (payload : List Byte) : List Byte :=
  [BitVec.ofNat 8 ftype, BitVec.ofNat 8 (payload.length / 8), BitVec.ofNat 8 seq] ++ bytesLE 4 hdr.toNat ++ payload

/-- Fill bytes up with zeros to whole blocks. -/
def toBlocks (l : List Byte) : List Byte := l ++ List.replicate ((8 - l.length % 8) % 8) 0

/-- Send a frame on a lane: SOF block, data blocks, EOF block (R493, R494). -/
def State.sendFrame (s : State) (n ftype : Nat) (hdr : Word) (payload : List Byte) : State :=
  let l := s.lane n
  let b := frameBody ftype l.txSeq hdr (toBlocks payload)
  let out := [0x78#8] ++ b ++ [0x87#8] ++ bytesBE 4 (crc32c b).toNat ++ [0, 0, 0]
  s.setLane n { l with txSeq := (l.txSeq + 1) % 256, out := out }

/-- The line blocks of the frame that a lane sent last, the line state before it free (R492); TXPOL inverts them. -/
def State.lineOut (s : State) (n : Nat) : List LineBlock :=
  let l := s.lane n
  let k := l.out.length / 8
  let bs := (List.range k).map (fun j =>
    (if j = 0 ∨ j + 1 = k then 2#2 else 1#2, BitVec.ofNat 64 (natLE ((l.out.drop (8 * j)).take 8))))
  let w := lineOf (Config.lineBefore n l.txSeq s.upNs) bs
  if s.on (R.PURLIN_LANE_CFG_TXPOL n) then w.map (~~~·) else w

/-- A received frame is accepted as to its form: the operand holds SOF bytes 1 to 7, the payload and the CRC (R493). -/
def frameGood (types : List Nat) (f : List Byte) (viol : Bool) : Bool :=
  let len := natLE ((f.drop 1).take 1)
  !viol && types.contains (natLE (f.take 1)) && decide (f.length = 11 + 8 * len) && decide (len ≤ 40) &&
    decide (natBE (f.drop (7 + 8 * len)) = (crc32c (f.take (7 + 8 * len))).toNat)

/-- SEQ of a received frame. -/
def frameSeq (f : List Byte) : Nat := natLE ((f.drop 2).take 1)
/-- The header word of a received frame. -/
def frameHdr (f : List Byte) : Nat := natLE ((f.drop 3).take 4)
/-- The payload of a received frame. -/
def framePay (f : List Byte) : List Byte := (f.drop 7).take (f.length - 11)

/-! ### Enable, alignment and eye scan (R489, R495 to R498) -/

/-- A lane allows a MODE and the settings with it (R489, R490, R509, R524). -/
def State.laneAllowed (s : State) (n : Nat) : Bool :=
  let m := s.get (R.PURLIN_LANE_CFG_MODE n)
  let ns := s.get (R.PURLIN_LANE_TILE_NSAMP n)
  let es := s.get (R.PURLIN_LANE_TILE_ESCB n)
  (decide (m = 0) || (decide (m = 1) && decide (n < 24)) || decide (m = 2) || (decide (m = 3) && decide (28 ≤ n))) &&
  (decide (m = 3) || decide (s.get (R.PURLIN_LANE_CFG_RATE n) < 6)) &&
  decide (ns ≤ 24 ∧ (ns + 3) / 4 ≤ es ∧ es ≤ ns) && decide (s.get (R.PURLIN_LANE_TILE_TRIPACT n) ≠ 3)

/-- LUP of a lane: aligned, latency valid, no burst error under recovery (R500). -/
def State.lupOf (s : State) (n : Nat) : Bool :=
  s.on (R.PURLIN_LANE_STAT_ALIGNED n) && s.on (R.PURLIN_LANE_STAT_LATV n) && !(s.lane n).burst

/-- LUP and its effect on the schedulers of the group: INH while it is 0, reason 22 (R500, R513). -/
def State.refreshLup (s : State) (n : Nat) : State :=
  let up := s.lupOf n
  let s := s.putB (R.PURLIN_LANE_STAT_LUP n) up
  let s := s.wr R.PURLIN_LUP (putBit (s.rd R.PURLIN_LUP) n up)
  if 24 ≤ n ∨ !s.pdRun 12 then s
  else if up then
    (groupRems n).foldl (fun t c => if (t.inhBy c).testBit 22 then (t.uninhibit 22 c).markRelease c else t) s
  else (groupRems n).foldl (fun t c => t.inhibit 22 c) s

/-- EN = 1 is written to an output; a remote scheduler whose lane is down is held (R219, R500). -/
def State.enableOut (s : State) (c : Chan) : State :=
  match c with
  | .dir _ => s.chEnable c false
  | .rem m => (s.refreshLup (m.val / 6)).chEnable c false

/-- LMIN of a group (R506). -/
def State.lminOf (s : State) (g : Nat) : Nat :=
  let tb := tbOf (s.get (R.PURLIN_LANE_CFG_RATE g))
  (64 * (2400 + 18 * tb + 100 * s.get (R.PURLIN_LANE_TPROC_TPROC g) + 1600) + 125 * s.get (R.PURLIN_LANE_LAT_LAT g) + 7999) / 8000

/-- Show LMIN. -/
def State.showLmin (s : State) (g : Nat) : State := s.put (R.PURLIN_LANE_LMIN_LMIN g) (min 0xFFFF (s.lminOf g))

/-- EN = 1 is written to a disabled lane (R489). -/
def State.laneEnable (s : State) (n : Nat) : State :=
  if !s.pdRun 14 ∨ s.on (R.PURLIN_LANE_CFG_EN n) then s
  else if s.laneAllowed n then
    ((s.raise (R.PURLIN_LANE_CFG_EN n)).setLane n laneReset).showLmin n
  else s.raise (R.PURLIN_LANE_STAT_CFE n)

/-- EN = 0 is written to a lane: the receiver is off. -/
def State.laneDisable (s : State) (n : Nat) : State :=
  let s := (((s.clear (R.PURLIN_LANE_CFG_EN n)).clear (R.PURLIN_LANE_STAT_RXLOCK n)).clear (R.PURLIN_LANE_STAT_ALIGNED n)).clear
    (R.PURLIN_LANE_STAT_LATV n)
  let s := if 28 ≤ n then (s.clear (R.ENET_STAT_LINK (n - 28))).clear (R.ENET_STAT_ANDONE (n - 28)) else s
  ((s.clear (R.PURLIN_LANE_STAT_KEYW n)).setLane n laneReset).refreshLup n

/-- A lane burst error (R513). -/
def State.laneBurst (s : State) (n : Nat) : State :=
  if s.laneIn n 1 then
    let s := s.setLane n { s.lane n with burst := true, okDown := 0, okUp := 0 }
    (s.flagPost 12 (R.PURLIN_LANE_STAT_BURST n) 14 n).refreshLup n
  else s

/-- Alignment is lost (R497, R513). -/
def State.alignLost (s : State) (n : Nat) : State :=
  if s.on (R.PURLIN_LANE_STAT_ALIGNED n) then
    let s := ((s.clear (R.PURLIN_LANE_STAT_ALIGNED n)).clear (R.PURLIN_LANE_STAT_LATV n)).raise (R.PURLIN_LANE_STAT_ALOST n)
    let s := s.bumpSat (R.PURLIN_LANE_CNT_ALC n)
    let s := s.setLane n { s.lane n with lats := [], rxSeq := none }
    (s.laneBurst n).refreshLup n
  else s

/-- Clock and data recovery locks (R495). -/
def State.cdrLock (s : State) (n : Nat) : State :=
  if s.pdRun 14 && s.on (R.PURLIN_LANE_CFG_EN n) && decide (s.get (R.PURLIN_LANE_CFG_MODE n) ≠ 0) then
    s.raise (R.PURLIN_LANE_STAT_RXLOCK n)
  else s

/-- RXLOCK falls (R497). -/
def State.rxlockFall (s : State) (n : Nat) : State :=
  if s.pdRun 14 then (s.clear (R.PURLIN_LANE_STAT_RXLOCK n)).alignLost n else s

/-- The lane is in a mode of R492 and enabled. -/
def State.framed (s : State) (n : Nat) : Bool := s.laneIn n 1 || s.laneIn n 2

/-- A window of 1024 blocks ends (R495, R497). -/
def State.hbadWindow (s : State) (n bad : Nat) : State :=
  if s.framed n && s.on (R.PURLIN_LANE_STAT_RXLOCK n) then
    let s := s.put (R.PURLIN_LANE_STAT_HBAD n) (min 1024 bad)
    if 16 ≤ bad then s.alignLost n else s
  else s

/-- SLIP (R495). -/
def State.slip (s : State) (n : Nat) : State :=
  if s.framed n then s.setLane n { s.lane n with slips := ((s.lane n).slips + 1) % 66 } else s

/-- Send the entry size of RXQ (R515). -/
def State.sendMcfg (s : State) (n : Nat) : State :=
  if s.laneIn n 2 && s.on (R.PURLIN_LANE_STAT_ALIGNED n) then
    s.sendFrame n 7 (BitVec.ofNat 32 (s.esize (s.get (R.PURLIN_LANE_MSG_RXQ n)))) []
  else s

/-- ALIGN (R496, R515). -/
def State.align (s : State) (n : Nat) : State :=
  if s.framed n && !s.on (R.PURLIN_LANE_STAT_ALIGNED n) then
    let s := (s.raise (R.PURLIN_LANE_STAT_ALIGNED n)).clear (R.PURLIN_LANE_STAT_LATV n)
    let s := s.setLane n { s.lane n with lats := [], rxSeq := none }
    (s.refreshLup n).sendMcfg n
  else s

/-- UNALIGN (R497). -/
def State.unalign (s : State) (n : Nat) : State :=
  if s.framed n then ((s.clear (R.PURLIN_LANE_STAT_ALIGNED n)).clear (R.PURLIN_LANE_STAT_LATV n)).refreshLup n else s

/-- ESGO (R498). -/
def State.esgo (s : State) (n : Nat) : State :=
  if s.pdRun 14 && s.on (R.PURLIN_LANE_CFG_EN n) then
    ((s.wr (R.PURLIN_LANE_ESERR n) 0).setLane n
      { s.lane n with scan := some (min 24 (s.get (R.PURLIN_LANE_ESCAN_BITS n))) }).startTimer (.scan n)
  else s

/-- How long a lane takes to receive 2^(b + 16) bits, ns (R490, R498). -/
def State.scanNs (s : State) (n b : Nat) : Nat :=
  if s.laneIn n 3 then 2 ^ (b + 16) * 4 / 5 else 2 ^ (b + 16) * tbOf (s.get (R.PURLIN_LANE_CFG_RATE n)) / 6600

/-- An eye-scan point ends, its bits received, with a number of disagreements among them (R498). -/
def State.eyeDone (s : State) (n errs : Nat) : State :=
  match (s.lane n).scan with
  | some b =>
    if s.past (.scan n) (s.scanNs n b) then
      ((s.wr (R.PURLIN_LANE_ESERR n) (BitVec.ofNat 32 (min 0xFFFFFFFF (min (2 ^ (b + 16)) errs)))).raise
        (R.PURLIN_LANE_STAT_ESD n)).setLane n { s.lane n with scan := none }
    else s
  | none => s

/-! ### Downstream frames (R499 to R506) -/

/-- The scheduler of a slot is carried: MASTER and PHASE as those of slot 0 (R499). -/
def State.carried (s : State) (g k : Nat) : Bool :=
  decide (s.rlMaster (6 * g + k) = s.rlMaster (6 * g)) &&
    decide (s.rd (R.BATTEN_RL_PHASE (6 * g + k)) = s.rd (R.BATTEN_RL_PHASE (6 * g)))

/-- MMX (R499). -/
def State.mmx (s : State) (g : Nat) : Bool := (List.range 6).any (fun k => !s.carried g k)

/-- EN of a slot in a frame (R501). -/
def State.slotEn (s : State) (g k : Nat) : Bool :=
  s.carried g k && s.legsFree && !(s.lane g).hold && s.pdRun 12 &&
    decide (s.get (R.BATTEN_RL_STAT_STATE (6 * g + k)) = 2) && (s.brl (6 * g + k)).driving

/-- EN bits of a frame. -/
def State.enBits (s : State) (g : Nat) : Nat :=
  (List.range 6).foldl (fun m k => if s.slotEn g k then m + 2 ^ k else m) 0

/-- The release cycle of a group, which is that of its first scheduler, asks for a DTIM (R499, R501). -/
def State.dtimDue (s : State) (m : Nat) : State :=
  if m % 6 = 0 ∧ s.laneIn (m / 6) 1 then
    (s.setLane (m / 6) { s.lane (m / 6) with due := true }).startTimer (.mid (m / 6))
  else s

/-- A DTIM frame of group g whose SOF departs X fine units after the release cycle, measured in steps of 4 (R501, R504, R506). -/
def State.dtim (s : State) (g x : Nat) : State :=
  if s.laneIn g 1 && (s.lane g).due then
    let s := s.putB (R.PURLIN_LANE_STAT_MMX g) (s.mmx g)
    let s := if s.legsFree then s.setLane g { s.lane g with hold := false } else s.setLane g { s.lane g with hold := true }
    let tb := tbOf (s.get (R.PURLIN_LANE_CFG_RATE g))
    let x := min x ((2400 + 2 * tb) * 64 / 125) / 4 * 4
    let dep : Int := (s.get (R.BATTEN_LEAD_LEAD g) * 64 : Nat) - (x : Int) - (s.get (R.PURLIN_LANE_LAT_LAT g) : Int)
    let late := decide (dep * 125 < (64 * (16 * tb + 100 * s.get (R.PURLIN_LANE_TPROC_TPROC g)) : Nat))
    let s := if late then (s.raise (R.PURLIN_LANE_STAT_LLE g)).postFlagLimited 12 (R.PURLIN_LANE_STAT_LLE g) 14 g else s
    let en := if late then 0 else s.enBits g
    let smp := fineVal (s.presc (s.rlMaster (6 * g))) false (s.rd (R.BATTEN_RL_SAMPLE (6 * g)))
    let per := (s.brl (6 * g)).per
    let t25 := fun (v : Nat) => bytesLE 4 (v % 2 ^ 25)
    let times := (List.range 6).flatMap (fun k =>
      let r := (s.brl (6 * g + k)).cur
      t25 r.upOn ++ t25 r.upOff ++ t25 r.loOn ++ t25 r.loOff)
    let code := (List.range 6).foldl (fun m k => m + (s.rlLoop (6 * g + k)).code % 16 * 16 ^ k) 0
    let seq := (s.lane g).txSeq
    let tail := [BitVec.ofNat 8 (en + 64 * s.get (R.PURLIN_LANE_STAT_KEYW g) + 128 * late.toNat)] ++ bytesLE 3 code ++
      [BitVec.ofNat 8 seq, 0#8] ++ bytesLE 2 (s.get (R.PURLIN_LANE_TILE_TWD g))
    let s := s.sendFrame g 1 (wordOfInt dep) (t25 per ++ t25 smp ++ times ++ tail)
    let l := s.lane g
    s.setLane g { l with
      due := false, tail := tail, okDown := min 16 (l.okDown + 1), dtims := ((seq, (s.brl (6 * g)).start, per, smp) :: l.dtims).take 8 }
  else s

/-- floor(P/2) base ticks have passed since the release cycle whose DTIM has been sent (R502). -/
def State.midPeriod (s : State) (g : Nat) : Bool :=
  s.laneIn g 1 && !(s.lane g).tail.isEmpty && !(s.lane g).due && s.past (.mid g) (s.nsOfFine ((s.brl (6 * g)).per / 128 * 64)).toNat

/-- The DMID frame of a period of group g, dropped while another frame is under way; it repeats what the DTIM carried, asking for a
KEY frame also where that has been due since (R502, R511). -/
def State.dmid (s : State) (g : Nat) (busy : Bool) : State :=
  if s.midPeriod g then
    let s := s.stopTimer (.mid g)
    if busy then s.raise (R.PURLIN_LANE_STAT_DMS g)
    else
      let b0 := natLE ((s.lane g).tail.take 1)
      let b := b0 % 64 &&& s.enBits g
      s.sendFrame g 2 0 ([BitVec.ofNat 8 (b + max (b0 / 64 % 2) (s.get (R.PURLIN_LANE_STAT_KEYW g)) * 64)] ++ (s.lane g).tail.drop 1)
  else s

/-- A DINH frame while safe pulse inhibit or a Ridge trip is in force (R503). -/
def State.dinh (s : State) (g : Nat) : State :=
  if s.laneIn g 1 && !s.legsFree then
    ((s.setLane g { s.lane g with hold := true }).sendFrame g 3 0 []).startTimer (.dinh g)
  else s

/-- DINH is repeated every 2 µs (R503). -/
def State.dinhAgain (s : State) (g : Nat) : State := if s.past (.dinh g) 2000 then s.dinh g else s

/-! ### The upstream frame (R505, R508 to R514) -/

/-- Read the samples of an area: value, whether it depends on its reference, whether it is truncated (R509, R510).
`k` counts escapes; the result is in the order of the indices from `i`. -/
def decodeSamples (area : List Byte) (trn : Nat) (refs : Tbl (BitVec 16)) (i k : Nat) : Nat → List (BitVec 16 × Bool × Bool)
  | 0 => []
  | n + 1 =>
    let byte := fun j => (area.getD j 0)
    if i < trn then
      if byte i = 0x80 then
        (byte (area.length - 1 - 2 * k) ++ byte (area.length - 2 - 2 * k), false, false) ::
          decodeSamples area trn refs (i + 1) (k + 1) n
      else (tblGet (fun _ => 0) refs i + (byte i).signExtend 16, true, false) :: decodeSamples area trn refs (i + 1) k n
    else
      (BitVec.ofNat 16 ((natLE area >>> (8 * trn + 12 * (i - trn))) % 4096 * 16), false, true) ::
        decodeSamples area trn refs (i + 1) k n

/-- The configured contexts that bind a sample of lane g. -/
def State.laneCtxs (s : State) (g : Nat) : List Nat :=
  s.cfgd.filter (fun c => (List.range (s.ncomp c)).any (fun k =>
    decide (fieldOf (s.samp c k) 31 30 = 1) && decide (fieldOf (s.samp c k) 29 24 = g)))

/-- A context receives the samples of a set: those it awaits and the report of invalid ones (R511, R512). -/
def State.feedCtx (s : State) (g : Nat) (inst : Word) (vals : List (BitVec 16 × Bool)) (c : Nat) : State :=
  let ks := (List.range (s.ncomp c)).filter (fun k =>
    decide (fieldOf (s.samp c k) 31 30 = 1) && decide (fieldOf (s.samp c k) 29 24 = g))
  let s := s.each ks (fun k t =>
    match vals[fieldOf (t.samp c k) 23 16]? with
    | none => t
    | some v =>
      t.takeParts c (fun a k => (tblGet (fun _ => none) a.part k).isNone && decide (0 ≤ stampDiff inst a.stamp))
        [(k, v.1 ++ 0#16)])
  if ks.any (fun k => match vals[fieldOf (s.samp c k) 23 16]? with | some v => !v.2 | none => false) then s.fbRaise c else s

/-- Report every sample of a lane invalid (R511). -/
def State.laneInvalid (s : State) (g : Nat) : State := s.each (s.laneCtxs g) (fun c t => t.fbRaise c)

/-- A latency sample, doubled (R505). -/
def State.latSample (s : State) (g : Nat) (twice : Int) : State :=
  let l := s.lane g
  let ls := (twice :: l.lats).take 16
  let s := s.setLane g { l with lats := ls }
  if ls.length = 16 then
    let s := s.wr (R.PURLIN_LANE_LAT g) (wordOfInt ((ls.foldl (· + ·) 0 + 16) / 32))
    ((s.raise (R.PURLIN_LANE_STAT_LATV g)).showLmin g).refreshLup g
  else s

/-- Trips of the tile (R514). -/
def State.tileTrips (s : State) (g bits : Nat) : State :=
  let s := s.each (onesOf 6 bits) (fun k t =>
    (t.wr (R.PURLIN_LANE_TRIP g) (putBit (t.rd (R.PURLIN_LANE_TRIP g)) k true)).postFlag 12 ⟨R.PURLIN_LANE_TRIP g, k, k⟩ 14 g)
  if bits % 64 = 0 ∨ !s.pdRun 12 then s
  else match s.get (R.PURLIN_LANE_TILE_TRIPACT g) with
    | 1 => (groupRems g).zipIdx.foldl (fun t x => if bits.testBit x.2 then t.chDisable x.1 else t) s
    | 2 => (groupRems g).foldl (fun t c => t.chDisable c) s
    | _ => s

/-- Switching times and the code in force of a slot; the times count once the tile has acknowledged the code that the loop sends,
and those before a new acknowledge are dropped (R242, R244, R508, R514). -/
def State.tileTimes (s : State) (m rise fall code : Nat) : State :=
  let l := s.rlLoop m
  let take := fun (o : Option Nat) w =>
    if bitsOf w 15 15 = 1 ∧ bitsOf w 14 14 = 0 then some (match o with | some k => min k (w % 4096) | none => w % 4096) else o
  let sw := if l.ackPend && decide (code = l.code) then none
    else if l.acked = l.code then take (take l.minSw rise) fall else l.minSw
  s.setRlLoop m { l with minSw := sw, acked := code, ackPend := l.ackPend && decide (code ≠ l.code) }

/-- SEQ, KEY and the tile's reports of an accepted UPS frame: SEQG, KEYW, TWF, OVLT (R508, R511). -/
def State.upsFlags (s : State) (g seq fl : Nat) : State :=
  let l := s.lane g
  let gap := match l.rxSeq with | some q => decide (seq ≠ (q + 1) % 256) | none => true
  let s := if gap && l.rxSeq.isSome then s.bumpSat (R.PURLIN_LANE_CNT_SEQG g) else s
  let s := if fl.testBit 1 then s.clear (R.PURLIN_LANE_STAT_KEYW g)
    else if gap then s.raise (R.PURLIN_LANE_STAT_KEYW g) else s
  let s := if fl.testBit 3 then s.raise (R.PURLIN_LANE_STAT_TWF g) else s
  let s := if fl.testBit 4 then s.raise (R.PURLIN_LANE_STAT_OVLT g) else s
  s.setLane g { s.lane g with rxSeq := some seq, okUp := if gap then 0 else l.okUp }

/-- The references after a frame (R509). -/
def newRefs (dec : List (BitVec 16 × Bool × Bool)) : Tbl (BitVec 16) :=
  dec.zipIdx.foldl (fun t x => tblSet (fun _ => (0 : BitVec 16)) t x.2 x.1.1) []

/-- The samples of an accepted UPS frame with their validity; truncation is counted (R509 to R511). -/
def State.upsSamples (s : State) (g fl : Nat) (p : List Byte) : State × List (BitVec 16 × Bool) :=
  let ns := s.get (R.PURLIN_LANE_TILE_NSAMP g)
  let es := s.get (R.PURLIN_LANE_TILE_ESCB g)
  let l := s.lane g
  let trn := min ns (natLE ((p.drop 3).take 1))
  let dec := decodeSamples ((p.drop 40).take (ns + 2 * es)) trn (if fl.testBit 1 then [] else l.refs) 0 0 ns
  let s := if trn < ns then (s.raise (R.PURLIN_LANE_STAT_TRNF g)).bumpSat (R.PURLIN_LANE_CNT_TRNC g) else s
  let bad := s.on (R.PURLIN_LANE_STAT_KEYW g)
  (s.setLane g { l with refs := newRefs dec }, dec.map (fun d => (d.1, !(d.2.1 && bad))))

/-- A good UPS frame counts toward the recovery of a burst error (R513). -/
def State.upsGood (s : State) (g : Nat) : State :=
  let l := s.lane g
  let up := min 16 (l.okUp + 1)
  let done := l.burst && decide (16 ≤ up) && decide (16 ≤ l.okDown)
  (s.setLane g { l with okUp := up, burst := l.burst && !done }).refreshLup g

/-- The samples go to the contexts that bind them (R512). -/
def State.upsFeed (s : State) (g seqd : Nat) (half : Bool) (vals : List (BitVec 16 × Bool)) : State :=
  match (s.lane g).dtims.find? (fun d => d.1 = seqd) with
  | some d =>
    let off := if half then (d.2.2.2 + d.2.2.1 / 2) % max 1 d.2.2.1 else d.2.2.2
    s.each (s.laneCtxs g) (fun c t => t.feedCtx g (d.2.1 + s.nsOfFine off) vals c)
  | none => s

/-- The content of an accepted UPS frame (R505, R508 to R514); `rtt` in fine units. -/
def State.upsAccept (s : State) (g : Nat) (f : List Byte) (rtt : Nat) : State :=
  let p := framePay f
  let fl := natLE ((p.drop 1).take 1)
  let code := natLE ((p.drop 5).take 3)
  let s := s.upsFlags g (frameSeq f) fl
  let r := s.upsSamples g fl p
  let s := r.1
  let s := if fl.testBit 5 && (s.lane g).dtims.any (fun d => d.1 = natLE ((p.drop 2).take 1)) then
      s.latSample g ((rtt : Int) - (frameHdr f : Int) + 2 * s.getS (R.PURLIN_LANE_ASYM_ASYM g)) else s
  let s := s.each (List.range 6) (fun k t => t.tileTimes (6 * g + k) (natLE ((p.drop (16 + 4 * k)).take 2))
    (natLE ((p.drop (18 + 4 * k)).take 2)) (code / 16 ^ k % 16))
  let s := (s.tileTrips g (natLE ((p.drop 4).take 1))).upsFeed g (natLE (p.take 1)) (fl.testBit 0) r.2
  if fl.testBit 2 then s.laneBurst g else s.upsGood g

/-- An upstream frame arrives (R493, R508, R511, R513). -/
def State.ups (s : State) (g : Nat) (f : List Byte) (viol : Bool) (rtt : Nat) : State :=
  if s.laneIn g 1 && s.on (R.PURLIN_LANE_STAT_ALIGNED g) then
    let need := (40 + s.get (R.PURLIN_LANE_TILE_NSAMP g) + 2 * s.get (R.PURLIN_LANE_TILE_ESCB g) + 7) / 8
    if frameGood [4] f viol && decide (natLE ((f.drop 1).take 1) = need) then s.upsAccept g f rtt
    else ((s.bumpSat (R.PURLIN_LANE_CNT_CRCE g)).laneInvalid g).laneBurst g
  else s

/-! ### Lane messages (R515) -/

/-- The lane pops a message and sends it. -/
def State.msgSend (s : State) (n : Nat) : State :=
  let l := s.lane n
  if s.laneIn n 2 && s.on (R.PURLIN_LANE_STAT_ALIGNED n) && decide (l.unacked.length < l.free) then
    let r := s.qPopFree (s.get (R.PURLIN_LANE_MSG_TXQ n)) 256
    if r.2.code ≠ 0 then r.1
    else if r.1.get (R.PURLIN_LANE_MSG_PEER n) < r.2.len then r.1.raise (R.PURLIN_LANE_STAT_MTB n)
    else
      let s := r.1.setLane n { r.1.lane n with unacked := l.unacked ++ [l.txSeq] }
      s.sendFrame n 5 (BitVec.ofNat 32 r.2.len) r.2.msg
  else s

/-- Whether a frame of a MSG lane is accepted; a rejected one is counted. -/
def State.msgFrame (s : State) (n ftype : Nat) (f : List Byte) (viol : Bool) : State × Bool :=
  if s.laneIn n 2 && s.on (R.PURLIN_LANE_STAT_ALIGNED n) then
    if frameGood [ftype] f viol then (s.setLane n { s.lane n with rxSeq := some (frameSeq f) }, true)
    else (s.bumpSat (R.PURLIN_LANE_CNT_CRCE n), false)
  else (s, false)

/-- A MSG frame arrives: pushed whole into RXQ and answered with MACK. -/
def State.msgRecv (s : State) (n : Nat) (f : List Byte) (viol : Bool) : State :=
  let len := frameHdr f % 512
  let bad := decide (natLE ((f.drop 1).take 1) ≠ (len + 7) / 8)
  let r := s.msgFrame n 5 f (viol || bad)
  if r.2 then
    let q := r.1.get (R.PURLIN_LANE_MSG_RXQ n)
    let u := r.1.qPushFree q ((framePay f).take len)
    u.1.sendFrame n 6 (BitVec.ofNat 32 (frameSeq f + 256 * u.2.code + 65536 * u.1.get (R.QUEUE_STAT_FREE q))) []
  else r.1

/-- A MACK frame arrives. -/
def State.mackRecv (s : State) (n : Nat) (f : List Byte) (viol : Bool) : State :=
  let r := s.msgFrame n 6 f viol
  if r.2 then
    let h := frameHdr f
    let l := r.1.lane n
    let s := r.1.setLane n { l with free := bitsOf h 24 16, unacked := l.unacked.erase (h % 256) }
    if bitsOf h 15 8 = 0 then s else s.flagPost 12 (R.PURLIN_LANE_STAT_MTB n) 14 n
  else r.1

/-- An MCFG frame arrives. -/
def State.mcfgRecv (s : State) (n : Nat) (f : List Byte) (viol : Bool) : State :=
  let r := s.msgFrame n 7 f viol
  if r.2 then r.1.put (R.PURLIN_LANE_MSG_PEER n) (frameHdr f) else r.1

/-- A frame arrives on a MSG lane: its type says which; any other is rejected (R493, R494). -/
def State.laneFrame (s : State) (n : Nat) (prev : BitVec 58) (line : List LineBlock) : State :=
  match s.received n prev line with
  | none => s
  | some none => (s.msgFrame n 5 [] true).1
  | some (some f) =>
    if natLE (f.take 1) = 6 then s.mackRecv n f false
    else if natLE (f.take 1) = 7 then s.mcfgRecv n f false
    else s.msgRecv n f false

/-- A frame arrives from a tile (R493). -/
def State.tileFrame (s : State) (g : Nat) (prev : BitVec 58) (line : List LineBlock) (rtt : Nat) : State :=
  match s.received g prev line with
  | none => s
  | some none => s.ups g [] true rtt
  | some (some f) => s.ups g f false rtt

/-! ### Ethernet MACs (R480, R482, R516 to R519) -/

/-- A MAC. -/
def State.enet (s : State) (e : Nat) : EnetSt := tblGet (fun _ => enetReset) s.enets e

/-- Replace a MAC. -/
def State.setEnet (s : State) (e : Nat) (x : EnetSt) : State :=
  { s with enets := tblSet (fun _ => enetReset) s.enets e x }

/-- Write bytes as a master other than a core: only shared and supervisor SRAM take them, a marked word only where it
is covered whole (R41). -/
def State.dmaWrite (s : State) (a : Nat) (bs : List Byte) : State :=
  if inSram a bs.length then
    (bs.zipIdx.foldl (fun t x =>
      let w := (a + x.2) / 8 * 8
      match t.queueAt (a + x.2) with
      | some q => t.raise (R.QUEUE_STAT_PRV q)
      | none => if t.marked (a + x.2) && !decide (a ≤ w ∧ w + 8 ≤ a + bs.length) then t else (t.setByte (a + x.2) x.1)) s : State)
      |> fun t => { t with ecc := t.ecc.filter (fun w => !decide (a ≤ w ∧ w + 8 ≤ a + bs.length)) }
  else s

/-- A ring lies in the supervisor SRAM (R517). -/
def ringOk (base n : Nat) : Bool := decide (n ≠ 0) && decide (0x00C00000 ≤ base ∧ base + 16 * n ≤ 0x00D80000)

/-- EN = 1 is written to a disabled MAC (R517, R525). -/
def State.enetEnable (s : State) (e : Nat) : State :=
  let s := s.wr (R.ENET_ERR e) 0
  if ringOk (s.get (R.ENET_RXBASE_BASE e) * 16) (s.get (R.ENET_RING_RXN e)) &&
    ringOk (s.get (R.ENET_TXBASE_BASE e) * 16) (s.get (R.ENET_RING_TXN e))
  then ((s.raise (R.ENET_CFG_EN e)).clear (R.ENET_RXIDX_NEXT e)).clear (R.ENET_TXIDX_NEXT e)
  else s.raise (R.ENET_STAT_CFE e)

/-- A MAC works: enabled, and its lane in ENET mode (R516). -/
def State.macRuns (s : State) (e : Nat) : Bool := s.on (R.ENET_CFG_EN e) && s.laneIn (28 + e) 3

/-- EN = 0 is written to a MAC: its link is gone. -/
def State.enetDisable (s : State) (e : Nat) : State :=
  ((s.clear (R.ENET_CFG_EN e)).clear (R.ENET_STAT_LINK e)).clear (R.ENET_STAT_ANDONE e)

/-- A MAC carries safe frames (R519). -/
def State.safePort (s : State) (e : Nat) : Bool :=
  decide (e / 2 = s.spr 1 8 8) && (List.range 4).any (fun k => s.on (R.SAFE_RX_STAT_EN k) || s.on (R.SAFE_TX_CTRL_EN k))

/-- EtherType and payload of a frame without its frame check, past a VLAN tag. -/
def etherOf (f : List Byte) : Nat × List Byte :=
  if natBE ((f.drop 12).take 2) = 0x8100 then (natBE ((f.drop 16).take 2), f.drop 18)
  else (natBE ((f.drop 12).take 2), f.drop 14)

/-- The station address of a MAC, first byte sent in front (R525). -/
def State.macAddr (s : State) (e : Nat) : List Byte :=
  bytesBE 2 (s.get (R.ENET_MACH_ADDR e)) ++ bytesBE 4 (s.get (R.ENET_MACL_ADDR e))

/-- A stamp of a MAC in 1/64 ns, correction added: NS32 above bit 6 and FR6 (R480). -/
def State.ptpStamp (s : State) (corr : Int) : Nat :=
  (((s.stampL.toNat * 64 + s.time.frac / 2 ^ 26 : Nat) : Int) + corr) % (2 ^ 38 : Nat) |>.toNat

/-- The stamp word of a descriptor: SC and FR6. -/
def State.stampHi (s : State) (v : Nat) : Nat := (s.get R.TIME_STAT_STEPCNT % 4 * 64 + v % 64) * 2 ^ 24

/-- A frame is accepted by its destination (R516). -/
def State.macAccepts (s : State) (e : Nat) (f : List Byte) : Bool :=
  let d := f.take 6
  s.on (R.ENET_CFG_PROM e) || decide (d = s.macAddr e) || decide (d = List.replicate 6 0xFF#8) ||
    decide (natBE d = 0x011B19000000) || decide (natBE d = 0x0180C200000E)

/-- A frame arrives at a MAC, given without its frame check (R516 to R519). -/
def State.enetReceive (s : State) (e : Nat) (f : List Byte) (fcs : Bool) : State :=
  if !s.macRuns e then s
  else if 2000 < f.length + 4 then (s.raise (R.ENET_STAT_LONG e)).bumpSat (R.ENET_ERR_LONGC e)
  else if !fcs then (s.raise (R.ENET_STAT_FCSE e)).bumpSat (R.ENET_ERR_FCSC e)
  else if f.length < 60 then s
  else if s.safePort e && decide ((etherOf f).1 = s.spr 1 31 16) then s.safeReceive (e % 2 = 1) ((etherOf f).2)
  else if !s.macAccepts e f then s
  else
    let i := s.get (R.ENET_RXIDX_NEXT e)
    let a := s.get (R.ENET_RXBASE_BASE e) * 16 + 16 * i
    if bitAt (s.memWord a) 31 then
      let st := s.ptpStamp (s.getS (R.TIME_PT_INC_CORR e))
      let s := s.dmaWrite (s.memWord (a + 4)).toNat f
      let s := s.dmaWrite a (bytesLE 4 f.length ++ bytesLE 4 (s.memWord (a + 4)).toNat ++
        bytesLE 4 (s.stampHi st) ++ bytesLE 4 (st / 64))
      s.put (R.ENET_RXIDX_NEXT e) (if i + 1 < s.get (R.ENET_RING_RXN e) then i + 1 else 0)
    else (s.raise (R.ENET_STAT_RXO e)).bumpSat (R.ENET_ERR_RXDC e)

/-- KICK (R517). -/
def State.kick (s : State) (e : Nat) : State :=
  if s.pdRun 14 && s.on (R.ENET_CFG_EN e) then s.setEnet e { s.enet e with kick := true } else s

/-- Replace bytes of a list from an offset. -/
def patch (f : List Byte) (off : Nat) (b : List Byte) : List Byte := (f.take off ++ b ++ f.drop (off + b.length)).take f.length

/-- A transmit frame with its one-step fields filled in (R482, R518): control and stamp words of its descriptor, egress
stamp, full time of the egress in 1/64 ns. -/
def oneStep (f : List Byte) (w0 w2 w3 : Word) (eg full : Nat) : List Byte :=
  let o := fieldOf w2 23 16
  let ty := natLE ((f.drop o).take 1) % 16
  if (etherOf f).1 ≠ 0x88F7 then f
  else
    let f := if bitAt w0 29 ∧ ty = 0 then
        patch f (o + 34) (bytesBE 6 (full / 64 / 1000000000) ++ bytesBE 4 (full / 64 % 1000000000)) else f
    if bitAt w0 28 ∧ ty = 3 then
      let d := (eg + 2 ^ 38 - (w3.toNat * 64 + fieldOf w2 29 24)) % 2 ^ 38
      patch f (o + 8) (bytesBE 8 (natBE ((f.drop (o + 8)).take 8) + d * 2 ^ 10))
    else f

/-- The frame of the next ready transmit descriptor has left (R517, R518). -/
def State.enetSent (s : State) (e : Nat) : State :=
  let i := s.get (R.ENET_TXIDX_NEXT e)
  let a := s.get (R.ENET_TXBASE_BASE e) * 16 + 16 * i
  let w0 := s.memWord a
  if !(s.macRuns e && (s.enet e).kick) then s
  else if !bitAt w0 31 then s.setEnet e { s.enet e with kick := false }
  else
    let w2 := s.memWord (a + 8)
    let corr := s.getS (R.TIME_PT_EGC_CORR e)
    let eg := s.ptpStamp corr
    let full := (((s.nowNs * 64 + s.time.frac / 2 ^ 26 : Nat) : Int) + corr).toNat
    let f := oneStep (s.bytes (s.memWord (a + 4)).toNat (fieldOf w0 10 0)) w0 w2 (s.memWord (a + 12)) eg full
    let s := if bitAt w0 30 then
        s.dmaWrite (a + 8) (bytesLE 4 (s.stampHi eg + w2.toNat % 2 ^ 24) ++ bytesLE 4 (eg / 64)) else s
    let s := s.dmaWrite a (bytesLE 4 (w0.toNat % 2 ^ 31))
    let n := if i + 1 < s.get (R.ENET_RING_TXN e) then i + 1 else 0
    let s := s.put (R.ENET_TXIDX_NEXT e) n
    let more := bitAt (s.memWord (s.get (R.ENET_TXBASE_BASE e) * 16 + 16 * n)) 31
    s.setEnet e ⟨more, f⟩

/-- A link changes (R516). -/
def State.enetLink (s : State) (e : Nat) (up done : Bool) : State :=
  if s.macRuns e then
    (s.putB (R.ENET_STAT_LINK e) up).putB (R.ENET_STAT_ANDONE e) (done && s.on (R.ENET_CFG_ANEN e))
  else s

/-- The Ethernet frame of a safe PDU on a port (R429, R519). -/
def State.safeFrame (s : State) (e : Nat) (p : List Byte) : List Byte :=
  let da := bytesBE 2 (s.get (R.ENET_SFDAH_DA e)) ++ bytesBE 4 (s.get (R.ENET_SFDAL_DA e))
  let tag := if s.on (R.ENET_SFVLAN_TAG e) then
      bytesBE 2 0x8100 ++ bytesBE 2 (s.get (R.ENET_SFVLAN_PCP e) * 0x2000 + s.get (R.ENET_SFVLAN_VID e)) else []
  da ++ s.macAddr e ++ tag ++ bytesBE 2 (s.spr 1 31 16) ++ p ++ [0, 0]

/-- A publication's PDU leaves on both ports of the pair (R432, R519). -/
def State.publishFrames (s : State) (t : Nat) : State :=
  let r := s.publish t
  if r.2 then
    let p := tblGet (fun _ => []) r.1.safe.txPdu t
    r.1.each [2 * r.1.spr 1 8 8, 2 * r.1.spr 1 8 8 + 1] (fun e u =>
      if u.macRuns e then u.setEnet e { u.enet e with out := u.safeFrame e p } else u)
  else r.1

/-! ### The Ridge bus (R520 to R523) -/

/-- SRC and LVL follow what this controller drives; `others`: another controller holds RTRIP_N low (R520, R526). -/
def State.ridgeShow (s : State) (others : Bool) : State :=
  let src := s.ridge.drive || s.safeRtrip
  ((s.putB R.RIDGE_STAT_SRC src).putB R.RIDGE_STAT_LVL (src || others)).keepTimer .rtripLow (src || others)

/-- This controller begins to drive RTRIP_N for 1 µs (R520). -/
def State.ridgeDrive (s : State) : State :=
  (({ s with ridge := { s.ridge with drive := true } } : State).ridgeShow false).startTimer .rtripOn

/-- RTRIP_N is low at the input (R521, R522). -/
def State.ridgeTrip (s : State) : State :=
  let s := s.ridgeShow true
  if s.on R.RIDGE_CFG_RXEN then
    let s := (s.raise R.RIDGE_STAT_RTL).wr R.RIDGE_TS (s.stamp 14)
    let s := { s.bumpSat R.RIDGE_STAT_TCNT with gate := { s.gate with spiHold := 2 ^ 48 - 1 } }
    let s := s.postFlag 12 R.RIDGE_STAT_RTL 14 0
    s.each (List.range 24) (fun g t => t.dinh g)
  else s

/-- CLR; `high`: no other controller has held RTRIP_N low for 1 µs (R522). -/
def State.ridgeClr (s : State) (high : Bool) : State :=
  let s := s.ridgeShow (!high)
  if s.on R.RIDGE_STAT_LVL || ((s.timerAt .rtripOff).isSome && !s.past .rtripOff 1000) then s else s.clear R.RIDGE_STAT_RTL

/-- RTRIP_N has been low for 100 ms (R522). -/
def State.ridgeStuck (s : State) : State := if s.on R.RIDGE_STAT_LVL && s.past .rtripLow 100000000 then s.flagPost 12 R.RIDGE_STAT_RSTK 14 0 else s

/-- The 1 µs drive ends (R520). -/
def State.ridgeEnd (s : State) (others : Bool) : State :=
  if s.ridge.drive && s.past .rtripOn 1000 then
    (({ s with ridge := { s.ridge with drive := false } } : State).ridgeShow others).startTimer .rtripOff
  else s

/-- A rising edge of RSYNC; `contend`: the pad differs from what this controller drives (R523). -/
def State.rsyncEdge (s : State) (contend : Bool) : State :=
  let s := (s.wr R.RIDGE_RSTS (s.stamp 14)).raise R.RIDGE_STAT_RSE
  if contend && s.on R.BATTEN_RSYNC_OEN && !s.ridge.stopped then
    ({ s with ridge := { s.ridge with stopped := true }, bat := { s.bat with rsync := false } } : State).flagPost 12
      R.RIDGE_STAT_RSC 14 0
  else s

end Sys2Proof.Machine
end

