-- ==== Sys2Proof/Machine/Grid.lean ====
section
/-!
DEFINITION. Grid functions: the phasor units (R307 to R317, R335 to R337) and the connection sequencer of the grid
library (R318 to R325).
-/

namespace Sys2Proof.Machine

/-! ### Phasor units -/

/-- f0 in Hz (R308). -/
def State.f0 (s : State) (n : Nat) : Nat := if s.on (R.RAFTER_PU_CFG_FNOM n) then 60 else 50

/-- `k` nominal cycles in ns. -/
def State.cycles (s : State) (n k : Nat) : Nat := k * 1000000000 / s.f0 n

/-- The reporting rate, 10 frames/s for a RATE that the table does not list (R309). -/
def puRate (fnom60 : Bool) (rate : Nat) : Option Nat :=
  if fnom60 then [10, 12, 15, 20, 30, 60][rate]? else [10, 25, 50][rate]?

/-- CHBAD (R312). -/
def State.puChbad (s : State) (n : Nat) : Nat :=
  (List.range 6).foldl (fun m k => if !s.puCh n k || s.inputBad (s.puInput n k) then m + 2 ^ k else m) 0

/-- The unit perturbs (R337). -/
def State.perturbs (s : State) (n : Nat) : Bool :=
  s.on (R.RAFTER_PU_ISCFG_IEN n) && s.on (R.RAFTER_PU_PADDR_PWEN n) &&
    (s.on R.TIME_STAT_TSYN || s.on (R.RAFTER_PU_ISCFG_SOLO n))

/-- The schedule that the registers give (R345). -/
def State.puSched (s : State) (n : Nat) : Sched :=
  ⟨s.get (R.RAFTER_PU_ISEPL_EPL n) + 2 ^ 32 * s.get (R.RAFTER_PU_ISEPH_EPH n), s.get (R.RAFTER_PU_ISPER_PER n),
    s.get (R.RAFTER_PU_ISOFF_OFF n), min 0x20000 (s.get (R.RAFTER_PU_ISBIAS_BIAS n)), s.rd (R.RAFTER_PU_ISSIGN n)⟩

/-- A schedule has windows (R335). -/
def schedOk (c : Sched) : Bool := decide (100 ≤ c.per ∧ c.per ≤ 2000) && decide (c.off < c.per * 1000000)

/-- Wk in ns of the time base (R335). -/
def windowAt (c : Sched) (k : Nat) : Nat := c.epoch * 1000000000 + k * (c.per * 1000000) + c.off

/-- A window is open now (R335, R345). -/
def State.windowOpen (s : State) (n : Nat) : Bool :=
  let c := (s.pu n).sched
  s.on (R.RAFTER_PU_ISCFG_IEN n) && schedOk c && decide (windowAt c 0 ≤ s.nowNs) &&
    decide ((s.nowNs - windowAt c 0) % (c.per * 1000000) < s.cycles n 2)

/-- The live fields of the status registers. -/
def State.puShow (s : State) (n : Nat) : State :=
  let s := s.put (R.RAFTER_PU_STAT_CHBAD n) (s.puChbad n)
  let s := s.putB (R.RAFTER_PU_STAT_ABST n) (s.on (R.RAFTER_PU_CFG_EN n) && !s.perturbs n)
  let s := s.putB (R.RAFTER_PU_STAT_SETL n)
    (s.on (R.RAFTER_PU_CFG_EN n) && decide ((s.pu n).since + s.cycles n 2 ≤ s.nowNs))
  s.putB (R.RAFTER_PU_ISSTAT_WIN n) (s.windowOpen n)

/-- The restart of a unit (R317). -/
def State.puRestart (s : State) (n : Nat) : State :=
  if s.pdRun (pdOfRc n) then
    let s := s.setPu n ⟨s.nowNs, 0, 0, none, none, s.puSched n, [], some s.upNs⟩
    (s.clear (R.RAFTER_PU_ISSTAT_RCNT n)).puShow n
  else s

/-- CFE after a write of CFG, ISPER or ISOFF (R309, R335). -/
def State.puCheck (s : State) (n : Nat) : State :=
  let bad := (puRate (s.on (R.RAFTER_PU_CFG_FNOM n)) (s.get (R.RAFTER_PU_CFG_RATE n))).isNone || !schedOk (s.puSched n)
  if bad then s.raise (R.RAFTER_PU_STAT_CFE n) else s

/-! ### Estimates (R308, R312) -/

/-- A phasor estimate (R308): FREQ, ROCOF, magnitude and angle of the six channels, V+, I+ and VN. -/
structure PuEst where
  freq : Word
  rocof : Word
  mag : List Word
  ang : List Word
  vp : Word
  vpAng : Word
  ip : Word
  ipAng : Word
  vn : Word
  deriving DecidableEq, Repr

/-- The samples of a channel in a span of time. -/
def State.puSpan (s : State) (n k a b : Nat) : List PuSmp :=
  (s.puSmps n k).filter (fun x => decide (a ≤ x.t ∧ x.t < b))

/-- A channel has a good sample at every sampling instant of a span. -/
def State.puWhole (s : State) (n k a b : Nat) : Bool :=
  let l := s.puSpan n k a b
  decide (l.length = (b + 49999) / 50000 - (a + 49999) / 50000) && l.all (fun x => !x.bad)

/-- The channels of which a span holds a bad sample, or lacks one, one bit for each (R312). -/
def State.puMiss (s : State) (n a b : Nat) : Nat :=
  (List.range 6).foldl (fun m k => if s.puWhole n k a b then m else m + 2 ^ k) 0

/-- The window of the estimate for an instant: two nominal cycles centred on it (R308). -/
def State.puMissAt (s : State) (n t : Nat) : Nat := s.puMiss n (t - s.cycles n 1) (t + s.cycles n 1)

/-- The estimate for an instant is invalid (R312, R317). -/
def State.puInvalid (s : State) (n t : Nat) : Bool :=
  !s.on (R.RAFTER_PU_STAT_SETL n) || decide (s.puMissAt n t &&& s.get (R.RAFTER_PU_CFG_CHEN n) ≠ 0)

/-- The measures of V+ for an instant are invalid (R312). -/
def State.voltBad (s : State) (n t : Nat) : Bool := s.puInvalid n t || decide (s.puMissAt n t % 8 ≠ 0)

/-- A phase of `h` turns per cycle of f0 at a time, in units of 1/(3 * 10^9) turn, 0 at the top of each second. -/
def puPhase (f0 h t : Nat) : Nat := 3 * (h * f0 * (t % 1000000000) % 1000000000)

/-- The sums of a transform: samples times weights times the cosine and the negated sine of their phase. -/
def puSum (f0 h : Nat) (w : Nat → Nat) (l : List PuSmp) : Int × Int :=
  l.foldl (fun z x =>
    let p := puPhase f0 h x.t
    (z.1 + x.val.toInt * w x.t * Config.unitCos p, z.2 - x.val.toInt * w x.t * Config.unitCos ((p + 2250000000) % 3000000000))) (0, 0)

/-- The triangular weight of a time in the window of an instant. -/
def triWeight (c t u : Nat) : Nat := c - ((u : Int) - t).natAbs

/-- The transform of a channel for an instant at f0. -/
def State.puDft (s : State) (n k t : Nat) : Int × Int :=
  let c := s.cycles n 1
  puSum (s.f0 n) 1 (triWeight c t) (s.puSpan n k (t - c) (t + c))

/-- The sum of the weights of the instants in the window. -/
def State.puScale (s : State) (n k t : Nat) : Nat :=
  let c := s.cycles n 1
  ((s.puSpan n k (t - c) (t + c)).map (fun x => triWeight c t x.t)).sum

/-- A transform turned by `j` thirds of a turn, times 2^31. -/
def turnThird (j : Nat) (z : Int × Int) : Int × Int :=
  let c := Config.unitCos (j * 1000000000 % 3000000000)
  let d := Config.unitCos ((j * 1000000000 + 2250000000) % 3000000000)
  (z.1 * c - z.2 * d, z.1 * d + z.2 * c)

/-- A sequence of three transforms, times 3 * 2^31: positive with `j` = 1, negative with 2. -/
def sequence (j : Nat) (a b c : Int × Int) : Int × Int :=
  let x := turnThird 0 a
  let y := turnThird j b
  let z := turnThird (3 - j) c
  (x.1 + y.1 + z.1, x.2 + y.2 + z.2)

/-- FREQ and ROCOF for an instant: the derivatives of the angle of V+ over the window. -/
def State.puRates (s : State) (n t : Nat) : Word × Word :=
  let c := s.cycles n 1
  Config.puRates (s.f0 n) t ((List.range 3).map (fun k => (s.puSpan n k (t - c) (t + c)).map (fun x => (x.t, x.val))))

/-- The estimate for an instant. -/
def State.puEst (s : State) (n t : Nat) : PuEst :=
  let r := s.puRates n t
  let z := fun k => s.puDft n k t
  let ph := (List.range 6).map (fun k => Config.puPolar (z k) (s.puScale n k t) r.1)
  let w := 3 * 2 ^ 31 * s.puScale n 0 t
  let i := 3 * 2 ^ 31 * s.puScale n 3 t
  let vp := Config.puPolar (sequence 1 (z 0) (z 1) (z 2)) w r.1
  let ip := Config.puPolar (sequence 1 (z 3) (z 4) (z 5)) i r.1
  ⟨r.1, r.2, ph.map (·.1), ph.map (·.2), vp.1, vp.2, ip.1, ip.2, (Config.puPolar (sequence 2 (z 0) (z 1) (z 2)) w r.1).1⟩

/-- The last instant that is a multiple of 1/f from the top of a second and whose window has ended: its number in the
second and its ns (R309, R311). -/
def State.lastInstant (s : State) (n f : Nat) : Option (Nat × Nat × Nat) :=
  if s.nowNs < s.cycles n 1 then none
  else
    let t := s.nowNs - s.cycles n 1
    let k := ((t % 1000000000 + 1) * f - 1) / 1000000000
    some (t / 1000000000, k, k * 1000000000 / f)

/-- The 96-byte message of a report (R313). -/
def State.reportMsg (s : State) (n : Nat) : List Byte :=
  wordsBytes ([s.rd (R.RAFTER_PU_TSEC n), s.rd (R.RAFTER_PU_TNS n), s.rd (R.RAFTER_PU_STAT n) &&& 0xFFFF#32,
    s.rd (R.RAFTER_PU_FREQ n), s.rd (R.RAFTER_PU_ROCOF n), 0] ++
    (List.range 6).flatMap (fun k => [s.rd (R.RAFTER_PU_MAG n k), s.rd (R.RAFTER_PU_ANG n k)]) ++
    [s.rd (R.RAFTER_PU_VPMAG n), s.rd (R.RAFTER_PU_VPANG n), s.rd (R.RAFTER_PU_IPMAG n), s.rd (R.RAFTER_PU_IPANG n),
      s.rd (R.RAFTER_PU_VNMAG n), 0])

/-- Push the report (R313, R314). -/
def State.pushReport (s : State) (n : Nat) : State :=
  if s.on (R.RAFTER_PU_CFG_QEN n) then
    let r := s.qPushFree (s.get (R.RAFTER_PU_CFG_QNUM n)) (s.reportMsg n)
    if r.2.code = 0 then r.1 else r.1.raise (R.RAFTER_PU_STAT_QDRP n)
  else s

/-- A report becomes available (R309 to R314). -/
def State.puReport (s : State) (n : Nat) : State :=
  if s.puOn n then
    let s := s.puShow n
    let f := (puRate (s.on (R.RAFTER_PU_CFG_FNOM n)) (s.get (R.RAFTER_PU_CFG_RATE n))).getD 10
    match s.lastInstant n f with
    | none => s
    | some (sec, _, ns) =>
      let t := sec * 1000000000 + ns
      let e := s.puEst n t
      let valid := !s.puInvalid n t
      let s := (s.wr (R.RAFTER_PU_TSEC n) (BitVec.ofNat 32 sec)).wr (R.RAFTER_PU_TNS n) (BitVec.ofNat 32 ns)
      let s := (s.wr (R.RAFTER_PU_FREQ n) e.freq).wr (R.RAFTER_PU_ROCOF n) e.rocof
      let s := s.each (List.range 6) (fun k t =>
        (t.wr (R.RAFTER_PU_MAG n k) (e.mag.getD k 0)).wr (R.RAFTER_PU_ANG n k) (e.ang.getD k 0))
      let s := (s.wr (R.RAFTER_PU_VPMAG n) e.vp).wr (R.RAFTER_PU_VPANG n) e.vpAng
      let s := (s.wr (R.RAFTER_PU_IPMAG n) e.ip).wr (R.RAFTER_PU_IPANG n) e.ipAng
      let s := s.wr (R.RAFTER_PU_VNMAG n) e.vn
      (s.putB (R.RAFTER_PU_STAT_VALID n) valid).pushReport n
  else s

/-- A live flag of R315 takes a value; its change to 1 sets the latched flag with a record. -/
def State.puFlag (s : State) (n : Nat) (live latch : Ref) (v : Bool) : State :=
  let was := s.on live
  let s := s.putB live v
  if v && !was then (s.raise latch).postFlagLimited 8 latch (pdOfRc n) n else s

/-- An internal estimate: ROCOF, frequency, and at a whole cycle the vector shift (R309, R315). -/
def State.puInternal (s : State) (n : Nat) : State :=
  if s.puOn n then
    let s := s.puShow n
    match s.lastInstant n (2 * s.f0 n) with
    | none => s
    | some (sec, k, ns) =>
      let t := sec * 1000000000 + ns
      let whole := decide (k % 2 = 0)
      let x := s.pu n
      if s.voltBad n t then
        s.setPu n { x with
          th1 := if whole then none else x.th1, th2 := if whole then x.th1 else x.th2, vBad := some (x.vBad.getD s.upNs) }
      else
        let e := s.puEst n t
        let roc := decide (s.get (R.RAFTER_PU_ROC_ROCLIM n) * 256 < e.rocof.toInt.natAbs)
        let lo : Int := (s.f0 n * 65536 : Nat) - (s.get (R.RAFTER_PU_FLIM_FLO n) * 256 : Nat)
        let hi := s.f0 n * 65536 + s.get (R.RAFTER_PU_FLIM_FHI n) * 256
        let out := decide ((e.freq.toNat : Int) < lo) || decide (hi < e.freq.toNat)
        let x := { x with rocRun := if roc then min 255 (x.rocRun + 1) else 0, fRun := if out then min 255 (x.fRun + 1) else 0,
                          vBad := none }
        let s := s.setPu n x
        let s := s.puFlag n (R.RAFTER_PU_STAT_ROCL n) (R.RAFTER_PU_STAT_ROCF n)
          (decide (s.get (R.RAFTER_PU_ROC_ROCT n) ≤ x.rocRun))
        let s := s.puFlag n (R.RAFTER_PU_STAT_FL n) (R.RAFTER_PU_STAT_FRQ n)
          (decide (s.get (R.RAFTER_PU_ROC_FT n) ≤ x.fRun))
        if whole then
          let s := s.setPu n { x with th1 := some e.vpAng, th2 := x.th1 }
          match x.th1, x.th2 with
          | some a, some b =>
            let vs := e.vpAng - (a + a - b)
            let s := s.wr (R.RAFTER_PU_VSV n) vs
            s.puFlag n (R.RAFTER_PU_STAT_VSL n) (R.RAFTER_PU_STAT_VSF n)
              (decide (s.get (R.RAFTER_PU_VS_VSLIM n) * 65536 < vs.toInt.natAbs))
          | _, _ => s
        else s
  else s

/-- The RMS register of harmonic h of channel 3 + c (R342). -/
def harmReg (n c h : Nat) : Nat :=
  if c = 0 then R.RAFTER_PU_HARM0 n (h - 2) else if c = 1 then R.RAFTER_PU_HARM1 n (h - 2) else R.RAFTER_PU_HARM2 n (h - 2)

/-- The TRSS register of channel 3 + c. -/
def trssReg (n c : Nat) : Nat :=
  if c = 0 then R.RAFTER_PU_TRSS0 n else if c = 1 then R.RAFTER_PU_TRSS1 n else R.RAFTER_PU_TRSS2 n

/-- The end of the last harmonic window whose results are due, ns: 10 nominal cycles at 50 Hz and 12 at 60 Hz are 200 ms, aligned to
the top of each second, and the results come 1 ms later (R316). -/
def State.harmEnd (s : State) : Nat := (s.nowNs - 1000000) / 200000000 * 200000000

/-- The RMS of harmonic h of channel 3 + c in the window that ends at a time. -/
def State.puHarm (s : State) (n c h e : Nat) : Word :=
  let l := s.puSpan n (3 + c) (e - 200000000) e
  let z := puSum (s.f0 n) h (fun _ => 1) l
  Config.puRms (z.1 * z.1 + z.2 * z.2).natAbs l.length

/-- The harmonic window that ends at a time is invalid. -/
def State.harmBad (s : State) (n e : Nat) : Bool :=
  !s.on (R.RAFTER_PU_STAT_SETL n) || decide (e < 200000000) ||
    decide ((s.puMiss n (e - 200000000) e &&& s.get (R.RAFTER_PU_CFG_CHEN n)) / 8 ≠ 0)

/-- The results of a harmonic window: the RMS values of orders 2 to 40 channel after channel; TRSS is their root sum of
squares, whose rounding the spec leaves open (R316). -/
def State.puHarmonics (s : State) (n : Nat) : State :=
  if s.puOn n && s.on (R.RAFTER_PU_CFG_HEN n) then
    let s := s.puShow n
    let e := s.harmEnd
    if s.harmBad n e then s.clear (R.RAFTER_PU_STAT_HV n)
    else
      let rms := fun c => (List.range 39).map (fun j => s.puHarm n c (j + 2) e)
      let s := s.each (List.range 3) (fun c t =>
        let l := rms c
        let t := l.zipIdx.foldl (fun u x => u.wr (harmReg n c (x.2 + 2)) x.1) t
        let q := isqrt (l.foldl (fun a w => a + w.toNat * w.toNat) 0)
        (t.wr (trssReg n c) (BitVec.ofNat 32 (min 0xFFFFFFFF (q + t.openBelow 2)))).drawn)
      s.raise (R.RAFTER_PU_STAT_HV n)
  else s

/-- A window has been evaluated: fa at Wk and fb at Wk + 3/f0 (R336, R340). -/
def State.puWindow (s : State) (n : Nat) : State :=
  let c := (s.pu n).sched
  if s.puOn n && s.on (R.RAFTER_PU_ISCFG_IEN n) && schedOk c && decide (windowAt c 0 + s.cycles n 4 ≤ s.nowNs) then
    let s := s.puShow n
    let k := (s.nowNs - s.cycles n 4 - windowAt c 0) / (c.per * 1000000)
    let ta := windowAt c k
    let tb := ta + s.cycles n 3
    let fa := (s.puRates n ta).1
    let fb := (s.puRates n tb).1
    let bad := s.voltBad n ta || s.voltBad n tb
    let d := fb - fa
    let s := (s.put (R.RAFTER_PU_ISSTAT_KLO n) k).wr (R.RAFTER_PU_ISDF n) d
    if bad then s
    else
      let sd : Int := if c.sign.getLsbD (k % 32) then -d.toInt else d.toInt
      let resp := decide ((s.get (R.RAFTER_PU_ISCFG_APTH n) : Int) ≤ sd)
      let s := if s.law.ctx.map coreOf = some n ∧ s.seq.st = 7 then
          { s with seq := { s.seq with noResp := if resp then 0 else s.seq.noResp + 1 } } else s
      if resp then
        let r := s.get (R.RAFTER_PU_ISSTAT_RCNT n) + 1
        if max 1 (s.get (R.RAFTER_PU_ISCFG_NRESP n)) ≤ r then
          let s := (s.clear (R.RAFTER_PU_ISSTAT_RCNT n)).raise (R.RAFTER_PU_STAT_ISL n)
          s.post (0x0820 + 20) (pdOfRc n) (bytesLE 4 fa.toNat ++ bytesLE 4 fb.toNat ++ bytesLE 4 d.toNat)
        else s.put (R.RAFTER_PU_ISSTAT_RCNT n) r
      else s.clear (R.RAFTER_PU_ISSTAT_RCNT n)
  else s

/-- A window is open, or has ended less than 1 ms ago: the word of the next is not written yet (R337). -/
def State.windowHeld (s : State) (n : Nat) : Bool :=
  let c := (s.pu n).sched
  schedOk c && decide (windowAt c 0 ≤ s.nowNs) &&
    decide ((s.nowNs - windowAt c 0) % (c.per * 1000000) < s.cycles n 2 + 1000000)

/-- The perturbation word for the next window is written; the schedule of the registers is in force from here (R337,
R345). -/
def State.puWord (s : State) (n : Nat) : State :=
  if s.puOn n then
    let c := s.puSched n
    let s := (s.setPu n { s.pu n with sched := c }).puShow n
    if s.on (R.RAFTER_PU_PADDR_PWEN n) && schedOk c then
      let k := if s.nowNs < windowAt c 0 then 0 else (s.nowNs - windowAt c 0) / (c.per * 1000000) + 1
      let bias : Int := if s.perturbs n then (if c.sign.getLsbD (k % 32) then -(c.bias : Int) else (c.bias : Int)) else 0
      let a := rcData n + s.get (R.RAFTER_PU_PADDR_ADDR n) * 8
      ((s.setMemWord a (BitVec.ofNat 32 (windowAt c k))).setMemWord (a + 4) (wordOfInt bias)).unmark a
    else s
  else s

/-! ### The grid parameter record (R318, R319) -/

/-- A word of the grid parameter record of a context. -/
def State.gpr (s : State) (c off : Nat) : Word := s.memWord (s.coefAddr c + off)

/-- A configured context whose coefficient area starts with GPR_ID. -/
def State.gprCtx (s : State) : Option Nat :=
  s.cfgd.find? (fun c => decide (256 ≤ (s.coefArea c).2) && decide (s.gpr c 0 = 0x47500001))

/-- The grid-law context: the one that has held a record, while it is configured, else the first configured one whose coefficient
area starts with GPR_ID (DEDUCED, log entry 118). -/
def State.lawCtx (s : State) : Option Nat :=
  match s.law.ctx with
  | some c => if s.isCfg c then some c else s.gprCtx
  | none => s.gprCtx

/-- The context is remembered. -/
def State.noteLaw (s : State) : State := { s with law := { s.law with ctx := s.lawCtx } }

/-- The record is valid (R319). -/
def State.gprValid (s : State) (c : Nat) : Bool :=
  let u := fun off => (s.gpr c off).toNat
  decide (s.gpr c 0 = 0x47500001) && decide (u 0x04 < 128) && decide (fieldOf (s.gpr c 0x04) 6 4 ≤ 2) &&
  decide (u 0x08 ≠ 0) && decide (u 0x0C ≠ 0) && decide (u 0x10 &&& 0xE0E0E0E0 = 0) &&
  decide (u 0x14 < u 0x18) && decide ((s.gpr c 0x1C).toInt < (s.gpr c 0x20).toInt) && decide (u 0x5C < u 0x60) &&
  decide (1 ≤ u 0xDC ∧ u 0xDC ≤ 255) &&
  (List.range 7).all (fun k => decide (u (0xE0 + 4 * k) = 0)) &&
  decide (u 0xFC = crc32 (s.bytes (s.coefAddr c) 0xFC))

/-- The law commits nothing: its record was invalid at the first dispatch after the close (R319). -/
def State.lawBars (s : State) (c : Nat) : Bool := decide (s.law.ctx = some c) && !s.law.recOk

/-! ### The connection sequencer (R320 to R325) -/

/-- Change the sequencer. -/
def State.setSeq (s : State) (f : SeqSt → SeqSt) : State := { s with seq := f s.seq }

/-- A record of the sequencer: posted by SC0, with the status of the law's phasor unit. -/
def State.seqRecord (s : State) (c : Nat) : State :=
  s.postPlain 8 0x18 c (s.rd (R.RAFTER_PU_STAT (coreOf c)))

/-- Enter a state. -/
def State.seqGo (s : State) (st : Nat) : State := s.setSeq (fun q => { q with st := st })

/-- Enter WAIT or SYNC with a timer started. -/
def State.seqTimer (s : State) (st : Nat) : State := s.setSeq (fun q => { q with st := st, timer := s.upNs })

/-- 16 bytes whose layout no rule gives: open values (log entry 119). -/
def State.openMsg (s : State) : List Byte := wordsBytes ((List.range 4).map (fun k => Config.freeWord (s.freeCtr + k)))

/-- QSEL of the record, or its default while there is none (R318). -/
def State.qsel (s : State) : Word := match s.lawCtx with | some c => s.gpr c 0x10 | none => 0x03020504

/-- The sequencer tells the law something through the law command queue. -/
def State.tellLaw (s : State) (x : LawCmd) : State :=
  let r := ({ s with freeCtr := s.freeCtr + 4 } : State).qPush .sc0 (fieldOf s.qsel 4 0) s.openMsg
  if r.2.code = 0 then { r.1 with law := { r.1.law with cmds := r.1.law.cmds ++ [x] } } else r.1

/-- The law, on RCn, tells the sequencer something through the law event queue, with HARM where it is due (R320, R325). -/
def State.lawTells (s : State) (n : Fin 8) (x : LawEvent) : State :=
  let r := ({ s with freeCtr := s.freeCtr + 4 } : State).qPush (.rc n) (fieldOf s.qsel 12 8) s.openMsg
  if r.2.code = 0 then
    { r.1 with law := { r.1.law with events := r.1.law.events ++ [(x, r.1.law.harm)], harm := false } }
  else r.1

/-- Cease (R321, R333): the bound channels are disabled, the chain of the grid connection is requested open, a record is
posted. -/
def State.cease (s : State) (c : Nat) : State :=
  let t := (s.boundChans c).foldl (fun t ch => t.chDisable ch) s
  let t := t.bcLeft s
  let t := t.rcreq (t.get R.SAFE_RCREQ_CLOSE &&& (15 - 2 ^ Config.gridChain.val))
  let t := t.setSeq (fun q => { q with relayReq := false })
  t.seqRecord c

/-- The sequencer works on the context of the law, which it remembers. -/
def State.seqCmd (s : State) (f : Nat → State → State) : State :=
  match s.lawCtx with
  | some c => if s.pdRun 3 then f c s.noteLaw else s
  | none => s

/-- V+ has been invalid for 100 ms (R320). -/
def State.vplusLost (s : State) : State :=
  s.seqCmd (fun c s =>
    let out := match (s.pu (coreOf c)).vBad with | some t => decide (t + 100000000 ≤ s.upNs) | none => false
    if out && [2, 3, 4, 5, 7].contains s.seq.st then (s.cease c).seqGo 6 else s)

/-- What the messages in the law event queue say, the oldest in front: the newest of what the law has sent. -/
def State.lawEvents (s : State) : List (LawEvent × Bool) :=
  s.law.events.drop (s.law.events.length - (s.msgs (fieldOf s.qsel 12 8)).length)

/-- The sequencer takes the oldest event message where it says `x`, and acts on it (R320). -/
def State.takeEvent (s : State) (x : LawEvent) (f : Nat → State → State) : State :=
  s.seqCmd (fun c s =>
    match s.lawEvents with
    | e :: l =>
      if e.1 = x then
        let r := s.qPop .sc0 (fieldOf s.qsel 12 8) 256
        if r.2.code = 0 then f c { r.1 with law := { r.1.law with events := l } } else r.1
      else s
    | [] => s)

/-! #### Host commands (R319, R322) -/

/-- A word of a message. -/
def msgWord (m : List Byte) (k : Nat) : Nat := natLE ((m.drop (4 * k)).take 4)

/-- The reply to a host command (R322). -/
def State.seqReply (s : State) (op tag status : Nat) (w1 : Word) : State :=
  (s.qPush .sc0 (fieldOf s.qsel 28 24)
    (bytesLE 4 (op + 256 * tag + 65536 * status) ++ bytesLE 4 w1.toNat ++ List.replicate 8 0)).1

/-- The sequencer takes the oldest message of the host command queue where its opcode is `op`; STATUS also takes one whose opcode
is none of the table's. One that is no command is answered BADARG; `args` says whether its argument may differ from 0 (R322;
DESIGN CHOICE, log entry 120). -/
def State.hostCmd (s : State) (op : Nat) (args : Bool) (f : Nat → Word → State → State) : State :=
  if s.pdRun 3 then
    let s := s.noteLaw
    let q := fieldOf s.qsel 20 16
    match s.msgs q with
    | m :: _ =>
      let o := msgWord m 0 % 256
      let tag := msgWord m 0 / 256 % 256
      let known := decide (1 ≤ o ∧ o ≤ 6)
      if o = op ∨ (op = 6 ∧ !known) then
        let r := s.qPop .sc0 q 256
        if r.2.code ≠ 0 then r.1
        else if !known || decide (m.length ≠ 16) || decide (msgWord m 2 ≠ 0) || decide (msgWord m 3 ≠ 0) ||
            (!args && decide (msgWord m 1 ≠ 0)) then r.1.seqReply o tag 2 0
        else f tag (BitVec.ofNat 32 (msgWord m 1)) r.1
      else s
    | [] => s
  else s

/-- START (R319, R320). -/
def State.seqStart (s : State) : State :=
  s.hostCmd 1 false (fun tag _ s =>
    let valid := match s.lawCtx with | some c => s.gprValid c | none => false
    if s.seq.st ≠ 0 then s.seqReply 1 tag 1 0
    else if !valid then s.seqReply 1 tag 2 0
    else if !s.safe.loaded then s.seqReply 1 tag 1 0
    else (s.seqReply 1 tag 0 0).seqTimer 1)

/-- STOP: cease unless already ceased. -/
def State.seqStop (s : State) : State :=
  s.hostCmd 2 false (fun tag _ s =>
    let s := match s.lawCtx with
      | some c => if [2, 3, 4, 5, 7].contains s.seq.st then s.cease c else s
      | none => s
    (s.seqReply 2 tag 0 0).seqGo 0)

/-- PSET. -/
def State.seqPset (s : State) : State := s.hostCmd 3 true (fun tag v s => (s.seqReply 3 tag 0 0).tellLaw (.pset v))

/-- QSET. -/
def State.seqQset (s : State) : State := s.hostCmd 4 true (fun tag v s => (s.seqReply 4 tag 0 0).tellLaw (.qset v))

/-- MODE (R322, R333). -/
def State.seqMode (s : State) : State :=
  s.hostCmd 5 true (fun tag v s =>
    if 1 < v.toNat then s.seqReply 5 tag 2 0
    else if s.seq.st = 5 then s.seqReply 5 tag 3 0
    else (s.seqReply 5 tag 0 0).tellLaw (.mode (decide (v = 1))))

/-- STATUS. -/
def State.seqStatus (s : State) : State :=
  s.hostCmd 6 false (fun tag _ s => s.seqReply 6 tag 0 (BitVec.ofNat 32 s.seq.st))

/-! #### The rows of R320 -/

/-- V+ lies in the connection voltage window, FREQ in the connection frequency window (R318). -/
def State.gridOk (s : State) (c : Nat) : Bool :=
  let n := coreOf c
  let v := (s.rd (R.RAFTER_PU_VPMAG n)).toNat * 65536
  let vn := (s.gpr c 0x08).toNat
  let df : Int := ((s.rd (R.RAFTER_PU_FREQ n)).toNat : Int) - (s.f0 n * 65536 : Nat)
  decide ((s.gpr c 0x14).toNat * vn ≤ v ∧ v ≤ (s.gpr c 0x18).toNat * vn) &&
    decide ((s.gpr c 0x1C).toInt ≤ df ∧ df ≤ (s.gpr c 0x20).toInt)

/-- ROCL and VSL are ignored while the law is in RIDE, and for 500 ms after it (R331). -/
def State.rideQuiet (s : State) : Bool :=
  s.law.ride || decide (s.seq.st = 5) ||
    (match s.law.leftAt with | some t => decide (s.upNs < t + 500000000) | none => false)

/-- The sequencer acts on the flags of the law's phasor unit (R320, R331, R334). -/
def State.gridFlags (s : State) : State :=
  s.seqCmd (fun c s =>
    let n := coreOf c
    let isl := s.on (R.RAFTER_PU_STAT_ISL n)
    let fl := s.on (R.RAFTER_PU_STAT_FL n)
    let pas := !s.rideQuiet && (s.on (R.RAFTER_PU_STAT_ROCL n) || s.on (R.RAFTER_PU_STAT_VSL n))
    let st := s.seq.st
    if fl && [2, 3, 4, 5].contains st then (s.cease c).seqGo 6
    else if (isl || pas) && (decide (st = 2) || ([3, 4].contains st && !bitAt (s.gpr c 4) 2)) then (s.cease c).seqGo 6
    else if (isl || pas) && [3, 4].contains st then
      ((s.seqRecord c).tellLaw (.mode true)).setSeq (fun q => { q with st := 7, noResp := 0 })
    else if isl && decide (st = 5) then (s.cease c).seqGo 6
    else s)

/-- The grid has returned (R320). -/
def State.gridReturn (s : State) : State :=
  s.seqCmd (fun c s =>
    if decide (s.seq.st = 7) && decide ((s.gpr c 0xDC).toNat ≤ s.seq.noResp) && s.gridOk c then
      ((s.seqRecord c).tellLaw (.mode false)).seqGo 3
    else s)

/-- V+ or FREQ outside its window in WAIT. -/
def State.windowExit (s : State) : State :=
  s.seqCmd (fun c s => if decide (s.seq.st = 1) && !s.gridOk c then s.seqTimer 1 else s)

/-- The RECONT timer expires; a grid outside its windows restarts it first (R23, R320). -/
def State.recontEnd (s : State) : State :=
  s.seqCmd (fun c s =>
    if s.seq.st ≠ 1 then s
    else if !s.gridOk c then s.seqTimer 1
    else if s.seq.timer + (s.gpr c 0x24).toNat * 1000000 ≤ s.upNs then s.seqTimer 2
    else s)

/-- The lock timer expires. -/
def State.lockEnd (s : State) : State :=
  s.seqCmd (fun c s =>
    if decide (s.seq.st = 2) && decide (s.seq.timer + 2000000000 ≤ s.upNs) then (s.seqRecord c).seqTimer 1 else s)

/-- The law reports its PLL locked: the chain is requested closed. -/
def State.pllLocked (s : State) : State :=
  s.takeEvent .locked (fun _ s =>
    if s.seq.st = 2 then
      (s.rcreq (s.get R.SAFE_RCREQ_CLOSE ||| 2 ^ Config.gridChain.val)).setSeq (fun q => { q with relayReq := true })
    else s)

/-- The chain reads back closed: the bound channels are enabled and the law is closed through CTXCMD of its core (R189). -/
def State.relayClosed (s : State) : State :=
  s.seqCmd (fun c s =>
    if decide (s.seq.st = 2) && s.seq.relayReq && s.chainClosed Config.gridChain.val then
      let s := (s.boundChans c).foldl (fun t ch => t.enableOut ch) s
      let s := s.ctxCmd (coreOf c) .sc0 (BitVec.ofNat 8 c) false
      s.setSeq (fun q => { q with st := 3, relayReq := false })
    else s)

/-- The law reports RIDE entered. -/
def State.rideIn (s : State) : State :=
  s.takeEvent .rideIn (fun c s => if [3, 4].contains s.seq.st then (s.seqRecord c).seqGo 5 else s)

/-- The law reports RIDE left. -/
def State.rideOut (s : State) : State := s.takeEvent .rideOut (fun _ s => if s.seq.st = 5 then s.seqGo 3 else s)

/-- The law reports its envelope violated. -/
def State.envelope (s : State) : State :=
  s.takeEvent .violated (fun c s => if [2, 3, 4, 5].contains s.seq.st then (s.cease c).seqGo 6 else s)

/-- The law reports the power ramp complete. -/
def State.rampDone (s : State) : State := s.takeEvent .rampDone (fun _ s => if s.seq.st = 3 then s.seqGo 4 else s)

/-- The bound channels are OFF and the chain reads back open. -/
def State.ceasedSettled (s : State) : State :=
  s.seqCmd (fun c s =>
    if decide (s.seq.st = 6) && (s.boundChans c).all (fun ch => decide (s.get (chState ch) = 0)) &&
      !s.on (R.SAFE_RC_RBH Config.gridChain.val) && !s.on (R.SAFE_RC_RBL Config.gridChain.val)
    then s.seqTimer 1 else s)

/-- The harmonic limit of an order (R318). -/
def State.harmLimit (s : State) (c h : Nat) : Nat :=
  (s.gpr c (if h ≤ 10 then 0xC4 else if h ≤ 16 then 0xC8 else if h ≤ 22 then 0xCC else 0xD0)).toNat

/-- Some harmonic or TRSS exceeds its limit (R325). -/
def State.harmExceeds (s : State) (c : Nat) : Bool :=
  let n := coreOf c
  let i := (s.gpr c 0x0C).toNat
  (List.range 3).any (fun k =>
    (List.range 39).any (fun j => decide (s.harmLimit c (j + 2) * i < (s.rd (harmReg n k (j + 2))).toNat * 65536)) ||
    decide ((s.gpr c 0xD4).toNat * i < (s.rd (trssReg n k)).toNat * 65536))

/-- A harmonic window of the law's unit has been compared with the limits: HTIME counts from the change to exceedance, and from ten
of them after the change to none (R325). -/
def State.harmSeen (s : State) (n : Nat) : State :=
  s.seqCmd (fun c s =>
    let x := s.harmExceeds c
    if coreOf c ≠ n ∨ !s.on (R.RAFTER_PU_STAT_HV n) ∨ s.seq.harm.map (·.1) = some x then s
    else s.setSeq (fun q => { q with harm := some (x, s.upNs + if x then 0 else 10000000 * (s.gpr c 0xD8).toNat) }))

/-- HTIME of exceedance lowers the ceiling on Id+ by 0.1 pu down to 0.5 pu, with HARM in the next event message; HTIME without, after
the first 10 of them, raises it up to IMAX (R325). -/
def State.derate (s : State) : State :=
  s.seqCmd (fun c s =>
    match s.seq.harm with
    | some (x, t) =>
      let next := t + 1000000 * (s.gpr c 0xD8).toNat
      if s.on (R.RAFTER_PU_CFG_HEN (coreOf c)) && decide (next ≤ s.upNs) then
        let mx := (s.gpr c 0x38).toNat * 10
        let now := s.seq.ceil.getD mx
        let new := if x then (if now ≤ 327680 then now else max 327680 (now - 65536)) else min mx (now + 65536)
        let s := s.setSeq (fun q => { q with harm := some (x, next) })
        if new = now then s
        else
          let s := { s with law := { s.law with harm := s.law.harm || x } }
          (s.setSeq (fun q => { q with ceil := if new = mx then none else some new })).seqRecord c
      else s
    | none => s)

end Sys2Proof.Machine
end

