-- ==== Sys2Proof/Machine/Meter.lean ====
section
/-!
DEFINITION. Energy metering (R375 to R405): correction, products and accumulators, blocks, intervals, pulse outputs,
checkpoints with their journal, and the restore.
-/

namespace Sys2Proof.Machine

/-- A meter instance. -/
def State.meter (s : State) (m : Nat) : MeterSt := tblGet (fun _ => meterReset) s.meters m

/-- Replace it. -/
def State.setMeter (s : State) (m : Nat) (x : MeterSt) : State :=
  { s with meters := tblSet (fun _ => meterReset) s.meters m x }

/-- A pulse output. -/
def State.pulse (s : State) (p : Nat) : MPulse := tblGet (fun _ => pulseReset) s.met.pls p

/-- Replace it. -/
def State.setPulse (s : State) (p : Nat) (x : MPulse) : State :=
  { s with met := { s.met with pls := tblSet (fun _ => pulseReset) s.met.pls p x } }

/-- The instances that are enabled. -/
def State.metersOn (s : State) : List Nat := (List.range 2).filter (fun m => s.on (R.METER_CTRL_EN m))

/-- The elements of an instance (R378). -/
def State.elems (s : State) (m : Nat) : List Nat := List.range (s.get (R.METER_CTRL_NEL m))

/-- The voltage and the current input of an element, counted from MD24 (R378). -/
def State.vsel (s : State) (m e : Nat) : Nat := fieldOf (s.rd (R.METER_CHMAP m)) (8 * e + 6) (8 * e + 4)
def State.isel (s : State) (m e : Nat) : Nat := fieldOf (s.rd (R.METER_CHMAP m)) (8 * e + 2) (8 * e)

/-- The inputs that an instance uses, counted from MD24. -/
def State.inputsOf (s : State) (m : Nat) : List Nat :=
  ((s.elems m).flatMap (fun e => [s.vsel m e, s.isel m e]) ++
    (if s.on (R.METER_CTRL_NEN m) then [s.get (R.METER_CTRL_NSEL m)] else [])).dedup

/-! ### Correction (R380, R381) -/

/-- Breakpoint, gain and delay of point j of a channel. -/
def State.corrPoint (s : State) (m c j : Nat) : Nat × Nat × Int :=
  let a := s.rd (R.METER_CORR_A m c j)
  (fieldOf a 31 16, fieldOf (s.rd (R.METER_CORR_B m c j)) 23 0, sextNat 12 (fieldOf a 11 0))

/-- Nearest integer, halves up, of a quotient. -/
def rndDiv (a : Int) (b : Nat) : Int := (2 * a + b) / (2 * b)

/-- Gain and delay at x from point j on, with `n` points still to try. -/
def State.corrFrom (s : State) (m c x : Nat) : Nat → Nat → Nat × Int
  | 0, j => ((s.corrPoint m c j).2.1, (s.corrPoint m c j).2.2)
  | n + 1, j =>
    let a := s.corrPoint m c j
    let b := s.corrPoint m c (j + 1)
    if a.1 ≤ x ∧ x < b.1 then
      (((a.2.1 : Int) + rndDiv (((b.2.1 : Int) - a.2.1) * ((x : Int) - a.1)) (b.1 - a.1)).toNat,
       a.2.2 + rndDiv ((b.2.2 - a.2.2) * ((x : Int) - a.1)) (b.1 - a.1))
    else s.corrFrom m c x n (j + 1)

/-- Gain and delay of a channel at x (R380). -/
def State.corrAt (s : State) (m c x : Nat) : Nat × Int :=
  let a := s.corrPoint m c 0
  let z := s.corrPoint m c 8
  if x ≤ a.1 then (a.2.1, a.2.2) else if z.1 ≤ x then (z.2.1, z.2.2) else s.corrFrom m c x 8 0

/-- The corrected value of a channel from the last samples of its input (R380): value, and whether it saturated. -/
def corrected (g : Nat) (l : Int) (win : List Word) : Int × Bool :=
  let y := roundShift (Config.meterDelay l win * (g : Int)) 23
  (satInt 32 y, satFlag 32 y)

/-! ### Accumulators (R384, R385) and what a crossing does (R392, R393, R397) -/

/-- The quantum (R385). -/
def State.quantum (s : State) (m : Nat) : Nat :=
  (s.rd (R.METER_QL m)).toNat + 2 ^ 32 * (s.rd (R.METER_QM m)).toNat + 2 ^ 64 * (s.rd (R.METER_QH m)).toNat

/-- The count C of an accumulator. -/
def State.accCount (s : State) (m a : Nat) : Nat :=
  (s.rd (R.METER_ACC_CNTL m a)).toNat + 2 ^ 32 * (s.rd (R.METER_ACC_CNTH m a)).toNat

/-- The residue Rs. -/
def State.accRes (s : State) (m a : Nat) : Nat := tblGet (fun _ => 0) (s.meter m).res a

/-- Set C and Rs; FRAC follows. -/
def State.setAcc (s : State) (m a c r : Nat) : State :=
  let s := s.setMeter m { s.meter m with res := tblSet (fun _ => 0) (s.meter m).res a r }
  let s := s.wr (R.METER_ACC_CNTL m a) (BitVec.ofNat 32 c)
  let s := s.wr (R.METER_ACC_CNTH m a) (BitVec.ofNat 32 (c / 2 ^ 32))
  s.put (R.METER_ACC_FRAC_FRAC m a) (if s.quantum m = 0 then 0 else r * 65536 / s.quantum m)

/-- The cumulative V in units of 2^-16 quantum (R385). -/
def State.accV (s : State) (m a : Nat) : Nat := s.accCount m a * 65536 + s.get (R.METER_ACC_FRAC_FRAC m a)

/-- V of all seven accumulators. -/
def State.accVs (s : State) (m : Nat) : List Nat := (List.range 7).map (s.accV m)

/-- The pulse width for the time since the crossing or pulse before, in ns (R392). -/
def pulseWidth (tprev : Option Nat) : Nat :=
  match tprev with | none => 40000000 | some t => max 1000000 (min 40000000 (t / 2))

/-- The pin has been inactive for at least the width of the pulse before (R392). -/
def State.pulseReady (s : State) (p : Nat) : Bool :=
  let x := s.pulse p
  !x.active && (match x.stop with | none => true | some t => decide (t + x.width ≤ s.upNs))

/-- `k` crossings of the accumulator that a pulse output counts (R392, R393). -/
def State.pulseCross (s : State) (p k : Nat) : State :=
  if k = 0 then s
  else
    let x := s.pulse p
    let now := s.upNs
    let go := s.pulseReady p && decide (s.get (R.METER_PLS_PEND p) = 0)
    let w := pulseWidth (x.cross.map (fun t => now - t))
    let x := if go then { x with active := true, width := w, start := some now } else x
    let s := s.setPulse p { x with cross := some now }
    let n := s.get (R.METER_PLS_PEND p) + k - go.toNat
    let s := s.put (R.METER_PLS_PEND p) (min 65535 n)
    if 65535 < n then (s.raise (R.METER_PLS_POV p)).post 0x0A04 15 (stdPayload p (s.rd (R.METER_PLS p))) else s

/-- A waiting crossing starts a pulse (R392). -/
def State.pulseStart (s : State) (p : Nat) : State :=
  if s.pdRun 15 && s.on (R.METER_PLS_EN p) && s.pulseReady p && decide (s.get (R.METER_PLS_PEND p) ≠ 0) then
    let x := s.pulse p
    let now := s.upNs
    let s := s.put (R.METER_PLS_PEND p) (s.get (R.METER_PLS_PEND p) - 1)
    s.setPulse p { x with active := true, width := pulseWidth (x.start.map (fun t => now - t)), start := some now }
  else s

/-- A pulse ends once its width has passed (R392). -/
def State.pulseEnd (s : State) (p : Nat) : State :=
  let x := s.pulse p
  let past := match x.start with | some t => decide (t + x.width ≤ s.upNs) | none => true
  if s.pdRun 15 && x.active && past then s.setPulse p { x with active := false, stop := some s.upNs } else s

/-- EN of a pulse output has been written 0: the pin holds its idle level; a later enable starts afresh. -/
def State.pulseOff (s : State) (p : Nat) : State := (s.setPulse p pulseReset).put (R.METER_PLS_PEND p) 0

/-- The base of a checkpoint slot (R394). -/
def ckBase (slot : Nat) : Nat := if slot = 0 then 0x01000000 else 0x01000800

/-- The journal word of R397. -/
def journalWord (m a n : Nat) : Word :=
  let hi := 0xA5 * 2 ^ 16 + m * 2 ^ 15 + a * 2 ^ 12 + n
  BitVec.ofNat 32 (hi * 256 + crc8 (bitsMsb 24 hi))

/-- The slot written last, or being written. -/
def State.ckSlot (s : State) : Nat := s.get R.METER_CKSTAT_SLOT

/-- `k` crossings send journal words while early-warning journalling is active (R397). -/
def State.journalCross (s : State) (m a k : Nat) : State :=
  if s.on R.METER_CKSTAT_EWM && decide (k ≠ 0) then
    let n := s.met.journal
    let slot := s.met.slot
    let s := (List.range (min k (256 - n))).foldl
      (fun t i => t.askBurst ⟨.metering, ckBase slot + 0x400 + 4 * (n + i), [journalWord m a (n + i)], 0⟩) s
    let s := { s with met := { s.met with journal := min 256 (n + k) } }
    if 256 < n + k then s.raise R.METER_CKSTAT_JFULL else s
  else s

/-- Add an amount in raw units to an accumulator (R385). -/
def State.accAdd (s : State) (m a x : Nat) : State :=
  let q := s.quantum m
  if q = 0 ∨ x = 0 then s
  else
    let r := s.accRes m a + x
    let k := r / q
    let s := s.setAcc m a ((s.accCount m a + k) % 2 ^ 64) (r % q)
    let s := (List.range 4).foldl (fun t p =>
      if t.on (R.METER_PLS_EN p) && decide (t.get (R.METER_PLS_INST p) = m) && decide (t.get (R.METER_PLS_ACC p) = a) then
        t.pulseCross p k else t) s
    s.journalCross m a k

/-- Add p and q of one sample (R384). -/
def State.addPq (s : State) (m : Nat) (p q : Int) : State :=
  let s := if 0 < p then s.accAdd m 0 p.toNat else s.accAdd m 1 (-p).toNat
  let a := if 0 ≤ p then (if 0 < q then 2 else 5) else (if 0 < q then 3 else 4)
  s.accAdd m a q.natAbs

/-! ### Intervals (R388 to R391) -/

/-- The length of an interval in seconds. -/
def State.ivLen (s : State) (m : Nat) : Nat := 60 * max 1 (s.get (R.METER_IPER_IPER m))

/-- The boundary at or before a second (R388). -/
def State.boundAt (s : State) (m sec : Nat) : Nat :=
  let len := s.ivLen m
  let ofs := s.get (R.METER_IPER_IOFS m)
  sec - (sec + ofs) % len

/-- The boundary that ends the interval in progress, in ns. -/
def State.nextBound (s : State) (m : Nat) : Nat :=
  (s.boundAt m ((s.meter m).iv.start / 1000000000) + s.ivLen m) * 1000000000

/-- A sample stamped at or after the boundary: the interval in progress ends there (R388, R389). -/
def State.ivTurn (s : State) (m t : Nat) : State :=
  if s.nextBound m ≤ t then
    let x := s.meter m
    let v := s.accVs m
    let start := s.boundAt m (t / 1000000000) * 1000000000
    s.setMeter m { x with closing := x.closing ++ [{ x.iv with v1 := v }], iv := ⟨start, v, [], 0⟩ }
  else s

/-- Add flags of R391 to the interval in progress. -/
def State.ivFlag (s : State) (m f : Nat) : State :=
  let x := s.meter m
  s.setMeter m { x with iv := { x.iv with flags := x.iv.flags ||| f } }

/-- Two words of a 64-bit value. -/
def words64 (v : Nat) : List Word := [BitVec.ofNat 32 v, BitVec.ofNat 32 (v / 2 ^ 32)]

/-- The values 0 to 8 of an interval: its seven accumulators, net and gross (R389). -/
def ivValues (v : MInterval) : List Nat :=
  let d := (List.range 7).map (fun a => (v.v1.getD a 0 + 2 ^ 64 - v.v0.getD a 0 % 2 ^ 64) % 2 ^ 64)
  d ++ [(d.getD 0 0 + 2 ^ 64 - d.getD 1 0) % 2 ^ 64, (d.getD 0 0 + d.getD 1 0) % 2 ^ 64]

/-- The interval record of R391, 32 words. -/
def ivRecord (m : Nat) (v : MInterval) : List Word :=
  let w : List Word := [BitVec.ofNat 32 (v.start / 1000000000), BitVec.ofNat 32 (m + v.flags)] ++
    (ivValues v).flatMap words64 ++ List.replicate 10 0#32
  w ++ [BitVec.ofNat 32 (crc32 (w.flatMap (fun x => bytesLE 4 x.toNat))), 0x4C505231#32]

/-- The oldest interval past its boundary: registers and the record burst (R390, R391). -/
def State.ivPost (s : State) (m : Nat) : State :=
  match (s.meter m).closing with
  | [] => s
  | v :: r =>
    let v := if (s.meter m).clr then { v with flags := v.flags ||| 0x80 } else v
    let s := s.setMeter m { s.meter m with closing := r, clr := false }
    let s := s.wr (R.METER_IVSEC m) (BitVec.ofNat 32 (v.start / 1000000000))
    let s := s.put (R.METER_IVFLG_FLG m) (m + v.flags)
    let s := ((ivValues v).zipIdx).foldl (fun t x =>
      (t.wr (R.METER_IV_LO m x.2) (BitVec.ofNat 32 x.1)).wr (R.METER_IV_HI m x.2) (BitVec.ofNat 32 (x.1 / 2 ^ 32))) s
    let n := s.get R.METER_LPSTAT_NEXT
    let s := s.askBurst ⟨.metering, 0x01002000 + 128 * n, ivRecord m v, 31⟩
    if n + 1 = 1984 then (s.put R.METER_LPSTAT_NEXT 0).raise R.METER_LPSTAT_WRAP else s.put R.METER_LPSTAT_NEXT (n + 1)

/-- An interval closes 8 ms and two block ends after its boundary (R390). -/
def State.ivClose (s : State) (m : Nat) : State :=
  match (s.meter m).closing with
  | [] => s
  | v :: _ => if (s.boundAt m (v.start / 1000000000) + s.ivLen m) * 1000000000 + 408000000 ≤ s.nowNs then s.ivPost m else s

/-- A step of the time base closes the interval in progress (R390), after those that wait; the samples whose products are still to
come, and the block in progress, go on at the new time. -/
def State.meterStep (s : State) (ofs : Int) : State :=
  if s.pdRun 15 then
    s.each s.metersOn (fun m t =>
      let x := t.meter m
      let v := t.accVs m
      let move := fun (n : Nat) => ((n : Int) + ofs).toNat
      let t := t.setMeter m { x with
        closing := x.closing ++ [{ x.iv with v1 := v, flags := x.iv.flags ||| 8 }], iv := ⟨t.nowNs, v, [], 0⟩,
        hist := x.hist.map (fun y => { y with t := move y.t }), since := move x.since, last := x.last.map move,
        blk := { x.blk with start := x.blk.start.map (fun _ => t.nowNs / 200000000 * 200000000) } }
      (t.raise (R.METER_STAT_STEP m)).each (List.range (x.closing.length + 1)) (fun _ u => u.ivPost m))
  else s

/-! ### Samples (R382, R383, R402, R403) -/

/-- An input reports a condition of R278 under R279. -/
def State.mdFault (s : State) (c : Nat) : Bool :=
  s.on (R.MOD_MD_STAT_DCKL (24 + c)) || s.on (R.MOD_MD_STAT_STKL (24 + c))

/-- Samples are taken on BYPCLK (R403). -/
def State.meterByp (s : State) : Bool := s.on (R.SYSCTL_PD_BYP 13) || s.on (R.SYSCTL_PD_BYP 15)

/-- The samples of one input around the one whose products are formed, newest first. -/
def inputWin (h : List MSample) (c : Nat) : List Word := h.map (fun x => x.val.getD c 0)

/-- The gains and delays of a block (R380): of the elements, at x from the Irms of the block before. -/
def State.blockCorr (s : State) (m : Nat) : List ((Nat × Int) × (Nat × Int)) :=
  (s.elems m).map (fun e =>
    let x := match tblGet (fun _ => none) (s.meter m).irms e with | some i => i / 65536 | none => 0
    (s.corrAt m (s.vsel m e) x, s.corrAt m (s.isel m e) x))

/-- An element is below its starting current (R383); in the first block none is. -/
def State.belowStart (s : State) (m e : Nat) : Bool :=
  match tblGet (fun _ => none) (s.meter m).irms e with
  | some i => decide (i < s.get (R.METER_CTRL_ISTART m) * 65536)
  | none => false

/-- Add to an entry of a table of numbers. -/
def tblAdd (t : Tbl Nat) (k v : Nat) : Tbl Nat := tblSet (fun _ => 0) t k (tblGet (fun _ => 0) t k + v)
def tblAddI (t : Tbl Int) (k : Nat) (v : Int) : Tbl Int := tblSet (fun _ => 0) t k (tblGet (fun _ => 0) t k + v)

/-- The products of one element (R382): v, i, the products v × i and h(v) × i, and whether a value saturated. -/
def State.element (s : State) (m e : Nat) : (Int × Int) × (Int × Int) × Bool :=
  let x := s.meter m
  let c := x.blk.corr.getD e ((0, 0), (0, 0))
  let wv := inputWin x.hist (s.vsel m e)
  let v := corrected c.1.1 c.1.2 wv
  let i := corrected c.2.1 c.2.2 (inputWin x.hist (s.isel m e))
  let h := Config.meterHilbert c.1.1 c.1.2 wv
  ((v.1, i.1), (v.1 * i.1, h * i.1), v.2 || i.2)

/-- Add one element's products to the block `times` times; the answer is what it adds to p and q (R383). -/
def State.addElement (s : State) (m times e : Nat) : State × Int × Int :=
  let x := s.meter m
  let r := s.element m e
  let low := s.belowStart m e
  let p := if low then 0 else r.2.1.1
  let q := if low then 0 else r.2.1.2
  let b := x.blk
  let b := { b with
    v2 := tblAdd b.v2 e (times * (r.1.1 * r.1.1).toNat), i2 := tblAdd b.i2 e (times * (r.1.2 * r.1.2).toNat),
    p := tblAddI b.p e (times * p), q := tblAddI b.q e (times * q), creep := b.creep || low }
  let s := s.setMeter m { x with blk := b }
  let s := if r.2.2 then (s.raise (R.METER_STAT_OVL m)).ivFlag m 0x100 else s
  (s, p, q)

/-- The instant that places a sample in an interval: its stamp, or for an edge resolved in the synchroniser cycle that
straddles a boundary the end of that cycle, so that it falls in the later interval (R388). -/
def MSample.ivStamp (y : MSample) : Nat :=
  if y.flags.testBit 2 then y.t + (if y.flags.testBit 1 then 10 else 5) else y.t

/-- The products of the sample that is 64 samples old are formed and accumulated (R382 to R384). -/
def State.formProducts (s : State) (m : Nat) (y : MSample) : State :=
  let s := s.ivTurn m y.ivStamp
  let s := s.ivFlag m y.flags
  let x := s.meter m
  let s := if x.blk.start.isSome then s
    else s.setMeter m { x with blk := { x.blk with start := some (y.t / 200000000 * 200000000), corr := s.blockCorr m } }
  let times := if y.flags.testBit 1 then 2 else 1
  let r := (s.elems m).foldl (fun (z : State × Int × Int) e =>
    let w := z.1.addElement m times e
    (w.1, z.2.1 + w.2.1, z.2.2 + w.2.2)) (s, 0, 0)
  let s := r.1
  let p := if s.on (R.METER_CTRL_CDIR m) then -r.2.1 else r.2.1
  let x := s.meter m
  let nv := if s.on (R.METER_CTRL_NEN m) then
      let c := s.corrPoint m (s.get (R.METER_CTRL_NSEL m)) 0
      (corrected c.2.1 c.2.2 (inputWin x.hist (s.get (R.METER_CTRL_NSEL m)))).1 else 0
  let s := s.setMeter m { x with
    last := some y.t, byp := x.byp || y.flags.testBit 1, blk := { x.blk with n := x.blk.n + times, n2 := x.blk.n2 + times * (nv * nv).toNat } }
  s.addPq m (times * p) (times * r.2.2)

/-- Record an input fault, at most once per second per input (R402). -/
def State.inputFault (s : State) (m c : Nat) : State :=
  let s := s.raise (R.METER_STAT_IFLT m)
  let key := R.METER_STAT m * 32 + 24 + c
  if s.mayPost key then
    ({ s with limits := tblSet (fun _ => none) s.limits key (some s.upNs) } : State).post 0x0A02 15
      (stdPayload (24 + c) (s.rd (R.METER_STAT m)))
  else s

/-- The newest sample of an input counted from MD24, before it saturates (R377). -/
def State.decOut (s : State) (c : Nat) : Int := match (s.mdec (24 + c)).out with | some o => o.2 | none => 0

/-- The stamp of the newest sample of the inputs of an instance. -/
def State.decStamp (s : State) (m : Nat) : Option Word :=
  (s.inputsOf m).foldl (fun t c =>
    match (s.mdec (24 + c)).out, t with
    | some o, some u => if 0 < stampDiff o.1 u then some o.1 else t
    | some o, none => some o.1
    | none, _ => t) none

/-- An instance takes the newest samples of its inputs, once each: an input in fault counts as 0; `bnd` says that the edge was
resolved in the cycle that straddles a boundary (R377, R388, R402). -/
def State.meterTake (s : State) (m : Nat) (st : Word) (bnd : Bool) : State :=
  let used := s.inputsOf m
  let bad := used.filter s.mdFault
  let s := s.each bad (fun c u => u.inputFault m c)
  let val := (List.range 8).map (fun c => if bad.contains c then 0 else wordOfInt (satInt 32 (s.decOut c)))
  let ov := used.any (fun c => satFlag 32 (s.decOut c))
  let byp := s.meterByp
  let s := if ov then s.raise (R.METER_STAT_OVL m) else s
  let s := if byp then s.raise (R.METER_STAT_BYP m) else s
  let s := if bnd then s.raise (R.METER_STAT_BND m) else s
  let f := byp.toNat * 2 + bnd.toNat * 4 + (!bad.isEmpty).toNat * 16 + ov.toNat * 256
  let t := ((s.nowNs : Int) + stampDiff st s.stampL).toNat
  let x := s.meter m
  s.setMeter m { x with hist := (⟨t, val, f⟩ :: x.hist).take 144, taken := some st }

/-- The sample whose products are formed now, 64 samples after it was taken (R382). -/
def State.meterDue (s : State) (m : Nat) : Option MSample :=
  match (s.meter m).hist[64]? with
  | some y => if y.t < (s.meter m).since then none else some y
  | none => none

/-- A sample belongs to a block after the one in progress (R379). -/
def State.blockOver (s : State) (m t : Nat) : Bool :=
  match (s.meter m).blk.start with | some t0 => decide (t0 + 200000000 ≤ t) | none => false

/-! ### Blocks (R379) -/

/-- The block registers of an element. -/
def State.blockRegs (s : State) (m e : Nat) : State :=
  let b := (s.meter m).blk
  let n := max 1 b.n
  let v := isqrt (tblGet (fun _ => 0) b.v2 e / n)
  let i := isqrt (tblGet (fun _ => 0) b.i2 e / n)
  let s := (s.wr (R.METER_BLK_VRMS m e) (BitVec.ofNat 32 v)).wr (R.METER_BLK_IRMS m e) (BitVec.ofNat 32 i)
  let hi := fun (x : Int) => wordOfInt (x / ((n : Int) * 2 ^ 32))
  let s := (s.wr (R.METER_BLK_P m e) (hi (tblGet (fun _ => 0) b.p e))).wr (R.METER_BLK_Q m e) (hi (tblGet (fun _ => 0) b.q e))
  let s := s.wr (R.METER_BLK_S m e) (BitVec.ofNat 32 (v * i / 2 ^ 32))
  s.setMeter m { s.meter m with irms := tblSet (fun _ => none) (s.meter m).irms e (some i) }

/-- The apparent energy of a block (R384). -/
def State.blockApp (s : State) (m : Nat) : Nat :=
  1600 * ((s.elems m).map (fun e => (s.rd (R.METER_BLK_VRMS m e)).toNat * (s.rd (R.METER_BLK_IRMS m e)).toNat)).sum

/-- The apparent energy of the block that ended at the boundary belongs to the interval that ended there. -/
def State.fixClosing (s : State) (m ended : Nat) : State :=
  let x := s.meter m
  if decide (ended ≤ x.iv.start) then
    match x.closing.reverse with
    | c :: r =>
      let v := s.accV m 6
      s.setMeter m { x with closing := ({ c with v1 := c.v1.set 6 v } :: r).reverse, iv := { x.iv with v0 := x.iv.v0.set 6 v } }
    | [] => s
  else s

/-- A block ends (R379, R383, R384). -/
def State.blockEnd (s : State) (m : Nat) : State :=
  match s.pdRun 15 && s.on (R.METER_STAT_RUN m), (s.meter m).blk.start with
  | true, some t0 =>
    let s := s.each (s.elems m) (fun e t => t.blockRegs m e)
    let b := (s.meter m).blk
    let s := s.wr (R.METER_NRMS m) (BitVec.ofNat 32 (isqrt (b.n2 / max 1 b.n)))
    let s := (s.wr (R.METER_BLKSEC m) (BitVec.ofNat 32 (t0 / 1000000000))).wr (R.METER_BLKNS m) (BitVec.ofNat 32 (t0 % 1000000000))
    let s := s.putB (R.METER_STAT_CREEP m) b.creep
    let inOld := decide (t0 + 200000000 ≤ (s.meter m).iv.start)
    let s := if b.creep && !inOld then s.ivFlag m 0x20 else s
    let s := s.setMeter m { s.meter m with blk := blockReset }
    (s.accAdd m 6 (s.blockApp m)).fixClosing m (t0 + 200000000)
  | _, _ => s

/-! ### Enable and clear (R376, R380, R385, R387, R388) -/

/-- The breakpoints of a channel do not decrease. -/
def State.breaksOk (s : State) (m c : Nat) : Bool :=
  (List.range 8).all (fun j => decide ((s.corrPoint m c j).1 ≤ (s.corrPoint m c (j + 1)).1))

/-- MDIV and CDLY of an input's modulator clock. -/
def State.mdClock (s : State) (c : Nat) : Nat × Nat :=
  let k := s.get (R.MOD_MD_CFG_CKSEL (24 + c))
  (s.mdiv k, s.get (R.MOD_MD_CFG_CDLY (24 + c)))

/-- The configuration of an instance may be enabled. -/
def State.meterOk (s : State) (m : Nat) : Bool :=
  let used := s.inputsOf m
  decide (s.get (R.METER_CTRL_NEL m) ≠ 0) && decide (s.quantum m ≠ 0) &&
  [1, 2, 3, 4, 5, 6, 10, 12, 15, 20, 30, 60].contains (s.get (R.METER_IPER_IPER m)) &&
  used.all (fun c => s.breaksOk m c && [8, 10, 20, 25, 40].contains (s.mdClock c).1 &&
    decide (s.mdClock c = s.mdClock (used.headD 0)))

/-- An instance starts to accumulate from now; its interval in progress starts at the boundary before. -/
def State.meterRun (s : State) (m : Nat) : State :=
  let x := s.meter m
  let start := s.boundAt m s.time.sec * 1000000000
  let s := s.setMeter m { x with
    hist := [], taken := none, byp := false, since := s.nowNs, last := none, blk := blockReset, irms := [], iv := ⟨start, s.accVs m, [], 0⟩, closing := [] }
  ({ s with met := { s.met with ckSec := some s.time.sec } } : State).raise (R.METER_STAT_RUN m)

/-- EN = 1 is written (R376). -/
def State.meterEnable (s : State) (m : Nat) : State :=
  if s.pdRun 15 && !s.on (R.METER_CTRL_EN m) then
    if s.meterOk m then (s.raise (R.METER_CTRL_EN m)).meterRun m else s.raise (R.METER_STAT_CFE m)
  else s

/-- EN = 0 is written: accumulation stops. -/
def State.meterDisable (s : State) (m : Nat) : State := (s.clear (R.METER_CTRL_EN m)).clear (R.METER_STAT_RUN m)

/-- CLR is written (R387). -/
def State.meterClr (s : State) (m : Nat) : State :=
  if s.pdRun 15 then
    if !s.on (R.METER_CTRL_EN m) && s.fuseBit 57 2 then
      let s := s.post 0x0A03 15 (bytesLE 6 (s.accCount m 0) ++ bytesLE 6 (s.accCount m 1))
      let s := s.each (List.range 7) (fun a t => t.setAcc m a 0 0)
      s.setMeter m { s.meter m with clr := true }
    else s.raise (R.METER_STAT_WLE m)
  else s

/-! ### Checkpoints (R395 to R397) -/

/-- The part of a checkpoint that one instance fills, 64 words (R395). -/
def State.ckInst (s : State) (m : Nat) : List Word :=
  let acc := (List.range 7).flatMap (fun a => words64 (s.accCount m a) ++
    [BitVec.ofNat 32 (s.accRes m a), BitVec.ofNat 32 (s.accRes m a / 2 ^ 32), BitVec.ofNat 32 (s.accRes m a / 2 ^ 64)])
  let iv := (List.range 7).flatMap (fun a => words64 ((s.meter m).iv.v0.getD a 0))
  acc ++ iv ++ List.replicate 15 0#32

/-- The words of a checkpoint from its start to its mark (R395). -/
def State.ckWords (s : State) (seq sec ns : Nat) (ewm : Bool) : List Word :=
  let byp := s.metersOn.any (fun m => (s.meter m).byp)
  let w : List Word := [BitVec.ofNat 32 seq, BitVec.ofNat 32 sec, BitVec.ofNat 32 ns, BitVec.ofNat 32 (ewm.toNat + 2 * byp.toNat)] ++
    s.ckInst 0 ++ s.ckInst 1
  w ++ [BitVec.ofNat 32 (crc32 (w.flatMap (fun x => bytesLE 4 x.toNat))), 0x4D434B50#32]

/-- SEQ of the checkpoint that follows the one written last. -/
def State.ckNextSeq (s : State) : Nat :=
  let a := ckBase s.ckSlot
  if s.memWord (a + 0x214) = 0x4D434B50#32 then ((s.memWord a).toNat + 1) % 2 ^ 32 else 1

/-- Which slot the next checkpoint takes: the older one, slot A when neither is written (R395). -/
def State.ckNextSlot (s : State) : Nat :=
  if s.memWord (ckBase 0 + 0x214) = 0x4D434B50#32 ∨ s.memWord (ckBase 1 + 0x214) = 0x4D434B50#32 then 1 - s.ckSlot else 0

/-- The instant up to which samples are included: just after the last sample accumulated. -/
def State.lastSample (s : State) : Nat :=
  s.metersOn.foldl (fun t m => match (s.meter m).last with | some l => max t (l + 1) | none => t) 0

/-- A checkpoint posted now covers the samples on BYPCLK so far (R403). -/
def State.ckPosted (s : State) : State :=
  (s.each (List.range 2) (fun m t => t.setMeter m { t.meter m with byp := false }))

/-- The checkpoint of a top of second is due, 8 ms after it, once (R396). -/
def State.ckDue (s : State) : Bool :=
  decide (8000000 ≤ s.time.ns) && decide (s.met.ckSec ≠ some s.time.sec) && !s.metersOn.isEmpty && !s.on R.METER_CKSTAT_EWM

/-- A metering burst has ended, been deferred or been refused by a PD0 that is off (R396, R531): a checkpoint's SEQ and slot are shown, or CKD set. -/
def State.meterBurst (s : State) (b : Burst) (code : Nat) : State :=
  if b.words.length < 134 then s
  else if code = 0 then
    (s.put R.METER_CKSTAT_SLOT (if b.dst = ckBase 0 then 0 else 1)).put R.METER_CKSTAT_SEQ (b.words.headD 0).toNat
  else if code = 0x0A ∨ code = 0x04 then
    let s := if bitAt (b.words.getD 3 0) 1 then s.each s.metersOn (fun m t => t.setMeter m { t.meter m with byp := true }) else s
    (s.raise R.METER_CKSTAT_CKD).post 0x0A05 15 (stdPayload 0 (s.rd R.METER_CKSTAT))
  else s

/-- Ask for a checkpoint's burst; PD0 that is off answers GATED (R531). -/
def State.askCkpt (s : State) (b : Burst) : State := if s.eaves.on then s.askBurst b else s.meterBurst b 0x04

/-- The checkpoint at the top of a second: its instant is that top, or just after the last sample where a later one has been
accumulated (R395, R396). -/
def State.checkpoint (s : State) : State :=
  if s.pdRun 15 && s.ckDue then
    let t := max (s.time.sec * 1000000000) s.lastSample
    let w := s.ckWords s.ckNextSeq (t / 1000000000) (t % 1000000000) false
    let s := s.ckPosted.askCkpt ⟨.metering, ckBase s.ckNextSlot, w, 133⟩
    { s with met := { s.met with ckSec := some s.time.sec } }
  else s

/-- An early warning stands (R397, R567). -/
def State.warned (s : State) : Bool := s.on R.SYSCTL_SUPPLY_EW33 || s.on R.SYSCTL_SUPPLY_EWV

/-- The early-warning checkpoint (R397). -/
def State.ewmCheckpoint (s : State) : State :=
  if s.pdRun 15 && !s.metersOn.isEmpty && s.warned && !s.on R.METER_CKSTAT_EWM then
    let t := s.lastSample
    let w := s.ckWords s.ckNextSeq (t / 1000000000) (t % 1000000000) true
    let slot := s.ckNextSlot
    let s := s.ckPosted.askCkpt ⟨.metering, ckBase slot, w ++ List.replicate 122 0#32 ++ List.replicate 256 0#32, 133⟩
    ({ s with met := { s.met with journal := 0, slot := slot } } : State).raise R.METER_CKSTAT_EWM
  else s

/-! ### Restore (R399 to R401) -/

/-- A checkpoint slot is valid (R395). -/
def State.ckValid (s : State) (slot : Nat) : Bool :=
  let a := ckBase slot
  decide (s.memWord (a + 0x214) = 0x4D434B50#32) &&
    decide (s.memWord (a + 0x210) = BitVec.ofNat 32 (crc32 (s.bytes a 0x210))) &&
    !(s.ecc.any (fun e => decide (a ≤ e ∧ e < a + 0x218)))

/-- The valid slot with the higher SEQ (R400). -/
def State.ckNewest (s : State) : Option Nat :=
  match s.ckValid 0, s.ckValid 1 with
  | true, true => if (s.memWord (ckBase 1)).toNat < (s.memWord (ckBase 0)).toNat then some 0 else some 1
  | true, false => some 0
  | false, true => some 1
  | false, false => none

/-- A number of `n` words in memory, least significant first. -/
def State.memNum (s : State) (a : Nat) : Nat → Nat
  | 0 => 0
  | n + 1 => (s.memWord a).toNat + 2 ^ 32 * s.memNum (a + 4) n

/-- Load one instance from a slot (R400). -/
def State.ckLoad (s : State) (slot m : Nat) : State :=
  let b := ckBase slot + 0x10 + 0x100 * m
  let s := s.each (List.range 7) (fun a t => t.setAcc m a (s.memNum (b + 0x14 * a) 2) (s.memNum (b + 0x14 * a + 8) 3))
  let v0 := (List.range 7).map (fun a => s.memNum (b + 0x8C + 8 * a) 2)
  let start := s.boundAt m (s.memWord (ckBase slot + 4)).toNat * 1000000000
  s.setMeter m { s.meter m with iv := ⟨start, v0, [], 0x40⟩ }

/-- Apply the journal from word n on (R400); the answer counts the words applied. -/
def State.applyJournal (s : State) (slot : Nat) : Nat → Nat → State × Nat
  | 0, n => (s, n)
  | f + 1, n =>
    let w := s.memWord (ckBase slot + 0x400 + 4 * n)
    let m := fieldOf w 23 23
    let a := fieldOf w 22 20
    if a < 7 ∧ w = journalWord m a n then (s.setAcc m a ((s.accCount m a + 1) % 2 ^ 64) 0).applyJournal slot f (n + 1)
    else (s, n)

/-- The bound of R399 over the enabled instances, for a time in ns. -/
def State.lossBound (s : State) (dt : Nat) : Nat :=
  (s.metersOn.map (fun m => ((s.rd (R.METER_PRATEDQ m)).toNat * dt + 65536 * 1000000000 - 1) / (65536 * 1000000000))).foldl max 0

/-- The unsaved-interval record (R401). -/
def State.unsavedRecord (s : State) (tc bound cause words : Nat) : State :=
  let ens := s.metersOn.foldl (fun x m => x + 2 ^ m) 0
  let s := s.raise R.METER_CKSTAT_UNS
  s.post 0x0A01 15 (bytesLE 4 tc ++ bytesLE 4 bound ++ [BitVec.ofNat 8 ens, BitVec.ofNat 8 cause] ++ bytesLE 2 words)

/-- The restore after the release of PD15, once (R400): both instances, of which the enabled ones go on. -/
def State.meterRestore (s : State) : State :=
  if s.pdRun 15 && !s.met.restored then
    let s := { s with met := { s.met with restored := true } }
    let ms := s.metersOn
    let both := List.range 2
    let s := s.each ms (fun m t => t.meterRun m)
    match s.ckNewest with
    | none =>
      let s := s.each both (fun m t => (t.each (List.range 7) (fun a u => u.setAcc m a 0 0)).ivFlag m 0x40)
      s.unsavedRecord 0 0xFFFFFFFF 4 0
    | some slot =>
      let b := ckBase slot
      let tc := (s.memWord (b + 4)).toNat * 1000000000 + (s.memWord (b + 8)).toNat
      let tl := (s.rd R.EAVES_LOSSSEC).toNat * 1000000000 + (s.rd R.EAVES_LOSSNS).toNat
      let ewm := bitAt (s.memWord (b + 0xC)) 0
      let s := s.each both (fun m t => t.ckLoad slot m)
      let j := if ewm then s.applyJournal slot 256 0 else (s, 0)
      let s := (j.1.put R.METER_CKSTAT_SLOT slot).put R.METER_CKSTAT_SEQ (s.memWord b).toNat
      let full := decide (j.2 = 256)
      let s := if full then s.raise R.METER_CKSTAT_JFULL else s
      let known := s.eaves.stamp && decide (tc ≤ tl)
      let cause := if !known then 4 else if ewm then (if full then 1 else 0)
        else if 1008000000 < tl - tc then 3 else 2
      let bound := if !known then 0xFFFFFFFF else if ewm && !full then 1 else s.lossBound (tl - tc)
      s.unsavedRecord (tc / 1000000000) bound cause j.2
  else s

end Sys2Proof.Machine
end

