-- ==== Sys2Proof/Machine/Reset.lean ====
section
/-!
DEFINITION. The reset controller (R560 to R575, R580): what a reset of an island leaves, failures and their recovery
(R38, R44 to R49, R650, R651), the reset sources, the fuse load, and the watchdogs.
-/

namespace Sys2Proof.Machine

/-! ### Snapshot registers and their mirrors (R603) -/

/-- The register at an address is a snapshot register (R605). -/
def isSnap (a : Nat) : Bool :=
  match regAt a with
  | some (r, _) => (match r.kind with
    | .TIME_NOW_NS | .TIME_NOW_SECL | .TIME_NOW_SECH | .TIME_NOW_LST | .BATTEN_CH_COUNT | .MOD_MD_DATA | .MOD_MD_MON
    | .METER_ACC_CNTL | .METER_ACC_CNTH | .METER_ACC_FRAC | .METER_IVSEC | .METER_IVFLG | .METER_IV_LO | .METER_IV_HI
    | .METER_BLK_VRMS | .METER_BLK_IRMS | .METER_BLK_P | .METER_BLK_Q | .METER_BLK_S | .METER_NRMS | .METER_BLKSEC
    | .METER_BLKNS | .EAVES_SECL | .EAVES_SECH => true
    | _ => decide (blockOf a = some .RAFTER) && decide (0x800 ≤ a % 0x10000 ∧ a % 0x10000 < 0x4800) &&
        decide (0x20 ≤ a % 0x800 ∧ a % 0x800 < 0x78))
  | none => false

/-- What a snapshot register shows while its island runs. -/
def State.snapLive (s : State) (a : Nat) : Word :=
  match regAt a with
  | some (r, i) => (match r.kind with
    | .TIME_NOW_NS | .TIME_NOW_SECL | .TIME_NOW_SECH | .TIME_NOW_LST => s.nowReg a
    | .EAVES_SECL => BitVec.ofNat 32 s.eaves.sec
    | .EAVES_SECH => BitVec.ofNat 32 (s.eaves.sub * 65536 + s.eaves.sec / 2 ^ 32)
    | .BATTEN_CH_COUNT =>
      putField (s.rd a) 15 0 (s.posOf i / s.presc i)
    | _ => s.rd a)
  | none => 0

/-- The snapshot registers with a stored word in an island. -/
def State.snapListed (s : State) (pd : Nat) : List Nat :=
  (s.regs.map Prod.fst).filter (fun a => isSnap a && decide (pdOfReg a = pd))

/-- The gates of an island close: its mirrors keep the last complete copy (R603). -/
def State.keepMirror (s : State) (pd : Nat) : State :=
  let extra := if pd = 12 then (List.range 48).map R.BATTEN_CH_COUNT else if pd = 0 then [R.EAVES_SECL, R.EAVES_SECH] else []
  let m := tblKeep (fun a => decide (pdOfReg a ≠ pd)) s.host.mirror
  let m := (s.snapListed pd ++ extra).foldl (fun t a => tblSet (fun _ => 0) t a (s.snapLive a)) m
  { s with host := { s.host with mirror := m } }

/-! ### What a reset leaves (R16, R18, R39, R560) -/

/-- The bits of a register that a reset of its island keeps: RWS fields (R16), what the always-running part holds (R560), the
counts since POR (R18, R187, R486, R488, R526), and what a synthesizer does, which starts anew with a fuse load only (R572)
and whose consumers return under R466, R467 and R470 alone. -/
def keepBits (por : Bool) (a : Nat) : Word :=
  if a = R.SYSCTL_RSTCAUSE then 0xFFFFFFFF
  else if por then 0
  else if a = R.SYSCTL_BOOT then 0x20070000
  else if decide (0x40000000 ≤ a ∧ a < 0x40010000) &&
      !decide (R.SYSCTL_WDTCFG 0 ≤ a ∧ a ≤ R.SYSCTL_WDT2STAT) then 0xFFFFFFFF
  else if blockOf a = some .CFGSET then 0xFFFFFFFF
  else match regAt a with
    | some (r, _) =>
      (match r.kind with
      | .RAFTER_CORE_STAT => 0x00FF0000
      | .CLK_SYN_STAT => 0xF8FF0000
      | .CLK_SYN_ADIV | .CLK_ISL => 0xFFFFFFFF
      | .TIME_STAT => 0x03000000
      | .RIDGE_STAT => 0x0000FFFF
      | _ => r.rws)
    | none => 0

/-- The registers of the islands that a test selects return to their reset values, but for the bits that survive. -/
def State.resetRegs (s : State) (por : Bool) (p : Nat → Bool) : State :=
  s.regs.foldl (fun t x =>
    if p (pdOfReg x.1) then t.wr x.1 ((resetWord x.1 &&& ~~~ keepBits por x.1) ||| (x.2 &&& keepBits por x.1)) else t) s

/-- The memories of which a test selects the addresses are lost. -/
def State.loseMem (s : State) (p : Nat → Bool) : State :=
  { s with mem := tblKeep (fun a => !p a) s.mem, ecc := s.ecc.filter (fun a => !p a) }

/-- The yealms alone of a context. -/
def keepYealms (x : CtxSt) : CtxSt := { ctxReset with yealmA := x.yealmA, yealmB := x.yealmB }

/-- A reset of Rafter island PD(4 + n): core, contexts and phasor unit; yealms and memories stay (R39, R63). -/
def State.resetRafter (s : State) (n : Nat) : State :=
  let s := s.setCore n coreReset
  let s := s.each ((List.range 32).map (fun k => 32 * n + k)) (fun c t => t.setCtx c (keepYealms (t.ctx c)))
  { s with pus := tblKeep (fun k => decide (k ≠ n)) s.pus, sense := tblKeep (fun k => decide (k ≠ n)) s.sense }

/-- The descriptors of a Rafter core read 0 (R147). -/
def State.dropDescriptors (s : State) (n : Nat) : State :=
  s.loseMem (fun a => decide (rcData n + 0x7C000 ≤ a ∧ a < rcData n + 0x80000))

/-- What the reset of an island does to the state that is no mapped register; POR apart, memories outside PD3 stay. -/
def State.resetHidden (s : State) (pd : Nat) : State :=
  let s := { s with time := { s.time with lag := tblSet (fun _ => 0) s.time.lag pd 0 },
                    sys := { s.sys with stopped := s.sys.stopped.filter (· ≠ pd) },
                    timers := s.timers.filter (fun x => decide (x.1.pd ≠ pd)) }
  if pd = 1 then { s with safe := { s.safe with pf := false, deadF := false }, bat := { s.bat with clkLoss := false } }
  else if pd = 2 then
    let o := s.safe
    let s := s.setCore 10 coreReset
    { s with safe := { safeReset with
        session := o.session, everConf := o.everConf, markA := o.markA, markB := o.markB, lockSec := o.lockSec, lockNs := o.lockNs } }
  else if pd = 3 then
    let s := (s.setCore 8 coreReset).setCore 9 coreReset
    let s := s.loseMem (fun a => match memAt a with | some k => decide (pdOfMem k = 3) | none => false)
    { s with host := hostReset, seq := seqReset, ptp := ptpReset, limits := [],
             time := { s.time with ns := 0, frac := 0 } }
  else if pd ≤ 11 then s.resetRafter (pd - 4)
  else if pd = 12 then
    { s with bchs := [], brls := [], bat := { s.bat with epochs := [], rsync := false }, legs := [], sls := [], rlLoops := [],
             gate := State.reset.gate, bcs := [], mpps := [] }
  else if pd = 13 then { s with cmps := [], wins := [], mcks := [], mds := [], hadc := State.reset.hadc, sense := [] }
  else if pd = 14 then { s with lanes := [], enets := [], ridge := State.reset.ridge }
  else if pd = 15 then { s with meters := [], met := State.reset.met }
  else s

/-- Set the state that PDn shows. -/
def State.setPd (s : State) (pd v : Nat) : State := s.put (R.SYSCTL_PD_STATE pd) v

/-- STATE of an island. -/
def State.pdState (s : State) (pd : Nat) : Nat := s.get (R.SYSCTL_PD_STATE pd)

/-- A word of the shadow of the fuse array. -/
def State.shadowWord (s : State) (k : Nat) : Word := tblGet fuseDefault s.sys.shadow k

/-- The shadow dividers and seeds of the synthesizers take their fused values, which are what any reset of PD3 gives the
fields marked F (R18, R486). -/
def State.fusedClk (s : State) : State :=
  s.each (List.range 4) (fun n t =>
    (t.wr (R.CLK_SYN_DIV n) (s.shadowWord (49 + 2 * n))).put (R.CLK_SYN_DITH_SEED n) (fieldOf (s.shadowWord (50 + 2 * n)) 23 0))

/-- An island shows HELD, from now on (R561). -/
def State.enterHeld (s : State) (pd : Nat) : State := (s.setPd pd 1).startTimer (.held pd)

/-- The nanoseconds of a number of REFCLK cycles, counted at NOM (R572). -/
def State.refNs (s : State) (k : Nat) : Nat := k * 100000 / s.get R.CLK_REF_NOM

/-- When an island has been HELD for its 64 REFCLK cycles (R561). -/
def State.heldTill (s : State) (pd : Nat) : Nat := (s.timerAt (.held pd)).getD 0 + s.refNs 64

/-- The next island of a release sequence is due the gap G from now (R572, R573). -/
def State.gapStarts (s : State) : State :=
  { s with sys := { s.sys with due := s.upNs + s.refNs (s.get R.SYSCTL_FUSESTAT_RELGAP) } }

/-- The gates of an island close and its reset is asserted: HELD (R561). -/
def State.holdIsland (s : State) (pd : Nat) : State :=
  let u := s
  let s := s.noteInts.keepMirror pd
  let s := s.resetRegs false (fun k => decide (k = pd))
  let s := if pd = 3 then s.fusedClk else s
  let s := s.resetHidden pd
  let s := if pd = 13 then State.noteWindows u s else s
  let s := s.enterHeld pd
  { s with sys := { s.sys with failed := s.sys.failed.filter (· ≠ pd), restoreDue := s.sys.restoreDue.filter (· ≠ pd) } }

/-! ### Bits that PD0 holds (R560, R573) -/

/-- An update of RSTCAUSE, FSC or UND is lost while PD0 is off. -/
def State.inPd0 (s : State) (f : State → State) : State := if s.eaves.on then f s else s

/-- Set a cause bit. -/
def State.cause (s : State) (r : Ref) : State := s.inPd0 (fun t => t.raise r)

/-- Set a cause bit and ISL. -/
def State.causeAt (s : State) (r : Ref) (pd : Nat) : State := s.inPd0 (fun t => (t.raise r).put R.SYSCTL_RSTCAUSE_ISL pd)

/-- A start that the device itself ends before DONE counts against the image, up to 4 (R580, R581). -/
def State.endStart (s : State) : State :=
  if s.on R.SYSCTL_BOOT_BC then s
  else s.inPd0 (fun t => t.put R.SYSCTL_BOOT_FSC (min 4 (t.get R.SYSCTL_BOOT_FSC + 1)))

/-- The device is in Underlay mode (R581). -/
def State.underlay (s : State) : Bool := s.on R.SYSCTL_BOOT_UND && s.pdRun 3

/-! ### Resets of a scope (R564, R566) -/

/-- The islands of a scope that begins at an island, in release order (R572). -/
def releaseOrder : List Nat := [1, 2, 3, 13, 14, 15, 4, 5, 6, 7, 8, 9, 10, 11, 12]

/-- Reset the islands from `lo` up; OFF islands stay OFF (R562). With `fuses` a fuse load starts, or starts anew, once BYPCLK is
stable (R566, R568). -/
def State.resetScope (s : State) (lo : Nat) (fuses : Bool) : State :=
  let pds := releaseOrder.filter (fun k => decide (lo ≤ k))
  let s := s.each pds (fun k t =>
    let off := decide (t.pdState k = 0)
    let t := t.holdIsland k
    if off then t.setPd k 0 else t.clear (R.SYSCTL_PD_CKH k))
  let s := s.each (List.range 8) (fun n t => t.dropDescriptors n)
  let s := if lo = 1 then s.clear (R.SYSCTL_PD_CKH 0) else s
  { s with host := { s.host with mirror := [] }, sys := { s.sys with
      fuseDue := s.sys.fuseDue || fuses, recovering := [], failed := [], restoreDue := [], inLoader := false, wdt3 := false,
      due := s.upNs + s.refNs 64, fuseAt := if fuses then max s.sys.fuseAt (s.upNs + 10240) else s.sys.fuseAt } }

/-- A restart under R49: every output is removed, PD3 to PD15 reset, and a record says that the recovery is not covered;
the promise is void (R52). -/
def State.fullRestart (s : State) : State :=
  let s := s.resetScope 3 false
  let s := { s with sys := { s.sys with void := true } }
  s.postUnc 0x0110 3 (stdPayload 3 (s.rd (R.SYSCTL_PD 3)))

/-- Loss of everything that VCORE holds: the memories but for MRAM, the yealms, and the always-running part (R39, R560). -/
def State.porLoss (s : State) : State :=
  let s := s.loseMem (fun a => match memAt a with | some .mram => false | some _ => true | none => false)
  let s := { s with ctxs := [], law := lawReset, wram := [], syns := [], sys := { sysReset with
    fuses := s.sys.fuses, shadow := s.sys.shadow, void := s.sys.void, inLoader := false, wdt3 := false }, cfg := cfgReset }
  let s := s.resetRegs true (fun k => decide (k ≠ 0))
  let s := { s with timers := s.timers.filter (fun x => decide (x.1.pd = 0)) }
  s.each releaseOrder (fun k t => t.enterHeld k)

/-- Power-on reset, of a rise or of a brown-out of VCORE (R564); BYPCLK is stable 10.24 µs after the rise (R462).
At a brown-out PD0 takes the stamp of the loss (R535, R567). -/
def State.powerOn (s : State) (brownout : Bool) : State :=
  let s := if brownout then s.supplyLoss true false else s
  let s := s.resetScope 1 true
  let s := s.porLoss
  let s := { s with sys := { s.sys with fuseDue := true, fnomDue := true, fuseAt := s.upNs + 20480 } }
  let s := s.inPd0 (fun t => (t.put R.SYSCTL_BOOT_FSC 0).clear R.SYSCTL_BOOT_UND)
  let s := s.cause R.SYSCTL_RSTCAUSE_POR
  if brownout then s.cause R.SYSCTL_RSTCAUSE_BVCORE else s

/-- SUPPLY.OK of supplies, by their bits: VANA 5, VIO33 4, VIO18 3, VLANEIO 2, VLANE 1, VCORE 0 (R595). -/
def State.supplyOk (s : State) (bits : Nat) (ok : Bool) : State :=
  let v := s.get R.SYSCTL_SUPPLY_OK
  s.put R.SYSCTL_SUPPLY_OK (if ok then v ||| bits else v &&& (63 - bits))

/-- The supplies without which an island is not released: they are above their brown-out levels when it is. -/
def supplyBits (pd : Nat) : Nat := if pd = 3 then 25 else if pd = 13 then 32 else if pd = 14 then 6 else 0

/-- Brown-out of VIO33, of which PD0 takes the stamp (R535, R564, R567). -/
def State.brownVio33 (s : State) : State := (((s.supplyLoss false true).cause R.SYSCTL_RSTCAUSE_BVIO33).supplyOk 16 false).resetScope 1 true

/-- Brown-out of VIO18: a restart under R49. -/
def State.brownVio18 (s : State) : State := ((s.cause R.SYSCTL_RSTCAUSE_BVIO18).supplyOk 8 false).fullRestart

/-- RESET_N held low (R564). -/
def State.pinReset (s : State) : State := (s.cause R.SYSCTL_RSTCAUSE_PIN).resetScope 1 true

/-- An SWR with the key (R564, R583); in Underlay it needs a VERIFY before. -/
def State.softReset (s : State) (pd1 : Bool) : State :=
  let go := fun (t : State) => (t.cause R.SYSCTL_RSTCAUSE_SWR).resetScope (if pd1 then 1 else 3) pd1
  if s.underlay then
    if s.sys.verified then
      let s := s.inPd0 (fun t => (t.clear R.SYSCTL_BOOT_UND).put R.SYSCTL_BOOT_FSC 0)
      go { s with sys := { s.sys with verified := false } }
    else s.raise R.SYSCTL_RSTCTL_RKE
  else if s.pdRun 3 then go s.endStart
  else s

/-! ### Failures of one island (R38, R44 to R47, R651) -/

/-- INH on the outputs bound to an island (R47); for a restored Rafter island it is the reason 21 that a commit ends. -/
def State.pulseInhibit (s : State) (pd : Nat) : State :=
  if 4 ≤ pd ∧ pd ≤ 11 then (s.boundTo pd).foldl (fun t c => t.inhibit pd c) s else s.inhibitIsland pd

/-- The gates of a failed island close, the failure is counted and recorded with the island as source (R38). -/
def State.isolate (s : State) (pd : Nat) (unc : Bool) : State :=
  let s := s.keepMirror pd
  let s := s.pulseInhibit pd
  let s := if pd = 12 ∧ s.sys.stopped.contains 12 then s.refuseEpochs else s
  let s := (s.setPd pd 3).bumpSat (R.SYSCTL_PD_FCNT pd)
  let s := { s with sys := { s.sys with failed := s.sys.failed ++ [pd] } }
  if unc then s.postUnc 0x0110 pd (stdPayload pd (s.rd (R.SYSCTL_PD pd)))
  else s.postPlain 1 pd pd (s.rd (R.SYSCTL_PD pd))

/-- A report against PD3: a restart under R49 (R44 covers no failure of PD3). -/
def State.failPd3 (s : State) (cause : FailCause) : State :=
  let s := match cause with
    | .lku => (s.causeAt R.SYSCTL_RSTCAUSE_LKU 3).endStart
    | .wdt => s.endStart
    | _ => s
  ((s.bumpSat (R.SYSCTL_PD_FCNT 3)).postUnc 0x0110 3 (stdPayload 3 (s.rd (R.SYSCTL_PD 3)))).fullRestart

/-- A fault of a class of R44 is being recovered: of a Rafter core, of a synthesizer bypassed after a loss, or of a lane. -/
def State.coveredOpen (s : State) : Bool :=
  !s.sys.recovering.isEmpty ||
  (List.range 4).any (fun n => s.on (R.CLK_SYN_STAT_BYP n) && !s.on (R.CLK_SYN_STAT_UPDP n) &&
    (!s.on (R.CLK_SYN_STAT_FBH n) || !s.on (R.CLK_SYN_STAT_STABLE n))) ||
  (List.range 32).any (fun n => (s.lane n).burst)

/-- A fault is being recovered, also one of R651 (R45, R651). -/
def State.faultOpen (s : State) : Bool := s.coveredOpen || !s.sys.failed.isEmpty || !s.sys.restoreDue.isEmpty

/-- No supply is known to be outside its operating limits: no early warning stands (R45, R567). A supply below its brown-out
level has failed its island or holds PD3 in reset. -/
def State.suppliesOk (s : State) : Bool := !s.on R.SYSCTL_SUPPLY_EWV && !s.on R.SYSCTL_SUPPLY_EW33

/-- Both stores are at or above their minimum as far as they have been measured since PD0 started (R45, R530). -/
def State.storesOk (s : State) : Bool := s.eaves.on && (s.on R.EAVES_STAT_OK45 || decide (s.rd R.EAVES_VMEAS = 0))

/-- The conditions of R45 for a fault that is reported now: every supply within its limits, no store below its minimum, and
no other fault open. -/
def State.r45 (s : State) : Bool := s.storesOk && s.suppliesOk && !s.faultOpen

/-- A fault of a class of R44, or two at once, has come in state `was`: unless R45 is met for it alone, the guarantee does
not apply (R45, R46, R49). -/
def State.coveredFault (s was : State) (faults : Nat) : State :=
  if decide (faults = 0) || (decide (faults = 1) && was.r45) then s else s.fullRestart

/-- A condition of R45 fails while a covered fault is being recovered (R49). -/
def State.r45Lost (s was : State) (lost : Bool) : State := if lost && was.coveredOpen then s.fullRestart else s

/-- A report against an island (R38): the Warden's lock-up is Flashing's (R100); PD3 restarts; a Rafter core's lock-up or
watchdog is recovered under R174 unless R45 is not met; a brown-out or a clock failure is recovered
under R651, but a second fault during a recovery under R44; a parity fault of any island is outside the classes (R49),
also one of PD0 to PD2, which keep running, and so is a clock failure of PD0, which its own observer reports (R31). -/
def State.islandFailed (s : State) (pd : Nat) (cause : FailCause) : State :=
  if pd ≤ 2 then
    match cause with
    | .lku => if pd = 2 then s.safeFault 0 1 else s
    | .parity =>
      ((s.bumpSat (R.SYSCTL_PD_FCNT pd)).postUnc 0x0110 pd (stdPayload pd (s.rd (R.SYSCTL_PD pd)))).fullRestart
    | .clock =>
      if pd = 0 ∧ s.eaves.on then
        ((s.bumpSat (R.SYSCTL_PD_FCNT pd)).postUnc 0x0110 pd (stdPayload pd (s.rd (R.SYSCTL_PD pd)))).fullRestart
      else s
    | _ => s
  else if pd = 3 then s.failPd3 cause
  else if s.pdState pd = 3 then s.postPlain 1 pd pd (s.rd (R.SYSCTL_PD pd))
  else if s.pdState pd ≠ 2 then s
  else
    let s := match cause with
      | .lku => s.causeAt R.SYSCTL_RSTCAUSE_LKU pd
      | .wdt => s.causeAt R.SYSCTL_RSTCAUSE_WDT2 pd
      | _ => s
    let covered := match cause with | .lku | .wdt => decide (pd ≤ 11) | _ => false
    let restart := s.coveredOpen || (covered && !s.r45)
    match cause with
    | .parity => (s.isolate pd true).fullRestart
    | _ =>
      let s := s.isolate pd (!covered || restart)
      if restart then s.fullRestart
      else if covered then { s with sys := { s.sys with recovering := [pd] } }
      else s

/-- A fabric transfer with a parity error is discarded, and its sender fails (R34). -/
def State.fabricTransfer (s : State) (src dst : Nat) (parityError : Bool) : State :=
  if parityError && s.pdRun src && s.pdRun dst then s.islandFailed src .parity else s

/-- The clock of an island stops: it holds its state, and its mirrors the last copy (R603, R650). -/
def State.clockStop (s : State) (pd : Nat) : State :=
  if 3 ≤ pd ∧ s.pdRun pd then
    let s := s.keepMirror pd
    let s := if pd = 12 then s.noteTicks else if pd = 13 then s.noteRamps else s
    { s with sys := { s.sys with stopped := s.sys.stopped ++ [pd] } }
  else s

/-- The clock starts again after `ns`: the island resumes, and its stamps lag (R650). -/
def State.clockRestart (s : State) (pd ns : Nat) : State :=
  if s.sys.stopped.contains pd then
    let s := { s with sys := { s.sys with stopped := s.sys.stopped.filter (· ≠ pd) } }
    let s := if pd = 12 then s.resumeTicks else if pd = 13 then s.resumeRamps else s
    if pd = 3 then s
    else { s with time := { s.time with lag := tblSet (fun _ => 0) s.time.lag pd (tblGet (fun _ => 0) s.time.lag pd + ns) } }
  else s

/-- Flashing has removed PF after the Batten clock loss, or another observer has reported an island's clock: the island
fails (R223, R438). -/
def State.observedStop (s : State) (pd : Nat) : State :=
  if 3 ≤ pd ∧ pd ≤ 15 then s.islandFailed pd .clock else s

/-- PD0 finds the 16 MHz or the 32.768 kHz oscillator of its own domain failed, and reports it (R31). -/
def State.pd0ClockBad (s : State) : State := s.islandFailed 0 .clock

/-- An isolated island is reset (R44, R651): a Rafter island is then released behind closed gates for its restore, its
contexts configured as they were (R147). -/
def State.recoverReset (s : State) (pd : Nat) : State :=
  let cs := ((List.range 32).map (fun k => 32 * (pd - 4) + k)).filter s.isCfg
  let s := (s.holdIsland pd).supplyOk (if 13 ≤ pd then supplyBits pd else 0) true
  if 4 ≤ pd ∧ pd ≤ 11 then
    let s := s.each cs (fun c t => t.raise (R.RAFTER_CTX_STAT_CFG c))
    let s := s.raise (R.RAFTER_CORE_STAT_RSTR (pd - 4))
    { s with sys := { s.sys with restoreDue := s.sys.restoreDue ++ [pd] } } else s

/-- The reset controller asserts pulse inhibit for a recovering island (R47). -/
def State.pulseInhibitCmd (s : State) (pd : Nat) : State :=
  if 4 ≤ pd ∧ pd ≤ 15 ∧ s.pdState pd ≠ 2 then s.pulseInhibit pd else s

/-- Brown-out of a supply of one island, named by its cause bit and its bit of SUPPLY.OK (R564, R595). -/
def State.brownIsland (s : State) (pd : Nat) (r : Ref) (bit : Nat) : State :=
  ((s.cause r).supplyOk bit false).islandFailed pd .brownout

/-! ### Switching and restarting islands (R562, R563) -/

/-- A switch-off is refused (R562). -/
def State.offRefused (s : State) (pd : Nat) : Bool :=
  if 4 ≤ pd ∧ pd ≤ 11 then ((List.range 32).map (fun k => 32 * (pd - 4) + k)).any (fun c => !s.isOpen c)
  else if pd = 14 then (List.range 32).any (fun n => s.on (R.PURLIN_LANE_CFG_EN n))
  else if pd = 15 then !s.metersOn.isEmpty
  else true

/-- PWR is written 0. -/
def State.pwrOff (s : State) (pd : Nat) : State :=
  if s.offRefused pd then s.raise (R.SYSCTL_PD_PDE pd)
  else if s.pdState pd = 2 then
    let s := s.holdIsland pd
    let s := if 4 ≤ pd ∧ pd ≤ 11 then (s.dropDescriptors (pd - 4)).judge [] else s
    (s.setPd pd 0).clear (R.SYSCTL_PD_PWR pd)
  else s

/-- PWR is written 1. -/
def State.pwrOn (s : State) (pd : Nat) : State :=
  if s.pdState pd = 0 then (s.enterHeld pd).raise (R.SYSCTL_PD_PWR pd) else s

/-- RESTART is written (R563, R573). -/
def State.restart (s : State) (pd : Nat) (stable : Bool) : State :=
  if decide (pd < 4) || decide (s.pdState pd = 0) ||
      (decide (pd = 12) && allChans.any (fun c => decide (s.get (chState c) ≠ 0))) then s.raise (R.SYSCTL_PD_RSE pd)
  else if s.pdState pd = 1 then
    if s.on (R.SYSCTL_PD_CKH pd) && stable then s.clear (R.SYSCTL_PD_CKH pd) else s
  else
    let s := s.holdIsland pd
    let s := { s with sys := { s.sys with recovering := s.sys.recovering.filter (· ≠ pd) } }
    let s := if 4 ≤ pd ∧ pd ≤ 11 then (s.dropDescriptors (pd - 4)).judge [] else s
    s.postPlain 1 3 pd (s.rd (R.SYSCTL_PD pd))

/-! ### Watchdogs (R574, R575, R579) -/

/-- EN of WDT0 or WDT1 is written 1: it runs from now (R574). -/
def State.wdtEnable (s : State) (k : Nat) : State :=
  if s.on (R.SYSCTL_WDTCFG_EN k) then s else (s.raise (R.SYSCTL_WDTCFG_EN k)).startTimer (.wdt k)

/-- Expiry of WDT0 or WDT1: a restart under R49 (R564). -/
def State.wdtExpires (s : State) (k : Nat) : State :=
  if s.pdRun 3 && !s.underlay && s.on (R.SYSCTL_WDTCFG_EN k) then
    ((s.cause ⟨R.SYSCTL_RSTCAUSE, 12 + k, 12 + k⟩).endStart).fullRestart
  else s

/-- TMO ms have passed without a valid KICK (R574, R595). -/
def State.supWatchdog (s : State) (k : Nat) : State :=
  if s.past (.wdt k) (max 1 (s.get (R.SYSCTL_WDTCFG_TMO k)) * 1000000) then s.wdtExpires k else s

/-- A KICK write restarts the count of a running watchdog, or expires it at once (R574). -/
def State.wdtKick (s : State) (k : Nat) (w : Word) : State :=
  if w ≠ 0x4B1C then s.wdtExpires k
  else if s.on (R.SYSCTL_WDTCFG_EN k) then s.startTimer (.wdt k) else s

/-- EN bits of WDT2 are written: one can be cleared only while its core has no closed context (R575). -/
def State.wdt2Written (s : State) (old en : Nat) : State :=
  let stay := mask8 (fun n => old.testBit n && !en.testBit n &&
    ((List.range 32).map (fun k => 32 * n + k)).any (fun c => !s.isOpen c))
  let s := s.put R.SYSCTL_WDT2CFG_EN (en ||| stay)
  if stay = 0 then s else s.raise R.SYSCTL_WDT2CFG_WLE

/-- A dispatch has run for RWTO (R575). -/
def State.rafterWatchdog (s : State) (n : Nat) : State :=
  if s.pdRun 3 && s.pdRun (pdOfRc n) && !s.underlay && (s.get R.SYSCTL_WDT2CFG_EN).testBit n && (s.core n).ctx.isSome &&
      s.past (.disp n) (max 1 (s.get R.SYSCTL_WDT2CFG_RWTO) * 1000) then
    (s.raise ⟨R.SYSCTL_WDT2STAT, 24 + n, 24 + n⟩).islandFailed (pdOfRc n) .wdt
  else s

/-- Expiry of WDT3, 2 s after the release of PD3 (R579). -/
def State.bootWatchdog (s : State) : State :=
  if s.pdRun 3 && s.sys.wdt3 && decide ((s.timerAt .boot).getD 0 + 2000000000 ≤ s.upNs) then ((s.cause R.SYSCTL_RSTCAUSE_WDT3).endStart).resetScope 3 false else s

/-! ### Maintenance requests (R565) -/

/-- MRQREQ is written with a purpose. -/
def State.mrqRequest (s : State) (purpose : Nat) : State :=
  if s.pdRun 3 && decide (s.get R.SYSCTL_MRQSTAT_ST ≠ 3) then
    let hi := s.openWord
    let s := s.drawn
    let lo := s.openWord
    let s := s.drawn
    let s := { s with sys := { s.sys with nonce := hi ++ lo, purpose := purpose, rsp := [] } }
    ((s.put R.SYSCTL_MRQSTAT_ST 1).wr (R.SYSCTL_MRQCH 0) hi).wr (R.SYSCTL_MRQCH 1) lo
  else s

/-- MRQRSP7 is written: the response is checked. -/
def State.mrqResponse (s : State) (w : Word) : State :=
  if s.pdRun 3 && decide (s.get R.SYSCTL_MRQSTAT_ST = 1) then
    let key := s.fuseKey 74
    let msg := bytesBE 8 s.sys.nonce.toNat ++ [BitVec.ofNat 8 s.sys.purpose] ++ bytesBE 4 (s.rd R.SYSCTL_ID).toNat
    let ok := decide (rspBytes (tblSet (fun _ => 0) s.sys.rsp 7 w) = hmac key msg) && !keyZero key
    let purpose := s.sys.purpose
    let n := s.sys.fails + 1
    let s := { s with sys := { s.sys with nonce := 0, rsp := [], purpose := 0 } }
    let s := (s.wr (R.SYSCTL_MRQCH 0) 0).wr (R.SYSCTL_MRQCH 1) 0
    if ok then
      let s := { s with sys := { s.sys with fails := 0 } }
      let s := s.put R.SYSCTL_MRQSTAT_ST 0
      let s := (s.cause R.SYSCTL_RSTCAUSE_MRQ).endStart
      let s := if purpose = 2 then s.inPd0 (fun t => t.raise R.SYSCTL_BOOT_UND) else s
      s.resetScope 1 true
    else
      let s := { s with sys := { s.sys with fails := if n = 3 then 0 else n } }
      let s := if n = 3 then s.startTimer .mrqBlock else s
      (s.put R.SYSCTL_MRQSTAT_ST (if n = 3 then 3 else 0)).flagPost 1 R.SYSCTL_MRQSTAT_MRF 3 0
  else s

/-- The 600 s block ends. -/
def State.mrqUnblock (s : State) : State :=
  if s.get R.SYSCTL_MRQSTAT_ST = 3 ∧ s.past .mrqBlock 600000000000 then s.put R.SYSCTL_MRQSTAT_ST 0 else s

/-! ### Early warning (R567) -/

/-- A detector reports: VIO33's or VCORE's. -/
def State.earlyWarning (s : State) (vio33 : Bool) : State :=
  (s.raise (if vio33 then R.SYSCTL_SUPPLY_EW33 else R.SYSCTL_SUPPLY_EWV)).raise R.SYSCTL_SUPPLY_EWC

/-- A detector clears; with both clear, metering journalling stops, and checkpoints go on at the next top of second (R397). -/
def State.earlyWarningClear (s : State) (vio33 : Bool) : State :=
  let s := s.clear (if vio33 then R.SYSCTL_SUPPLY_EW33 else R.SYSCTL_SUPPLY_EWV)
  if s.on R.SYSCTL_SUPPLY_EW33 || s.on R.SYSCTL_SUPPLY_EWV then s
  else if s.on R.METER_CKSTAT_EWM then
    ({ s with met := { s.met with ckSec := some s.time.sec } } : State).clear R.METER_CKSTAT_EWM
  else s

/-! ### The fuse load (R568 to R570) -/

/-- A word of the fuse array. -/
def State.fuse (s : State) (k : Nat) : Word := tblGet fuseDefault s.sys.fuses k

/-- The CRC of the factory words checks; the bit-by-bit majority always decides (R568). -/
def State.fusesGood (s : State) : Bool :=
  let ws := (List.range 256).filter (fun k => decide (k ≤ 113 ∨ (139 ≤ k ∧ k ≤ 254)))
  decide (s.fuse 255 = BitVec.ofNat 32 (crc32 (ws.flatMap (fun k => bytesLE 4 (s.fuse k).toNat))))

/-- The fields marked F take their values from the shadow, and the synthesizers start with their fused dividers (R343, R461,
R486, R555, R572). -/
def State.loadFused (s : State) : State :=
  let s := s.put R.SYSCTL_FUSESTAT_RELGAP (fieldOf (s.shadowWord 48) 15 0)
  let s := s.fusedClk.each (List.range 4) (fun n t =>
    let t := t.wr (R.CLK_SYN_ADIV n) (s.shadowWord (49 + 2 * n))
    let t := (t.wr (R.CLK_SYN_STAT n) (t.rd (R.CLK_SYN_STAT n) &&& 0x00FF001E)).markByp n false
    t.setSyn n { synReset with lfsr := seedOf (t.get (R.CLK_SYN_DITH_SEED n)) })
  let s := if s.sys.fnomDue then
      s.each (List.range 8) (fun n t => t.put (R.RAFTER_PU_CFG_FNOM n) (fieldOf (t.shadowWord 48) 16 16)) else s
  let s := { s with sys := { s.sys with fnomDue := false } }
  if s.eaves.on then (s.putB R.THATCH_STAT_RDEN (s.fuseBit 57 0)).putB R.THATCH_STAT_CLREN (s.fuseBit 57 1) else s

/-- INH from a failed trim load on every output (R569). -/
def State.trimInhibit (s : State) : State := allChans.foldl (fun t c => t.inhibit 20 c) s

/-- The array as this load finds it. A word that is not field-programmable and has changed since the last load voids the
promise, with a record (R52, R570). -/
def State.fusesFound (s : State) (arr : List (Fin 256 × Word)) : State :=
  let f := arr.foldl (fun t x => tblSet fuseDefault t x.1.val x.2) s.sys.fuses
  let new := arr.filter (fun x => decide (x.1.val ≤ 113 ∨ 139 ≤ x.1.val) && decide (s.fuse x.1.val ≠ x.2))
  let s := { s with sys := { s.sys with fuses := f } }
  if new.isEmpty then s
  else ({ s with sys := { s.sys with void := true } } : State).postPlain 1 3 0 (s.rd R.SYSCTL_FUSESTAT)

/-- One load of the fuse map, whose array holds `arr` beside what it held, ends: 10.24 µs after it started (R568). -/
def State.fuseLoad (s : State) (arr : List (Fin 256 × Word)) : State :=
  if s.sys.fuseDue && decide (s.sys.fuseAt ≤ s.upNs) then
    let s := s.fusesFound arr
    if s.fusesGood then
      let s := { s with sys := { s.sys with shadow := s.sys.fuses, fuseDue := false } }
      let s := ((s.clear R.SYSCTL_FUSESTAT_TRIMFAIL).raise R.SYSCTL_FUSESTAT_FLD).put R.SYSCTL_FUSESTAT_LOADCNT 0
      s.loadFused.gapStarts
    else
      let n := s.get R.SYSCTL_FUSESTAT_LOADCNT + 1
      let s := (s.clear R.SYSCTL_FUSESTAT_FLD).put R.SYSCTL_FUSESTAT_LOADCNT (min 3 n)
      if n < 3 then { s with sys := { s.sys with fuseAt := s.upNs + 10240 } }
      else
        let pins := (List.range 18).foldl (fun t k => tblSet fuseDefault t (16 + k) (if k < 17 then 0xFFFFFFFF#32 else 0xFFFFF#32))
          ([] : Tbl Word)
        let s := { s with sys := { s.sys with shadow := pins, fuseDue := false, void := true } }
        let s := (s.raise R.SYSCTL_FUSESTAT_TRIMFAIL).loadFused.gapStarts
        s.postUnc (0x0120 + R.SYSCTL_FUSESTAT_TRIMFAIL.lo) 3 (stdPayload 0 (s.rd R.SYSCTL_FUSESTAT))
  else s

end Sys2Proof.Machine
end

