-- ==== Sys2Proof/Machine/Rafter.lean ====
section
/-!
DEFINITION. The Rafter islands (R145 to R189): dispatch events and the scheduler, sample vectors and run-ahead
resolution, drains, the end of a dispatch, trace blocks, the restore, Survey mode and CTXCMD.
-/

namespace Sys2Proof.Machine

/-! ### Dispatch events (R153, R154, R168, R170) -/

/-- The code of an event in DESC_TRIG.EVT (R151). -/
def evtMatches (evt : Nat) (e : BattenEvent) : Bool :=
  match e with | .reload => decide (evt = 0 ∨ evt = 2) | .sampling => decide (evt = 1 ∨ evt = 2)

/-- One event for one context: every (DIV + 1)th readies it, and one that finds it ready is dropped (R154). -/
def State.ctxEvent (s : State) (c : Nat) (stamp : Word) : State :=
  let x := s.ctx c
  if x.divCount < s.df c 0x0C 21 16 then s.setCtx c { x with divCount := x.divCount + 1 }
  else
    let x := { x with divCount := 0, fbCount := if s.fbl c then x.fbCount + 1 else x.fbCount }
    if x.ready then ((s.setCtx c x).flagPost 4 (R.RAFTER_CTX_STAT_OVRN c) (pdOfRc (coreOf c)) c).traceBreak c
    else s.setCtx c { x with
      ready := true, readyStamp := stamp, waits := if s.ncomp c = 0 then x.waits else x.waits ++ [⟨stamp, [], false⟩] }

/-- The stamp of a channel's event, and whether it has still to reach a core. -/
def State.evOf (s : State) (ch : Chan) (e : BattenEvent) (n : Nat) : Word × Bool :=
  match ch, e with
  | .dir k, .reload => ((s.bch k).start, (s.bch k).evReload.testBit n)
  | .dir k, .sampling => ((s.bch k).trig, (s.bch k).evSample.testBit n)
  | .rem k, .reload => ((s.brl k).start, (s.brl k).evReload.testBit n)
  | .rem k, .sampling => ((s.brl k).trig, (s.brl k).evSample.testBit n)

/-- The event has reached a core. -/
def State.evTaken (s : State) (ch : Chan) (e : BattenEvent) (n : Nat) : State :=
  match ch, e with
  | .dir k, .reload => s.setBch k { s.bch k with evReload := (s.bch k).evReload - 2 ^ n }
  | .dir k, .sampling => s.setBch k { s.bch k with evSample := (s.bch k).evSample - 2 ^ n }
  | .rem k, .reload => s.setBrl k { s.brl k with evReload := (s.brl k).evReload - 2 ^ n }
  | .rem k, .sampling => s.setBrl k { s.brl k with evSample := (s.brl k).evSample - 2 ^ n }

/-- The contexts of a core. -/
def ctxsOf (n : Nat) : List Nat := (List.range 32).map (fun k => 32 * n + k)

/-- A Batten event reaches a core's scheduler (R153). -/
def State.dispatchEvent (s : State) (n : Nat) (ch : Chan) (e : BattenEvent) : State :=
  let ev := s.evOf ch e n
  if s.pdRun (pdOfRc n) && ev.2 then
    let s := s.evTaken ch e n
    let cs := (ctxsOf n).filter (fun c =>
      s.isCfg c && decide (chanOfCode (s.df c 0x0C 31 24) = some ch) && evtMatches (s.df c 0x0C 23 22) e)
    s.each cs (fun c t => t.ctxEvent c ev.1)
  else s

/-! ### The scheduler (R153 to R155, R648) -/

/-- Background code stands in WAIT, in which the dispatches run, until an interrupt is pending (R648). -/
def State.bgStands (s : State) (n : Nat) : Bool :=
  let x := s.core n
  (x.waiting || x.bgWait) && x.ctx.isNone && !s.intSeen n

/-- The core may start a dispatch: background code stands in WAIT, or a dispatch has ended and the next is ready (R648); no
dispatch starts in Survey mode or once it is requested (R178). -/
def State.coreIdle (s : State) (n : Nat) : Bool :=
  let x := s.core n
  s.pdRun (pdOfRc n) && s.on (R.RAFTER_CORE_MODE_DSPEN n) && !x.survey && !x.surveyReq && !x.lockup && x.ctx.isNone &&
    x.stalled.isNone && (s.bgStands n || (x.between && !x.bgWait && !x.waiting))

/-- Whether one context goes before another: lower PRIO, then lower number (R154). -/
def State.before (s : State) (c d : Nat) : Bool :=
  decide (s.df c 0 30 28 < s.df d 0 30 28) || (decide (s.df c 0 30 28 = s.df d 0 30 28) && decide (c ≤ d))

/-- The ready context that runs next. -/
def State.nextReady (s : State) (n : Nat) : Option Nat :=
  ((ctxsOf n).filter (fun c => s.isCfg c && (s.ctx c).ready)).foldl (fun b c => match b with
    | none => some c
    | some d => if s.before d c then some d else some c) none

/-- A dispatch of a context starts: the close takes effect, G1 to G4 are written, and the law's first bundle is next
(R113, R155, R156, R166). -/
def State.startDispatch (s : State) (n c : Nat) : State :=
  let s := if (s.ctx c).pendClose then s.closeEffect c else s
  let x := s.ctx c
  let first := s.on (R.RAFTER_CTX_STAT_FIRST c) && !s.isOpen c
  let g1 := BitVec.ofNat 32 (c + 256 * first.toNat + 512 * (s.fbl c).toNat)
  let s := s.setCtx c { x with ready := false, dispStamp := x.readyStamp, vec := none, pred := x.last }
  let k := s.core n
  let k := setG (setG (setG (setG k 1 g1) 2 (BitVec.ofNat 32 (s.blockAddr c))) 3 (BitVec.ofNat 32 (s.coefAddr c))) 4 x.readyStamp
  (s.setCore n { k with
    ctx := some c, real := x.vec, region := .none, between := false, pc := BitVec.ofNat 32 (s.entryAddr c), stalled := none,
    waiting := false, bgWait := k.bgWait || k.waiting, bgPc := if k.waiting then k.pc else k.bgPc,
    cb := [], undo := [], reexec := false }).startTimer (.disp n)

/-- The scheduler starts the next ready context of an idle core (R153). -/
def State.dispatch (s : State) (n : Nat) : State :=
  if s.coreIdle n then (match s.nextReady n with | some c => s.startDispatch n c | none => s) else s

/-- A dispatch ends (R119, R128, R172): an accepted OPEN takes effect, the yealm copy starts, and the core returns to its
scheduler. -/
def State.endDispatch (s : State) (n : Nat) : State :=
  match (s.core n).ctx with
  | none => s
  | some c =>
    let s := if (s.ctx c).pendOpen then s.openEffect c else s
    let s := s.putB (R.RAFTER_CTX_STAT_FIRST c) (s.ctx c).pendClose
    let s := s.setCtx c { s.ctx c with copy := some (s.yealmOf c (newerAge (s.ctx c) + 1)) }
    s.setCore n { s.core n with ctx := none, real := none, region := .none, between := true, cb := [], undo := [], reexec := false }

/-! ### Vectors and resolution (R115, R156, R157, R168, R169) -/

/-- The real vector agrees with the predictions within the tolerances (R157). -/
def State.vectorPasses (s : State) (c : Nat) (v : List Word) : Bool :=
  (List.range (s.ncomp c)).all (fun k =>
    decide (((v.getD k 0).toInt - (tblGet (fun _ => 0) (s.ctx c).pred k).toInt).natAbs ≤ (s.desc c (0x80 + 4 * k)).toNat))

/-- A pass: the region goes on as it stands (R115). -/
def State.passRegion (s : State) (n : Nat) : State :=
  let x := s.core n
  (s.setCore n (setCsr { x with region := .live, undo := [] } 0x102 (csrOf x 0x102 + 1))).clear (R.RAFTER_CORE_STAT_UNDO n)

/-- The vector of the running dispatch arrives: an unresolved region resolves. -/
def State.resolve (s : State) (n c : Nat) (v : List Word) : State :=
  let s := s.setCore n { s.core n with real := some v }
  if (s.core n).region = .spec then
    if s.vectorPasses c v then s.passRegion n else s.rollback n 3
  else s

/-- A vector completes in time with the flag clear (R156): that of the running dispatch's event is its real vector, and
another is held for the next dispatch (DEDUCED, log entry 116). -/
def State.takeVector (s : State) (c : Nat) (stamp : Word) (v : List Word) : State :=
  let n := coreOf c
  let last := (v.zipIdx).foldl (fun (t : Tbl Word) x => tblSet (fun _ => 0) t x.2 x.1) []
  let s := s.setCtx c { s.ctx c with last := last }
  if s.isRunning c && (s.core n).real.isNone && decide ((s.ctx c).dispStamp = stamp) then s.resolve n c v
  else
    let s := if (s.ctx c).vec.isSome then s.raise (R.RAFTER_CTX_STAT_OVRN c) else s
    s.setCtx c { s.ctx c with vec := some v }

/-- The components of an awaited vector, once all have been presented. -/
def State.whole (s : State) (c : Nat) (a : Awaited) : Option (List Word) :=
  (List.range (s.ncomp c)).mapM (fun k => tblGet (fun _ => none) a.part k)

/-- The oldest awaited vector that is whole. -/
def State.wholeVector (s : State) (c : Nat) : Option (Awaited × List Word) :=
  (s.ctx c).waits.findSome? (fun a => (s.whole c a).map (fun v => (a, v)))

/-- A sample vector completes in the island (R156, R168); under the flag it only counts toward its clearing. -/
def State.vectorArrival (s : State) (c : Nat) : State :=
  match s.isCfg c && s.pdRun (pdOfRc (coreOf c)), s.wholeVector c with
  | true, some (a, v) =>
    let x := s.ctx c
    let s := s.setCtx c { x with waits := x.waits.erase a }
    if s.fbl c then
      if a.rep || s.boundInputBad c then s.setCtx c { s.ctx c with good := 0 }
      else if x.good < 7 then s.setCtx c { s.ctx c with good := x.good + 1 }
      else (s.fbClear c).takeVector c a.stamp v
    else s.takeVector c a.stamp v
  | _, _ => s

/-- The oldest vector has not arrived in time: it is awaited no longer (R168). -/
def State.vectorTimeout (s : State) (c : Nat) : State :=
  let x := s.ctx c
  if s.isCfg c && s.pdRun (pdOfRc (coreOf c)) && !x.waits.isEmpty then (s.setCtx c { x with waits := x.waits.tail }).fbRaise c else s

/-- The eighth good vector in a row completes and clears the flag (R168). -/
def State.feedbackClear (s : State) (c : Nat) : State :=
  if s.fbl c && decide ((s.ctx c).good = 7) then s.vectorArrival c else s

/-- What SAMP returns when it does not wait for the real vector (R114, R169). -/
def State.policyVal (s : State) (c k : Nat) : Word :=
  if s.fbpol c = 2 then tblGet (fun _ => 0) (s.ctx c).pred k else tblGet (fun _ => 0) (s.ctx c).last k

/-! ### Drains (R123 to R125, R164, R174) -/

/-- The committed values after the entries of a drain. -/
def State.noteCommitted (s : State) (c : Nat) (es : List CbEntry) : State :=
  let codes := s.pwmCodes c
  let t := es.foldl (fun t e => if codes.contains e.ch then tblSet (fun _ => none) t (e.ch * 8 + e.sel) (some e.val) else t)
    (s.ctx c).committed
  s.setCtx c { s.ctx c with committed := t }

/-- A recovery of a core is over once every context that was closed has committed (R44, R174). -/
def State.recoveryCheck (s : State) (n : Nat) : State :=
  if (ctxsOf n).any (fun c => (s.ctx c).restoring && (!s.isOpen c || (s.ctx c).pendClose)) then s
  else { s with sys := { s.sys with recovering := s.sys.recovering.filter (· ≠ pdOfRc n) } }

/-- The first commit after a restore: the pulse inhibit of the bound channels is marked for release (R174). -/
def State.restoreCommit (s : State) (c : Nat) : State :=
  if (s.ctx c).restoring then
    let s := s.setCtx c { s.ctx c with restoring := false }
    let pd := pdOfRc (coreOf c)
    let s := (s.boundChans c).foldl (fun t ch => (t.uninhibit pd ch).markRelease ch) s
    s.recoveryCheck (coreOf c)
  else s

/-- Drain a core's commit buffer; the answer counts the entries. The entries of an open context are discarded (R164), and the
grid law commits nothing while its record is invalid (R319). -/
def State.drain (s : State) (n : Nat) : State × Nat :=
  let x := s.core n
  let es := x.cb
  let s := s.setCore n { x with cb := [] }
  match x.ctx with
  | some c =>
    if es.isEmpty || s.isOpen c || s.lawBars c then (s, es.length)
    else (((s.noteCommitted c es).sendEpoch c es false).restoreCommit c, es.length)
  | none => (s, es.length)

/-- A re-execution has exceeded 280 cycles (R161). -/
def State.reexecLimit (s : State) (n : Nat) : State :=
  match (s.core n).reexec, (s.core n).ctx with
  | true, some c => (s.raise (R.RAFTER_CTX_STAT_RLX c)).postFlagLimited 4 (R.RAFTER_CTX_STAT_RLX c) (pdOfRc n) c
  | _, _ => s

/-! ### Trace (R126, R179 to R184) -/

/-- A trace node of a context. -/
def State.node (s : State) (c k : Nat) : TraceNode := tblGet (fun _ => traceReset) (s.ctx c).trace k

/-- Replace it. -/
def State.setNode (s : State) (c k : Nat) (t : TraceNode) : State :=
  s.setCtx c { s.ctx c with trace := tblSet (fun _ => traceReset) (s.ctx c).trace k t }

/-- Tag, bytes and the new reference for a value after the first of a block: MODE 0 sends differences (R181), MODE 1
fifths of the distance from the reconstructed value (R182). -/
def traceCode (mode : Nat) (prev v : Word) : Nat × List Byte × Word :=
  let full := (2, bytesLE 4 v.toNat, v)
  let d := v.toInt - prev.toInt
  let q := if mode = 0 then d else (2 * d + 5) / 10
  let r := if mode = 0 then v.toInt else prev.toInt + 5 * q
  if satFlag 32 r then full
  else if q = 0 then (3, [], wordOfInt r)
  else if !satFlag 8 q then (0, bytesLE 1 (natOfInt 8 q), wordOfInt r)
  else if !satFlag 16 q then (1, bytesLE 2 (natOfInt 16 q), wordOfInt r)
  else full

/-- Address of a node's region and its number of blocks. -/
def State.traceRegion (s : State) (c k : Nat) : Nat × Nat :=
  (0x00E00000 + 1024 * s.df c (0x100 + 4 * k) 18 9, 16 * (s.df c (0x100 + 4 * k) 28 19 + 1))

/-- Write the value into the node's open block: payload, then tag word, then header (R180). -/
def State.traceStore (s : State) (c k mode tag : Nat) (bs : List Byte) (ref : Word) : State :=
  let t := s.node c k
  let a := (s.traceRegion c k).1 + 64 * (t.pos - 1)
  let tags := if mode = 2 then 0 else t.tags + tag * 4 ^ t.count
  let s := s.putBytes (a + 12 + t.used) bs
  let s := s.putWords (a + 8) [BitVec.ofNat 32 tags]
  let h := c % 256 * 2 ^ 24 + k * 2 ^ 20 + mode * 2 ^ 18 + (t.count + 1) * 2 ^ 13 + t.bgap.toNat * 2 ^ 12 + (t.seq + 2047) % 2048
  let s := s.putWords a [t.stamp, BitVec.ofNat 32 h]
  s.setNode c k { t with count := t.count + 1, tags := tags, used := t.used + bs.length, prev := ref }

/-- Start a new block with a value (R179, R184); with STOP and a full region the value is dropped. -/
def State.traceFresh (s : State) (c k mode : Nat) (bs : List Byte) (ref : Word) : State × Nat :=
  let w := s.desc c (0x100 + 4 * k)
  let t := if (s.node c k).bind = w then s.node c k else { s.node c k with pos := 0 }
  let n := (s.traceRegion c k).2
  if t.pos = n ∧ s.df c (0x100 + 4 * k) 29 29 = 1 then (s.setNode c k { t with full := true, live := false }, 9)
  else
    let t := { t with
      live := true, pos := (if t.pos = n then 1 else t.pos + 1), count := 0, bgap := t.gap, gap := false,
      seq := (t.seq + 1) % 2048, stamp := (s.ctx c).dispStamp, tags := 0, used := 0, bind := w }
    ((s.setNode c k t).traceStore c k mode 2 bs ref, 0)

/-- TRACE and TRACED: the value with its 64 bits; the answer is the code of R126, UNBOUND before TOOBIG before GATED (DESIGN
CHOICE, log entry 113). A node bound anew starts at the base of its region (R179). -/
def State.traceWrite (s : State) (c k : Nat) (v : BitVec 64) (dbl : Bool) : State × Nat :=
  let w := s.desc c (0x100 + 4 * k)
  if !bitAt w 31 then (s, 8)
  else if dbl && !bitAt w 30 then (s, 3)
  else if !s.pdOpen 3 then (s, 4)
  else
    let t := s.node c k
    if bitAt w 30 then
      let x : BitVec 64 := if dbl then v else (v.truncate 32).signExtend 64
      let bs := bytesLE 8 x.toNat
      if t.live && decide (t.bind = w) && decide (t.count < 6) then (s.traceStore c k 2 0 bs 0, 0) else s.traceFresh c k 2 bs 0
    else
      let mode := s.df c 0 16 16
      let x := v.truncate 32
      let e := traceCode mode t.prev x
      if t.live && decide (t.bind = w) && decide (t.count < 16) && decide (t.used + e.2.1.length ≤ 52) then
        (s.traceStore c k mode e.1 e.2.1 e.2.2, 0)
      else s.traceFresh c k mode (bytesLE 4 x.toNat) x

/-! ### The restore (R174, R175) -/

/-- The slots of a context, newer first: false names slot A. -/
def yealmSlots (x : CtxSt) : List (Bool × Yealm) :=
  let l := if x.yealmA.age < x.yealmB.age then [(true, x.yealmB), (false, x.yealmA)] else [(false, x.yealmA), (true, x.yealmB)]
  l.filter (fun y => y.2.marked)

/-- Copy a yealm back into local memory and the context's state. -/
def State.applyYealm (s : State) (c : Nat) (y : Yealm) : State :=
  let s := s.putWords (s.blockAddr c) y.block
  let s := s.put (R.RAFTER_CTX_STAT_FBP c) y.fbp
  let s := s.putB (R.RAFTER_CTX_STAT_FBL c) (decide (y.fbp ≠ 0))
  let s := s.setCtx c { s.ctx c with
    fbCount := y.fbCount, last := y.last, pred := y.pred, committed := y.committed, dispStamp := y.stamp, readyStamp := y.stamp }
  let cl := !y.opn || y.pendClose
  let s := s.setPendCtx c false cl
  if cl then s.raise (R.RAFTER_CTX_STAT_FIRST c) else s

/-- Step 1 for one context: the newer slot whose CRC checks; none with a marked slot is a yealm failure (R175). -/
def State.restoreCtx (s : State) (bad : List (Fin 256 × Bool)) (c : Nat) : State × Bool :=
  let ys := yealmSlots (s.ctx c)
  match ys.find? (fun y => decide (y.2.crc = yealmCrc y.2) && !bad.any (fun b => decide (b.1.val = c) && b.2 == y.1)) with
  | some y => (s.applyYealm c y.2, false)
  | none =>
    if ys.isEmpty then (s, false)
    else ((s.clear (R.RAFTER_CTX_STAT_CFG c)).flagPost 4 (R.RAFTER_CTX_STAT_YLF c) (pdOfRc (coreOf c)) c, true)

/-- Step 3 for one context: one epoch restores the last committed values of its bound channels. -/
def State.restoreEpoch (s : State) (c : Nat) : State :=
  let es := (List.range (s.npwm c)).flatMap (fun k => (List.range 7).filterMap (fun sel =>
    match chanOfCode (s.pwmCode c k) with
    | some ch => if (selOff ch sel).isSome then some ⟨sel, s.pwmCode c k, s.committedVal c k sel⟩ else none
    | none => none))
  let held := (List.range (s.npwm c)).foldl (fun t k =>
    tblSet (fun _ => none) t (s.pwmCode c k) (some (s.committedVal c k 1))) []
  let s := s.setCtx c { s.ctx c with restoring := true, held := held }
  (s.traceBreak c).sendEpoch c es false

/-- The restore sequencer of a core: `bad` names the slots of which the retention storage has lost bits, so that their CRC
fails. The contexts that were configured at the failure are (R147). -/
def State.restore (s : State) (n : Nat) (bad : List (Fin 256 × Bool)) : State :=
  let pd := pdOfRc n
  if s.sys.restoreDue.contains pd && decide (s.heldTill pd ≤ s.upNs) then
    let cs := (ctxsOf n).filter s.isCfg
    let r := cs.foldl (fun (z : State × Bool) c => let w := z.1.restoreCtx bad c; (w.1, z.2 || w.2)) (s, false)
    if r.2 then r.1.fullRestart
    else
      let s := r.1
      let s := { s with sys := { s.sys with restoreDue := s.sys.restoreDue.filter (· ≠ pd) } }
      let s := s.setPd pd 2
      let s := s.each cs (fun c t => t.restoreEpoch c)
      let s := ((s.bumpSat (R.RAFTER_CORE_STAT_RCNT n)).clear (R.RAFTER_CORE_MODE_SVY n)).raise (R.RAFTER_CORE_MODE_DSPEN n)
      let s := s.clear (R.RAFTER_CORE_STAT_RSTR n)
      (s.setCore n { s.core n with survey := false, surveyReq := false }).recoveryCheck n
  else s

/-! ### Survey mode (R178), CTXCMD (R189) and UTIL (R188) -/

/-- SVY = 1 is written. -/
def State.surveyRequest (s : State) (n : Nat) : State :=
  if s.pdRun (pdOfRc n) then
    if (ctxsOf n).any (fun c => !s.isOpen c) then s.raise (R.RAFTER_CORE_MODE_SVYR n)
    else (s.raise (R.RAFTER_CORE_MODE_SVY n)).setCore n { s.core n with surveyReq := true }
  else s

/-- The core enters Survey mode when no dispatch runs. -/
def State.surveyEntry (s : State) (n : Nat) : State :=
  let x := s.core n
  if s.pdRun (pdOfRc n) && x.surveyReq && x.ctx.isNone then s.setCore n { x with survey := true } else s

/-- SVY = 0 is written, and the window has retired. -/
def State.surveyEnd (s : State) (n : Nat) : State :=
  if s.pdRun (pdOfRc n) then
    (s.clear (R.RAFTER_CORE_MODE_SVY n)).setCore n { s.core n with survey := false, surveyReq := false }
  else s

/-- A window of 65,536 cycles ends. -/
def State.utilWindow (s : State) (n busy : Nat) : State :=
  if s.pdRun (pdOfRc n) then s.put (R.RAFTER_CORE_UTIL_BUSY n) (min 65535 busy) else s

end Sys2Proof.Machine
end

