-- ==== Sys2Proof/Machine/CfgSet.lean ====
section
/-!
DEFINITION. Configuration sets (R584 to R594): the layout of a set, what an entry may name, SWAP, CHECK and LOAD, the
exchange, and the stored sets.
-/

namespace Sys2Proof.Machine

/-! ### The layout of a set (R584) -/

/-- One value of a set: the number of its entry, its target, and where the value stands. -/
structure CfgVal where
  idx : Nat
  tgt : Nat
  pos : Nat
  deriving DecidableEq, Repr

/-- Read the entries from `pos` to `fin`; the answer holds the values in order and the entry that is malformed. -/
def State.cfgParse (s : State) (fin : Nat) : Nat → Nat → Nat → List CfgVal × Option Nat
  | 0, _, idx => ([], some idx)
  | f + 1, idx, pos =>
    if pos = fin then ([], none)
    else
      let w := s.memWord pos
      let t := (fieldOf w 31 2) * 4
      match fieldOf w 1 0 with
      | 0 =>
        if fin < pos + 8 then ([], some idx)
        else
          let r := s.cfgParse fin f (idx + 1) (pos + 8)
          (⟨idx, t, pos + 4⟩ :: r.1, r.2)
      | 1 =>
        let n := (s.memWord (pos + 4)).toNat
        if n = 0 ∨ 1024 < n ∨ fin < pos + 8 + 4 * n then ([], some idx)
        else
          let r := s.cfgParse fin f (idx + 1) (pos + 8 + 4 * n)
          ((List.range n).map (fun k => ⟨idx, t + 4 * k, pos + 8 + 4 * k⟩) ++ r.1, r.2)
      | _ => ([], some idx)

/-- The first entry that names an address named before. -/
def cfgDup : List CfgVal → List Nat → Option Nat
  | [], _ => none
  | e :: l, seen => if seen.contains e.tgt then some e.idx else cfgDup l (e.tgt :: seen)

/-- The base of the shadow area and the largest LEN. -/
def shadowBase : Nat := 0x00AE0000
def maxLen : Nat := 0x0001E000

/-- The values of the set at a base and, where it is not well formed, the entry to name (R584). -/
def State.cfgRead (s : State) (base : Nat) : List CfgVal × Option Nat :=
  let len := (s.memWord (base + 4)).toNat
  if s.memWord base ≠ 0x43534554 ∨ maxLen < len then ([], some 0)
  else if s.memWord (base + 0xC) ≠ BitVec.ofNat 32 (crc32 (s.bytes (base + 0x40) len)) then ([], some 0)
  else
    let r := s.cfgParse (base + 0x40 + len) (len / 4 + 1) 0 (base + 0x40)
    match r.2 with
    | some i => (r.1, some i)
    | none => (r.1, cfgDup r.1 [])

/-! ### Targets (R585) -/

/-- How an entry takes effect: in a Rafter memory, with the value registers of an output, at an output's reload or release
cycle, at the reload of a converter's lead, with a meter's block, or at B. -/
inductive CfgClass where
  | rcMem (n : Nat)
  | value (c : Chan)
  | own (c : Chan)
  | boost (k : Nat)
  | meter (m : Nat)
  | atB
  deriving DecidableEq, Repr

/-- An output by its kind and number. -/
def dirOf (i : Nat) : Option Chan := chanOfCode i
def remOf (i : Nat) : Option Chan := chanOfCode (64 + i)

/-- The class of a register of the map. -/
def regClass (a : Nat) : Option CfgClass :=
  match regAt a with
  | none => none
  | some (r, i) => match r.kind with
    | .TIME_PT_INC | .TIME_PT_EGC => some .atB
    | .BATTEN_CH_PERIOD | .BATTEN_CH_DUTY | .BATTEN_CH_PHASE | .BATTEN_CH_SAMPLE => (dirOf i).map .value
    | .BATTEN_RL_PERIOD | .BATTEN_RL_DUTY | .BATTEN_RL_PHASE | .BATTEN_RL_SAMPLE => (remOf i).map .value
    | .BATTEN_CH_DTR | .BATTEN_CH_DTF | .BATTEN_CH_BLANK | .BATTEN_CH_MINPW | .GATE_LEG_CFG | .GATE_LEG_STR => (dirOf i).map .own
    | .BATTEN_RL_DTR | .BATTEN_RL_DTF | .BATTEN_RL_MINPW | .GATE_RL_STR => (remOf i).map .own
    | .BATTEN_LEAD | .GATE_ILKGAP => (remOf (6 * i)).map .own
    | .CMP_DAC | .CMP_RAMP | .CMP_WIN_LDAC | .CMP_WIN_UDAC | .CMP_WIN_QUAL | .MOD_MD_MLIM => some .atB
    | .BOOST_BC_LIM | .BOOST_BC_RAMP | .BOOST_BC_SHED | .BOOST_BC_SHTM | .BOOST_BC_STEP | .BOOST_BC_XTOL | .BOOST_BC_XMIN
    | .BOOST_BC_MVLIM | .BOOST_BC_MSTEP | .BOOST_BC_MSCAN | .BOOST_BC_MTRIG => some (.boost i)
    | .METER_CTRL => some (.meter i)
    | .METER_CORR_A | .METER_CORR_B => some (.meter (i / 72))
    | .RAFTER_PU_ROC | .RAFTER_PU_VS | .RAFTER_PU_FLIM | .RAFTER_PU_ISEPL | .RAFTER_PU_ISEPH | .RAFTER_PU_ISPER
    | .RAFTER_PU_ISOFF | .RAFTER_PU_ISBIAS | .RAFTER_PU_ISSIGN | .RAFTER_PU_ISCFG => some .atB
    | _ => none

/-- The class of an entry's target; a word of a Rafter data memory must lie in a descriptor or in the coefficient area of a
configured context. -/
def State.cfgClass (s : State) (a : Nat) : Option CfgClass :=
  if a < 0x00800000 then
    let n := a / 0x100000
    let o := a % 0x100000
    if 0x7C000 ≤ o ∧ o < 0x80000 then some (.rcMem n)
    else if (ctxsOf n).any (fun c => s.isCfg c && decide ((s.coefArea c).1 ≤ o ∧ o < (s.coefArea c).1 + (s.coefArea c).2)) then
      some (.rcMem n)
    else none
  else regClass a

/-- The bits of a register that an entry names (R585). -/
def cfgMask (a : Nat) : Word :=
  match regAt a with
  | none => 0xFFFFFFFF
  | some (r, _) => match r.kind with
    | .METER_CTRL => 0xFFFF
    | .CMP_DAC | .CMP_WIN_LDAC | .CMP_WIN_UDAC => 0x3FF
    | .GATE_LEG_CFG => (r.rw ||| r.rwl ||| r.rws) &&& 0x00FFFFFF#32
    | _ => r.rw ||| r.rwl ||| r.rws

/-- The island of a target. -/
def cfgPd (a : Nat) : Nat := if a < 0x00800000 then 4 + a / 0x100000 else pdOfReg a

/-- The value in force at a target. -/
def State.cfgGet (s : State) (a : Nat) : Word := if a < 0x00800000 then s.memWord a else s.rd a &&& cfgMask a

/-- What the exchange of a register does beside its fields: the loops start from FIXCODE, and a lead is judged anew (R218, R242,
R244). -/
def State.afterPut (s : State) (k : Kind) (i : Nat) (old : Word) : State :=
  match k with
  | .GATE_LEG_STR => s.strWritten i old
  | .GATE_RL_STR => s.rlStrWritten i old
  | .BATTEN_LEAD => s.leadCheck [i]
  | _ => s

/-- Put a value of a set into force. -/
def State.cfgPut (s : State) (a : Nat) (v : Word) : State :=
  if a < 0x00800000 then s.putWords a [if (descCtx a).isSome then v &&& descMask (a % 0x200) else v]
  else match regAt a with
    | some (r, i) => (match r.kind with
      | .CMP_DAC => s.dacWrite (.leg (Fin.ofNat 96 i)) (fieldOf v 9 0) false
      | .CMP_WIN_LDAC => State.noteWindows s (s.dacWrite (.winLo (Fin.ofNat 16 i)) (fieldOf v 9 0) false)
      | .CMP_WIN_UDAC => State.noteWindows s (s.dacWrite (.winHi (Fin.ofNat 16 i)) (fieldOf v 9 0) false)
      | _ => (s.wr a ((s.rd a &&& ~~~ cfgMask a) ||| (v &&& cfgMask a))).afterPut r.kind i (s.rd a))
    | none => s

/-- Exchange one value: the one in force goes into the shadow area (R590). -/
def State.cfgExchange (s : State) (e : Nat × Nat) : State :=
  let old := s.cfgGet e.1
  let v := s.memWord e.2
  (s.putWords e.2 [old]).cfgPut e.1 v

/-- Exchange the values still due whose class a test selects, but for those in an island that is not in RUN: they wait for its
recovery (R590). -/
def State.swapSome (s : State) (p : Nat → CfgClass → Bool) : State :=
  let sel := fun (e : Nat × Nat) => match s.cfgClass e.1 with | some k => p e.1 k && s.pdOpen (cfgPd e.1) | none => false
  let go := s.cfg.todo.filter sel
  let s := { s with cfg := { s.cfg with todo := s.cfg.todo.filter (fun e => !sel e) } }
  go.foldl (fun t e => t.cfgExchange e) s

/-- A SWAP is running its exchange. -/
def State.swapping (s : State) : Bool := s.get R.CFGSET_STAT_STATE = 2

/-- An output's reload or release cycle. -/
def State.swapAtOwner (s : State) (c : Chan) : State :=
  if s.swapping then s.swapSome (fun _ k => decide (k = .own c)) else s

/-- A reload of a converter's lead. -/
def State.swapAtLead (s : State) (k : Nat) : State := if s.swapping then s.swapSome (fun _ x => decide (x = .boost k)) else s

/-- A block of a meter starts. -/
def State.swapAtBlock (s : State) (m : Nat) : State := if s.swapping then s.swapSome (fun _ x => decide (x = .meter m)) else s

/-- Everything still due in an island that has recovered (R590). -/
def State.swapIsland (s : State) (pd : Nat) : State := if s.swapping then s.swapSome (fun a _ => decide (cfgPd a = pd)) else s

/-! ### Banks (R592) -/

/-- The two banks of a core change places. -/
def State.switchBank (s : State) (n : Nat) : State :=
  let lo := rcData n + 0x80000
  let flip := fun a => if lo ≤ a ∧ a < lo + 0x10000 then a + 0x10000 else if lo + 0x10000 ≤ a ∧ a < lo + 0x20000 then a - 0x10000 else a
  let inW := fun a => decide (lo ≤ a ∧ a < lo + 0x20000)
  let cells := s.mem.filter (fun x => inW x.1)
  let s := { s with mem := tblKeep (fun a => !inW a) s.mem, ecc := s.ecc.map flip }
  let s := cells.foldl (fun t x => t.setByte (flip x.1) x.2) s
  s.wr R.CFGSET_BANK (s.rd R.CFGSET_BANK ^^^ BitVec.ofNat 32 (2 ^ n))

/-! ### SWAP and CHECK (R587, R589) -/

/-- The targets of the values, for a test on entries. -/
def firstIdx (l : List CfgVal) (p : CfgVal → Bool) : Option Nat := (l.find? p).map (·.idx)

/-- The copy time of a core's entries in ns (R589). -/
def State.tCopy (l : List CfgVal) (n : Nat) : Nat :=
  let b := 4 * (l.filter (fun e => decide (e.tgt < 0x00800000) && decide (e.tgt / 0x100000 = n))).length
  40 + 8 * ((b + 31) / 32)

/-- The period of the boundary channel in fine units. -/
def State.schPeriod (s : State) : Nat := s.perOf (s.get R.CFGSET_CTRL_SCH)

/-- The boundary of a SWAP that is commanded now, the reload that starts the period of number PCNT, is less than 20 µs away (R587). -/
def State.swapLate (s : State) : Bool :=
  let sch := s.get R.CFGSET_CTRL_SCH
  let left := (s.bch sch).dur - s.posOf sch * 64
  let more := (s.get R.CFGSET_CTRL_PCNT + 65535 - s.get (R.BATTEN_CH_COUNT_PCNT sch)) % 65536
  !s.on R.CFGSET_CTRL_NEXT && decide (left + more * s.schPeriod < s.ticksOfNs 20000 * 64)

/-- The tests of R587 in table order: code and entry. -/
def State.swapTest (s : State) : Nat × Nat :=
  let len := (s.memWord (shadowBase + 4)).toNat
  let r := s.cfgRead shadowBase
  let sch := s.get R.CFGSET_CTRL_SCH
  let img := s.on R.CFGSET_CTRL_IMG
  if decide (s.get R.CFGSET_STAT_STATE ≠ 0) || s.on R.CFGSET_STAT_STU then (0x0B, 0)
  else if s.memWord shadowBase ≠ 0x43534554 then (0x06, 0)
  else if maxLen < len then (0x03, 0)
  else match r.2 with
    | some i => (0x06, i)
    | none => match firstIdx r.1 (fun e => (s.cfgClass e.tgt).isNone) with
      | some i => (0x20, i)
      | none =>
        if r.1.any (fun e => !s.pdOpen (cfgPd e.tgt)) then (0x04, 0)
        else if (List.range 8).any (fun n =>
            r.1.any (fun e => decide (e.tgt < 0x00800000) && decide (e.tgt / 0x100000 = n)) &&
            decide (s.schPeriod * (if s.pd12Byp then 40 else 5) < State.tCopy r.1 n * 256)) then (0x22, 0)
        else if decide (48 ≤ sch) || decide (s.get (R.BATTEN_CH_STAT_STATE sch) ≠ 2) || s.swapLate then (0x23, 0)
        else if img && decide (s.get R.CFGSET_IMGSTAT_ST ≠ 2) then (0x24, 0)
        else if img && (List.range 8).any (fun n => s.cfg.imgMask.testBit n && !(s.get R.CFGSET_BANK_SPLIT).testBit n) then (0x25, 0)
        else (0, 0)

/-- Show a result. -/
def State.cfgResult (s : State) (r : Nat × Nat) : State :=
  let s := s.put R.CFGSET_STAT_CODE r.1
  if r.1 = 0x06 ∨ r.1 = 0x20 then s.put R.CFGSET_STAT_ERRIDX r.2 else s

/-- The contexts that a set changes: those of whose descriptor or coefficient area it names a word, and with an image those
of the cores that switch (R589). -/
def State.changedBy (s : State) (l : List CfgVal) (img : Bool) : List Nat :=
  (List.range 256).filter (fun c =>
    (img && s.cfg.imgMask.testBit (coreOf c)) ||
    l.any (fun e => decide (e.tgt < 0x00800000) && (decide (descCtx e.tgt = some c) ||
      (s.isCfg c && decide (s.coefAddr c ≤ e.tgt ∧ e.tgt < s.coefAddr c + (s.coefArea c).2)))))

/-- CHECK (R587). -/
def State.cfgCheck (s : State) : State := if s.pdRun 3 then s.cfgResult s.swapTest else s

/-- SWAP: armed, or refused with its code (R587, R588). -/
def State.cfgSwap (s : State) : State :=
  if s.pdRun 3 then
    let r := s.swapTest
    let s := s.cfgResult r
    if r.1 = 0 then
      let l := (s.cfgRead shadowBase).1
      let img := s.on R.CFGSET_CTRL_IMG
      let ch := s.changedBy l img
      let cores := (List.range 8).filter (fun n => ch.any (fun c => decide (coreOf c = n)) ||
        l.any (fun e => decide (e.tgt < 0x00800000) && decide (e.tgt / 0x100000 = n)))
      let s := (s.put R.CFGSET_STAT_STATE 1).startTimer .armed
      { s with cfg := { s.cfg with
          changed := ch, reclose := [], toJudge := ch, withImg := img, todo := l.map (fun e => (e.tgt, e.pos)), cores := cores,
          begun := false, periodOver := false } }
    else s
  else s

/-! ### The exchange (R588 to R590) -/

/-- The value registers of one output take their new values as pending ones, with PAIR (R206, R585). -/
def State.swapValues (s : State) (c : Chan) : State :=
  let sel := fun (e : Nat × Nat) => decide (regClass e.1 = some (.value c)) && s.pdOpen 12
  let es := s.cfg.todo.filter sel
  if es.isEmpty then s
  else
    let s := { s with cfg := { s.cfg with todo := s.cfg.todo.filter (fun e => !sel e) } }
    let offs := es.map (fun e => (e.1 - chBase c, s.memWord e.2))
    let p := offs.foldl (fun t x => tblSet (fun _ => none) t x.1 (some x.2)) (s.chPend c)
    let s := es.foldl (fun t e => t.putWords e.2 [t.cfgGet e.1]) s
    let hasP := offs.any (fun x => x.1 = 0x08)
    let hasD := offs.any (fun x => x.1 = 0x0C)
    let s := if hasP then s.putB (chPair c) hasD else if hasD then s.clear (chPair c) else s
    s.setPend c p (s.chTag c)

/-- A changed context is opened for the swap period; one being dispatched opens when its dispatch ends (R588). -/
def State.swapOpen (s : State) (c : Nat) : State :=
  if s.isOpen c && !(s.ctx c).pendClose then s
  else
    let s := { s with cfg := { s.cfg with reclose := s.cfg.reclose ++ [c] } }
    let s := (s.raise (R.RAFTER_CTX_STAT_SWP c)).setCtx c { s.ctx c with swapClose := true }
    if s.isOpen c then (s.setPendCtx c false false).clear (R.RAFTER_CTX_STAT_FIRST c)
    else if s.isRunning c then s.setPendCtx c true false
    else s.openEffect c

/-- A changed context of the core is being dispatched. -/
def State.swapBusy (s : State) (n : Nat) : Bool :=
  match (s.core n).ctx with
  | some c => s.cfg.changed.contains c
  | none => false

/-- A core whose contexts are open exchanges its entries and switches its bank (R588, R592). -/
def State.swapCore (s : State) (n : Nat) : State :=
  if s.swapping && s.cfg.cores.contains n && !s.swapBusy n && s.pdOpen (pdOfRc n) then
    let s := { s with cfg := { s.cfg with cores := s.cfg.cores.filter (· ≠ n) } }
    let s := if s.cfg.withImg && s.cfg.imgMask.testBit n then s.switchBank n else s
    let s := s.swapSome (fun _ k => decide (k = .rcMem n))
    let s := if s.cfg.cores.isEmpty then s.judge s.cfg.toJudge else s
    if s.cfg.periodOver then
      let cs := s.cfg.reclose.filter (fun c => decide (coreOf c = n))
      s.each cs (fun c t => (t.setPendCtx c false true).raise (R.RAFTER_CTX_STAT_FIRST c))
    else s
  else s

/-- The coming reload of SCH is B: the one that starts the period of number PCNT or, with NEXT, the first at least 20 µs after the
command (R587). -/
def State.atBoundary (s : State) : Bool :=
  if s.on R.CFGSET_CTRL_NEXT then s.past .armed 20000
  else decide ((s.get (R.BATTEN_CH_COUNT_PCNT (s.get R.CFGSET_CTRL_SCH)) + 1) % 65536 = s.get R.CFGSET_CTRL_PCNT)

/-- The boundary B (R588): the value entries become visible as one epoch, changed contexts open, and everything whose
instant is B is exchanged. The reload of SCH follows at once. -/
def State.swapBoundary (s : State) : State :=
  if decide (s.get R.CFGSET_STAT_STATE = 1) && s.pdRun 12 && s.atBoundary then
    let s := s.put R.CFGSET_STAT_STATE 2
    let s := allChans.foldl (fun t c => t.swapValues c) s
    let s := s.each s.cfg.changed (fun c t => t.swapOpen c)
    let idle := fun m => !s.on (R.METER_STAT_RUN m)
    let s := s.swapSome (fun _ k => match k with | .atB => true | .meter m => idle m | _ => false)
    s.each s.cfg.cores (fun n t => t.swapCore n)
  else s

/-- The swap period, begun with the reload at B, ends: the changed contexts that were closed close at their next dispatch (R588,
R589). A reset of PD12 ends it too. -/
def State.swapPeriodEnd (s : State) : State :=
  if s.swapping && !s.cfg.periodOver && (s.cfg.begun || !s.pdOpen 12) then
    let late := !s.cfg.cores.isEmpty
    let s := if late then s.raise R.CFGSET_STAT_SWL else s
    let cs := s.cfg.reclose.filter (fun c => !s.cfg.cores.contains (coreOf c))
    let keep := s.cfg.changed.filter (fun c => s.cfg.cores.contains (coreOf c))
    let s := s.each cs (fun c t => (t.setPendCtx c false true).raise (R.RAFTER_CTX_STAT_FIRST c))
    { s with cfg := { s.cfg with periodOver := true, changed := keep } }
  else s

/-- A reload of a channel comes: where it is SCH of a SWAP, B or the end of the swap period comes with it at the latest (R587,
R588). -/
def State.swapAtReload (s : State) (n : Nat) : State :=
  if s.get R.CFGSET_CTRL_SCH ≠ n then s
  else
    let s := if s.cfg.begun then s.swapPeriodEnd else s.swapBoundary
    if s.swapping then { s with cfg := { s.cfg with begun := true } } else s

/-- Recompute the CRC of the shadow area. -/
def State.shadowCrc (s : State) : State :=
  s.putWords (shadowBase + 0xC) [BitVec.ofNat 32 (crc32 (s.bytes (shadowBase + 0x40) (s.memWord (shadowBase + 4)).toNat))]

/-! ### The boot record and MINVER (R570, R578, R594) -/

/-- The boot record is valid (R578). -/
def State.bootRecOk (s : State) : Bool :=
  decide (s.memWord 0x0107EFFC = 0x42545245#32) &&
  decide (s.memWord 0x0107EFF8 = BitVec.ofNat 32 (crc32 (s.bytes 0x0107E000 0xFF8)))

/-- The preferred slot. -/
def State.prefSlot (s : State) : Nat := if s.bootRecOk then fieldOf (s.memWord 0x0107E000) 0 0 else 0

/-- Ask for the burst that makes a slot preferred. -/
def State.makePreferred (s : State) (slot : Nat) : State :=
  let old := if s.bootRecOk then (s.memWords 0x0107E000 1022).tail else List.replicate 1021 0#32
  let first := if s.bootRecOk then putField (s.memWord 0x0107E000) 0 0 slot else BitVec.ofNat 32 slot
  let w := first :: old
  s.askBurst ⟨.cfgset, 0x0107E000, w ++ [BitVec.ofNat 32 (crc32 (wordsBytes w)), 0x42545245#32], 1023⟩

/-- Raise MINVER to a version: ones are blown in all three copies (R570). -/
def State.raiseMinver (s : State) (v : Nat) : State :=
  let ones := 2 ^ (min 256 v) - 1
  let blow := fun (t : Tbl Word) k =>
    tblSet fuseDefault t k (tblGet fuseDefault t k ||| BitVec.ofNat 32 (ones / 2 ^ (32 * ((k - 115) % 8))))
  let f := (List.range 24).foldl (fun t k => blow t (115 + k)) s.sys.fuses
  let g := (List.range 24).foldl (fun t k => blow t (115 + k)) s.sys.shadow
  { s with sys := { s.sys with fuses := f, shadow := g } }

/-- Every value has been exchanged (R588, R591, R594). -/
def State.swapDone (s : State) : State :=
  if s.swapping && s.cfg.todo.isEmpty && s.cfg.cores.isEmpty && s.cfg.periodOver then
    let s := s.shadowCrc
    let s := (((s.raise R.CFGSET_STAT_DONE).raise R.CFGSET_STAT_STU).put R.CFGSET_STAT_STATE 0)
    let s := s.postFlag 13 R.CFGSET_STAT_DONE 3 0
    let s := { s with cfg := { s.cfg with changed := [] } }
    if s.cfg.withImg then
      let s := s.makePreferred s.cfg.imgSlot
      let s := if s.cfg.imgRaise then s.raiseMinver s.cfg.imgVersion else s
      (s.put R.CFGSET_IMGSTAT_ST 0)
    else s
  else s

/-! ### Stored sets (R586, R591) -/

/-- The base of a stored slot. -/
def setBase (slot : Nat) : Nat := if slot = 0 then 0x01040000 else 0x0105F000

/-- A stored set is valid. -/
def State.setValid (s : State) (slot : Nat) : Bool := decide ((s.cfgRead (setBase slot)).2 = none)

/-- The newer valid stored set. -/
def State.newerSet (s : State) : Option Nat :=
  match s.setValid 0, s.setValid 1 with
  | true, true => if (s.memWord (setBase 1 + 8)).toNat ≤ (s.memWord (setBase 0 + 8)).toNat then some 0 else some 1
  | true, false => some 0
  | false, true => some 1
  | false, false => none

/-- LOAD: the newer stored set is copied to the shadow area (R586). -/
def State.cfgLoad (s : State) : State :=
  if s.pdRun 3 then
    if decide (s.get R.CFGSET_STAT_STATE ≠ 0) || s.on R.CFGSET_STAT_STU then s.cfgResult (0x0B, 0)
    else match s.newerSet with
      | some k =>
        let n := 16 + ((s.memWord (setBase k + 4)).toNat + 3) / 4
        (s.putWords shadowBase (s.memWords (setBase k) n)).cfgResult (0, 0)
      | none => s.cfgResult (0x06, 0)
  else s

/-- The stored-set write: the values now in force, with SEQ one higher, into the older slot, 64 ms after a deferral at
the earliest (R591). -/
def State.storeSetWrite (s : State) : State :=
  let asked := fun (b : Burst) => decide (b.dst = setBase 0 ∨ b.dst = setBase 1)
  if s.on R.CFGSET_STAT_STU && !(s.eaves.reqs ++ s.eaves.burst.toList).any asked &&
      ((s.timerAt .setRetry).isNone || s.past .setRetry 64000000) then
    let s := s.stopTimer .setRetry
    let slot := match s.newerSet with | some k => 1 - k | none => 0
    let seq := match s.newerSet with | some k => s.memWord (setBase k + 8) + 1 | none => 1
    let len := (s.memWord (shadowBase + 4)).toNat
    let vals := (s.cfgRead shadowBase).1
    let raw := s.memWords (shadowBase + 0x40) (len / 4)
    let ents := vals.foldl (fun l e => l.set ((e.pos - (shadowBase + 0x40)) / 4) (s.cfgGet e.tgt)) raw
    let w : List Word := [0x43534554#32, BitVec.ofNat 32 len, seq, BitVec.ofNat 32 (crc32 (wordsBytes ents))] ++
      List.replicate 12 0#32 ++ ents
    s.askBurst ⟨.cfgset, setBase slot, w, 0⟩
  else s

/-- A burst of the controller has ended: a stored set counts once it is written; a deferred one is tried again (R591). -/
def State.cfgBurst (s : State) (b : Burst) (code : Nat) : State :=
  if code = 0 ∧ (b.dst = setBase 0 ∨ b.dst = setBase 1) then
    ((s.clear R.CFGSET_STAT_STU).put R.CFGSET_STAT_SLOT (if b.dst = setBase 0 then 0 else 1)).wr R.CFGSET_MSEQ (b.words.getD 2 0)
  else if b.dst = setBase 0 ∨ b.dst = setBase 1 then s.startTimer .setRetry
  else s

/-- At its release an island takes the values of the newer valid stored set that target it (R586). -/
def State.applyStored (s : State) (pd : Nat) : State :=
  match s.newerSet with
  | none => s
  | some k =>
    let es := (s.cfgRead (setBase k)).1.filter (fun e =>
      decide (cfgPd e.tgt = pd) && (decide (e.tgt < 0x00800000) || (regClass e.tgt).isSome))
    let s := es.foldl (fun t e => t.cfgPut e.tgt (t.memWord e.pos)) s
    let cs := (es.filterMap (fun e => descCtx e.tgt)).dedup
    if cs.isEmpty then s else s.judge cs

end Sys2Proof.Machine
end

