-- ==== Sys2Proof/Machine/Boot.lean ====
section
/-!
DEFINITION. Release and boot (R572, R573, R576 to R583, R593): the release of an island, images and their check, the ROM
loader, the Underlay loader, and the image engine.
-/

namespace Sys2Proof.Machine

/-! ### Images (R576, R577) -/

/-- The base of an image slot in the flash. -/
def slotBase (slot : Nat) : Nat := if slot = 0 then 0 else 0x00800000

/-- A word of a slot. -/
def State.slotWord (s : State) (slot off : Nat) : Nat := natLE (s.flashBytes (slotBase slot + off) 4)

/-- One section: destination, length, offset, core bank mask. -/
structure ImgSec where
  dst : Nat
  len : Nat
  off : Nat
  mask : Nat
  deriving DecidableEq, Repr

/-- The sections of an image. -/
def State.imgSecs (s : State) (slot : Nat) : List ImgSec :=
  (List.range (s.slotWord slot 0x10)).map (fun k =>
    let o := 0x80 + 16 * k
    ⟨s.slotWord slot o, s.slotWord slot (o + 4), s.slotWord slot (o + 8), s.slotWord slot (o + 12) % 512⟩)

/-- MAGIC, the reserved fields and the limits check. -/
def State.hdrOk (s : State) (slot : Nat) : Bool :=
  let zero := fun lo hi => (s.flashBytes (slotBase slot + lo) (hi - lo)).all (· = 0)
  decide (s.slotWord slot 0 = 0x31474D49) && decide (0x200 ≤ s.slotWord slot 8 ∧ s.slotWord slot 8 ≤ 0x00800000) &&
  decide (s.slotWord slot 0xC < 4) && decide (1 ≤ s.slotWord slot 0x10 ∧ s.slotWord slot 0x10 ≤ 16) &&
  decide (s.slotWord slot 0x14 < 2) && zero 0x18 0x40 && zero 0x180 0x1C0 &&
  (s.imgSecs slot).all (fun x => decide (x.len % 8 = 0)) &&
  (List.range (s.slotWord slot 0x10)).all (fun k => decide (s.slotWord slot (0x80 + 16 * k + 12) < 512))

/-- The bit-by-bit majority of three numbers. -/
def majority (a b c : Nat) : Nat := (a &&& b) ||| (a &&& c) ||| (b &&& c)

/-- Key k is revoked (R570). -/
def State.keyRevoked (s : State) (k : Nat) : Bool :=
  let w := s.shadowWord 114
  (majority (fieldOf w 3 0) (fieldOf w 11 8) (fieldOf w 19 16)).testBit k

/-- The least accepted VERSION (R570). -/
def State.minVer (s : State) : Nat :=
  ((List.range 8).map (fun j => popCount 32 (majority (s.shadowWord (115 + j)).toNat (s.shadowWord (123 + j)).toNat
    (s.shadowWord (131 + j)).toNat))).sum

/-- A range of bytes of a slot. -/
def State.slotBytes (s : State) (slot off n : Nat) : List Byte := s.flashBytes (slotBase slot + off) n

/-- The signature over the image verifies (R577). -/
def State.sigOk (s : State) (slot : Nat) : Bool :=
  let n := fun off => natBE (s.slotBytes slot off 32)
  ecdsaOk (n 0x40) (n 0x60) (sha256 (s.slotBytes slot 0 0x1C0 ++ s.slotBytes slot 0x200 (s.slotWord slot 8 - 0x200)))
    (n 0x1C0) (n 0x1E0)

/-- What a section may be. -/
inductive SecKind where
  | instr (n : Nat)
  | data
  | sram
  | bad
  deriving DecidableEq, Repr

/-- The kind of a section's destination; it must lie in one memory whole. -/
def secKind (x : ImgSec) : SecKind :=
  let last := x.dst + x.len - 1
  if x.len = 0 then .bad
  else match memAt x.dst with
    | some (.rcInstr n) => if memAt last = some (.rcInstr n) then .instr n else .bad
    | some (.rcData n) => if memAt last = some (.rcData n) then .data else .bad
    | some .shared => if memAt last = some .shared then .sram else .bad
    | some .superv => if memAt last = some .superv then .sram else .bad
    | _ => .bad

/-- A section lies inside the slot. -/
def secInside (x : ImgSec) : Bool := decide (x.off + x.len ≤ 0x00800000)

/-- The image is banked for core n (R592). -/
def State.bankedFor (s : State) (slot n : Nat) : Bool :=
  let own := (s.imgSecs slot).filter (fun x => decide (secKind x = .instr n))
  !own.isEmpty && own.all (fun x => x.mask.testBit n && decide (x.dst - (rcData n + 0x80000) + x.len ≤ 0x10000))

/-- The check of a slot (R577) with the codes of IMGSTAT; `live` selects the destinations of a hitless load (R593). -/
def State.imgCheck (s : State) (slot : Nat) (live : Bool) : Nat :=
  if !s.hdrOk slot then 0x30
  else
    let k := s.slotWord slot 0xC
    let kh := s.fuseKey (82 + 8 * k)
    if keyZero kh || decide (sha256 (s.slotBytes slot 0x40 64) ≠ kh) then 0x31
    else if s.keyRevoked k then 0x32
    else if s.slotWord slot 4 < s.minVer then 0x33
    else if !s.sigOk slot then 0x31
    else if (s.imgSecs slot).all (fun x => secInside x && (match secKind x with
        | .instr n => !live || s.bankedFor slot n
        | .data => !live
        | .sram => true
        | .bad => false)) then 0
    else 0x34

/-- Write the sections of an image, but for those whose island refuses them (R40); a hitless load puts Rafter code into the
standby banks (R593). -/
def State.loadSecs (s : State) (slot : Nat) (live : Bool) : State :=
  (s.imgSecs slot).foldl (fun t x =>
    let d := match secKind x with | .instr _ => if live then x.dst + 0x10000 else x.dst | _ => x.dst
    match memAt d with
    | some k => if t.pdOpen (pdOfMem k) then t.putBytes d (t.slotBytes slot x.off x.len) else t
    | none => t) s

/-- The cores for which a slot is banked, one bit each. -/
def State.bankMask (s : State) (slot : Nat) : Nat := mask8 (fun n => s.bankedFor slot n)

/-! ### The ROM loader (R578, R579) -/

/-- The start is complete: DONE (R579, R580). -/
def State.bootDone (s : State) : State :=
  if s.pdRun 3 then
    let s := s.raise R.SYSCTL_BOOT_BC
    let s := s.inPd0 (fun t => t.put R.SYSCTL_BOOT_FSC 0)
    { s with sys := { s.sys with wdt3 := false } }
  else s

/-- The entry words of the image: the first two words of its first section in the supervisor SRAM. -/
def State.entryWords (s : State) (slot : Nat) : Word × Word :=
  match (s.imgSecs slot).find? (fun x => decide (memAt x.dst = some .superv)) with
  | some x => (s.memWord x.dst, s.memWord (x.dst + 4))
  | none => (0, 0)

/-- The contexts in whose descriptor a section of a slot writes. -/
def State.secDescs (s : State) (slot : Nat) : List Nat :=
  (List.range 256).filter (fun c => (s.imgSecs slot).any (fun x =>
    decide (secKind x = .data) && decide (x.dst < descBase c + 0x200) && decide (descBase c < x.dst + x.len)))

/-- The descriptors of contexts with their reserved bits and offsets 0 (R19, R148). -/
def State.cleanDescs (s : State) (cs : List Nat) : State :=
  s.each cs (fun c t => (List.range 128).foldl (fun t k =>
    let a := descBase c + 4 * k
    let v := t.memWord a &&& descMask (4 * k)
    if v = t.memWord a then t else t.setMemWord a v) t)

/-- Start the firmware of a slot; descriptors that it brings are judged as one change (R147). -/
def State.startImage (s : State) (slot : Nat) : State :=
  let s := s.loadSecs slot false
  let cs := s.secDescs slot
  let s := if cs.isEmpty then s else (s.cleanDescs cs).judge cs
  let s := ((s.clear R.SYSCTL_BOOT_DEF).put R.SYSCTL_BOOT_SLOT slot).put R.SYSCTL_BOOT_VERL (s.slotWord slot 4)
  let s := s.put R.CFGSET_BANK_SPLIT (s.bankMask slot)
  let e := s.entryWords slot
  (s.setCore 8 { s.core 8 with pc := e.1 &&& ~~~7#32 }).setCore 9 { s.core 9 with pc := e.2 &&& ~~~7#32 }

/-- An image that the slot rules reject for its signature, or its key, voids the promise, and the log says so (R52, R577). -/
def State.unsigned (s : State) (slot code : Nat) : State :=
  if code = 0x31 then ({ s with sys := { s.sys with void := true } } : State).postPlain 13 3 slot (s.rd R.SYSCTL_BOOT) else s

/-- The check of a slot by the device, with what an unsigned image leaves (R52, R577). -/
def State.checkSlot (s : State) (slot : Nat) (live : Bool) : State × Nat :=
  let code := s.imgCheck slot live
  (s.unsigned slot code, code)

/-- The loader runs: the slots are tried in the order of R578; none accepted starts the ROM default program, which writes
DONE itself. -/
def State.romLoader (s : State) : State :=
  if s.pdRun 3 && s.sys.inLoader then
    let s := { s with sys := { s.sys with inLoader := false } }
    let p := s.prefSlot
    let first := if s.get R.SYSCTL_BOOT_FSC < 2 then p else 1 - p
    let a := s.checkSlot first false
    if a.2 = 0 then a.1.startImage first
    else
      let b := a.1.checkSlot (1 - first) false
      if b.2 = 0 then b.1.startImage (1 - first)
      else ((b.1.raise R.SYSCTL_BOOT_DEF).put R.SYSCTL_BOOT_SLOT 3).bootDone
  else s

/-! ### Release (R572, R573, R581) -/

/-- The clock that an island will run on is stable: its synthesizer, or BYPCLK while that is bypassed (R463, R572). -/
def State.clockStable (s : State) (pd : Nat) : Bool :=
  decide (pd < 3) || s.on (R.CLK_SYN_STAT_STABLE (synOf pd)) || s.on (R.CLK_SYN_STAT_BYP (synOf pd))

/-- The islands that come before one in the order of R572. -/
def islandsBefore (pd : Nat) : List Nat := releaseOrder.takeWhile (fun k => decide (k ≠ pd))

/-- From when an island is due: the gap has passed, and it has been HELD for its least time (R561, R572). -/
def State.dueAt (s : State) (pd : Nat) : Nat := max s.sys.due (s.heldTill pd)

/-- An island is due: held, no fuse load outstanding, none before it still to be released, PD0 on or held by CKF before PD1, PD3
not held by CKF, and its instant reached (R572, R573). -/
def State.releaseDue (s : State) (pd : Nat) : Bool :=
  decide (1 ≤ pd) && decide (s.pdState pd = 1) && !s.sys.fuseDue && !s.on (R.SYSCTL_PD_CKH pd) && decide (s.dueAt pd ≤ s.upNs) &&
  (decide (pd ≠ 1) || s.eaves.on || s.on (R.SYSCTL_PD_CKH 0)) &&
  (islandsBefore pd).all (fun k => decide (s.pdState k ≠ 1) || s.on (R.SYSCTL_PD_CKH k) || s.sys.restoreDue.contains k) &&
  (decide (pd ≤ 3) || s.pdRun 3) && !(decide (3 < pd) && s.on R.SYSCTL_BOOT_UND)

/-- The release of PD3: the time base starts from Eaves, on BYPCLK while SYN3 is bypassed, LOSSV clears, and the loader or
Underlay starts (R463, R473, R474, R535, R578, R581). -/
def State.releasePd3 (s : State) : State :=
  let s := s.inPd0 (fun t => t.clear R.EAVES_STAT_LOSSV)
  let s := s.putB R.TIME_STAT_BYPT (s.bypassed 3)
  let s := { s with time := { s.time with sec := s.eaves.sec, ns := 0, frac := 0 },
                    sys := { s.sys with inLoader := true, wdt3 := true, verified := false, reply := [] } }
  let s := s.startTimer .boot
  if s.on R.SYSCTL_BOOT_UND || decide (s.get R.SYSCTL_BOOT_FSC = 4) then
    let s := { s with sys := { s.sys with inLoader := false, wdt3 := false, void := true } }
    let s := s.raise R.SYSCTL_BOOT_UND
    s.postUnc (0x0D20 + R.SYSCTL_BOOT_UND.lo) 3 (stdPayload 3 (s.rd R.SYSCTL_BOOT))
  else s

/-- INH that a released PD12 finds: from a failed trim load, from bypassed synthesizers and from islands that have failed
(R224, R569, R651). -/
def State.releasePd12 (s : State) : State :=
  let s := if s.on R.SYSCTL_FUSESTAT_TRIMFAIL then s.trimInhibit else s
  let s := s.each ((List.range 4).filter s.bypassed) (fun n t => t.bypassInhibit n)
  s.each s.sys.failed (fun k t => t.pulseInhibit k)

/-- An island is released (R572): its stored values are applied before its gates open (R586), and its reason for INH ends,
but for PD13 whose comparators settle first (R651); the time bases of PD12 start (R220), and the phasor unit of a Rafter island
restarts (R317). The next island is due the gap later. -/
def State.islandRelease (s : State) (pd : Nat) : State :=
  if s.releaseDue pd && s.clockStable pd && !s.sys.restoreDue.contains pd then
    let s := if 3 ≤ pd then s.applyStored pd else s
    let s := (((s.setPd pd 2).swapIsland pd).supplyOk (supplyBits pd) true).gapStarts
    let s := { s with sys := { s.sys with failed := s.sys.failed.filter (· ≠ pd) } }
    if pd = 2 then s.safetyInit
    else if pd = 3 then s.releasePd3
    else if pd = 12 then ((s.uninhibitAll 12).releasePd12).startPeriods
    else if pd = 13 then s
    else if 4 ≤ pd ∧ pd ≤ 11 then ((s.uninhibitAll pd).puRestart (pd - 4)).swapCore (pd - 4)
    else s.uninhibitAll pd
  else s

/-- An island is held because its clock is not stable 5 ms after it is due, PD0 because its store has not filled within 50 ms
(R573). The next island is due the gap later. -/
def State.ckf (s : State) (pd : Nat) : State :=
  if pd = 0 then
    if s.eaves.on || decide (s.pdState 1 ≠ 1) || s.sys.fuseDue || s.on (R.SYSCTL_PD_CKH 0) ||
        decide (s.upNs < s.sys.due + 50000000) then s
    else ((s.raise (R.SYSCTL_PD_CKH 0)).bumpSat (R.SYSCTL_PD_FCNT 0)).gapStarts
  else if s.releaseDue pd && !s.clockStable pd && decide (s.dueAt pd + 5000000 ≤ s.upNs) then
    let s := (s.raise (R.SYSCTL_PD_CKH pd)).causeAt R.SYSCTL_RSTCAUSE_CKF pd
    let s := s.bumpSat (R.SYSCTL_PD_FCNT pd)
    let s := s.pulseInhibit pd
    let s := ({ s with sys := { s.sys with failed := s.sys.failed ++ [pd] } } : State).gapStarts
    s.postFlag 1 R.SYSCTL_RSTCAUSE_CKF pd pd
  else s

/-- An isolated island whose supply or clock is back is reset; its release follows (R44, R651). -/
def State.islandRecovery (s : State) (pd : Nat) : State :=
  if decide (s.pdState pd = 3) && s.sys.failed.contains pd && s.clockStable pd then s.recoverReset pd else s

/-! ### The Underlay loader (R582, R583) -/

/-- A reply goes where its command came from: to the SPI target, or to Q31. -/
def State.ulReply (s : State) (spi : Bool) (op tag status : Nat) (ws : List Word) : State :=
  let m := bytesLE 4 (op + tag * 256 + status * 65536) ++ wordsBytes ws
  if spi then { s with sys := { s.sys with reply := m } } else (s.qPush .sc0 31 m).1

/-- A command header with its data is whole: 16 bytes, and as many bytes of data as word 3 says, at most 240. -/
def ulWhole (m : List Byte) : Bool := decide (16 ≤ m.length) && decide (msgWord m 3 + 16 = m.length) && decide (m.length ≤ 256)

/-- The Underlay loader takes the message from the SPI target or else the oldest one of Q30 where its opcode is `op`; INFO also
takes one whose opcode is none of the table's. One that is no command is answered BADARG; `data` says whether the command has data.
The meaning answers the status, the data and what is left (R582; DESIGN CHOICE, log entry 140). -/
def State.ulCmd (s : State) (spi : Option (List Byte)) (op : Nat) (data : Bool)
    (f : List Byte → State → State × Nat × List Word) : State :=
  if s.underlay then
    match spi.or (s.msgs 30).head? with
    | some m =>
      let o := msgWord m 0 % 256
      let tag := msgWord m 0 / 256 % 256
      let known := decide (1 ≤ o ∧ o ≤ 5)
      if o = op ∨ (op = 1 ∧ !known) then
        let r := if spi.isSome then (s, true) else let q := s.qPop .sc0 30 256; (q.1, decide (q.2.code = 0))
        if !r.2 then r.1
        else if !known || !ulWhole m || (!data && decide (msgWord m 3 ≠ 0)) then r.1.ulReply spi.isSome o tag 2 []
        else
          let x := f m r.1
          x.1.ulReply spi.isSome op tag x.2.1 x.2.2
      else s
    | none => s
  else s

/-- VERSION of a slot that checks, or all ones. -/
def State.slotVersion (s : State) (slot : Nat) : Word :=
  if s.imgCheck slot false = 0 then BitVec.ofNat 32 (s.slotWord slot 4) else 0xFFFFFFFF

/-- INFO. -/
def State.ulInfo (s : State) (spi : Option (List Byte)) : State :=
  s.ulCmd spi 1 false (fun _ s => (s, 0,
    [s.rd R.SYSCTL_ID, s.rd R.SYSCTL_RSTCAUSE, BitVec.ofNat 32 (s.get R.SYSCTL_BOOT_FSC), s.slotVersion 0, s.slotVersion 1]))

/-- ERASE: the slot reads as erased flash. -/
def State.ulErase (s : State) (spi : Option (List Byte)) (flashErr : Bool) : State :=
  s.ulCmd spi 2 false (fun m s =>
    if 2 ≤ msgWord m 1 then (s, 2, [])
    else if flashErr then (s, 3, [])
    else
      let b := slotBase (msgWord m 1)
      ({ s with flash := tblKeep (fun a => !decide (b ≤ a ∧ a < b + 0x00800000)) s.flash }, 0, []))

/-- WRITE. -/
def State.ulWrite (s : State) (spi : Option (List Byte)) (flashErr : Bool) : State :=
  s.ulCmd spi 3 true (fun m s =>
    if 2 ≤ msgWord m 1 ∨ 0x00800000 < msgWord m 2 + msgWord m 3 then (s, 2, [])
    else if flashErr then (s, 3, [])
    else (s.setFlash (slotBase (msgWord m 1) + msgWord m 2) (m.drop 16), 0, []))

/-- VERIFY: an accepted slot becomes the preferred one. -/
def State.ulVerify (s : State) (spi : Option (List Byte)) : State :=
  s.ulCmd spi 4 false (fun m s =>
    let slot := msgWord m 1
    if 2 ≤ slot then (s, 2, [])
    else
    let r := s.checkSlot slot false
    let s := r.1
    if r.2 = 0 then
      let s := s.makePreferred slot
      let s := if s.slotWord slot 0x14 % 2 = 1 then s.raiseMinver (s.slotWord slot 4) else s
      ({ s with sys := { s.sys with verified := true } }, 0, [])
    else (s, 4, []))

/-- LOGREAD: the record of a SEQ, when RDEN allows and the slot holds it. -/
def State.ulLogread (s : State) (spi : Option (List Byte)) : State :=
  s.ulCmd spi 5 false (fun m s =>
    let a := slotAddr (msgWord m 2)
    if s.on R.THATCH_STAT_RDEN && s.eaves.on && s.recValid a && decide ((s.memWord a).toNat = msgWord m 2) then (s, 0, s.memWords a 8)
    else (s, 1, []))

/-! ### The image engine (R593) -/

/-- VERIFY is written: the load starts; a loaded image is replaced. -/
def State.imgVerify (s : State) (slot : Nat) : State :=
  if s.pdRun 3 then
    let s := s.put R.CFGSET_IMG_SLOT slot
    ((s.put R.CFGSET_IMGSTAT_ST 1).put R.CFGSET_IMGSTAT_CODE 0).put R.CFGSET_IMGSTAT_VERL 0
  else s

/-- The load completes as READY or FAILED; `flashErr`: the flash could not be read. -/
def State.imageReady (s : State) (flashErr : Bool) : State :=
  if s.pdRun 3 && decide (s.get R.CFGSET_IMGSTAT_ST = 1) then
    let slot := s.get R.CFGSET_IMG_SLOT
    let r := if flashErr then (s, 0x35) else s.checkSlot slot true
    let code := r.2
    let s := r.1
    let s := s.put R.CFGSET_IMGSTAT_CODE code
    if code = 0 then
      let s := s.loadSecs slot true
      let s := { s with cfg := { s.cfg with
        imgSlot := slot, imgMask := s.bankMask slot, imgVersion := s.slotWord slot 4,
        imgRaise := decide (s.slotWord slot 0x14 % 2 = 1) } }
      (s.put R.CFGSET_IMGSTAT_ST 2).put R.CFGSET_IMGSTAT_VERL (s.slotWord slot 4)
    else s.put R.CFGSET_IMGSTAT_ST 3
  else s

end Sys2Proof.Machine
end

