-- ==== Sys2Proof/Machine/Bus.lean ====
section
/-!
DEFINITION. Writes of registers: access codes and their owners (R16 to R20), and what a write of each register does
beside storing its fields. The rows of the command table that are such writes call the same operations.
-/

namespace Sys2Proof.Machine

/-! ### Owners of RWL fields and their flags (R17) -/

/-- The output is in state OFF; where there is no such output nothing is locked. -/
def State.chOff (s : State) (c : Option Chan) : Bool :=
  match c with
  | some c => s.get (chState c) = 0
  | none => true

/-- Every leg of a mask has its channel OFF. -/
def State.legsOff (s : State) (m : Nat) : Bool := (onesOf 48 m).all (fun n => s.chOff (dirOf n))

/-- The six schedulers of a group are OFF (R234). -/
def State.groupOff (s : State) (g : Nat) : Bool := (List.range 6).all (fun k => s.chOff (remOf (6 * g + k)))

/-- The owner of the RWL fields of a register is open or disabled, for a write of `v`. -/
def State.ownerOff (s : State) (k : Kind) (i : Nat) (v : Word) : Bool :=
  match k with
  | .SYSCTL_WDTCFG => !s.on (R.SYSCTL_WDTCFG_EN i)
  | .BATTEN_CH_CTRL | .BATTEN_CH_SYNC | .GATE_LEG_CFG | .GATE_LEG_STR => s.chOff (dirOf i)
  | .BATTEN_RL_CTRL | .GATE_RL_STR => s.chOff (remOf i)
  | .BATTEN_LEAD | .GATE_ILKGAP => s.groupOff i
  | .GATE_SL_CFG | .GATE_SL_SOFT => s.legsOff (255 * 2 ^ (8 * i))
  | .GATE_GRP_LO => s.legsOff (s.grpMask i ||| v.toNat)
  | .GATE_GRP_HI => s.legsOff (s.grpMask i ||| 2 ^ 32 * fieldOf v 15 0)
  | .CMP_CFG => s.chOff (dirOf (i / 2))
  | .CMP_WIN_CFG | .CMP_WIN_QUAL => !s.on (R.CMP_WIN_CFG_EN i)
  | .MOD_MCK_CFG => !s.on (R.MOD_MCK_CFG_EN i)
  | .MOD_MD_CFG | .MOD_MD_DET => !s.on (R.MOD_MD_CFG_EN i)
  | .HADC_CTRL | .HADC_SCAN => !s.on R.HADC_STAT_BUSY
  | .BOOST_BC_CFG | .BOOST_BC_LIM | .BOOST_BC_SHED | .BOOST_BC_SYNC | .BOOST_BC_XCHK | .BOOST_BC_XTOL
  | .BOOST_BC_XMIN => s.bcState i = 0
  | .BOOST_BC_MCFG | .BOOST_BC_MADDR | .BOOST_BC_MVLIM | .BOOST_BC_MSTEP | .BOOST_BC_MSCAN => !s.on (R.BOOST_BC_MCFG_MEN i)
  | .METER_CTRL | .METER_CHMAP | .METER_QL | .METER_QM | .METER_QH | .METER_PRATEDQ | .METER_IPER =>
    !s.on (R.METER_CTRL_EN i)
  | .METER_CORR_A | .METER_CORR_B => !s.on (R.METER_CTRL_EN (i / 72))
  | .PURLIN_LANE_CFG | .PURLIN_LANE_TILE | .PURLIN_LANE_TPROC | .PURLIN_LANE_ASYM | .PURLIN_LANE_MSG =>
    !s.on (R.PURLIN_LANE_CFG_EN i)
  | .ENET_CFG | .ENET_MACL | .ENET_MACH | .ENET_RXBASE | .ENET_TXBASE | .ENET_RING => !s.on (R.ENET_CFG_EN i)
  | .QUEUE_CFG | .QUEUE_BASE | .QUEUE_RIGHTS => !s.qOn i
  | .CFGSET_CTRL => s.get R.CFGSET_STAT_STATE = 0
  | _ => true

/-- The flag that a discarded write sets; none where the maps name none. -/
def wleOf (k : Kind) (i : Nat) : Option Ref :=
  match k with
  | .BATTEN_CH_CTRL | .BATTEN_CH_SYNC => some (R.BATTEN_CH_STAT_WLE i)
  | .BATTEN_RL_CTRL | .GATE_RL_STR => some (R.BATTEN_RL_STAT_WLE i)
  | .BATTEN_LEAD => some (R.BATTEN_LEAD_WLE i)
  | .GATE_LEG_CFG | .GATE_LEG_STR => some (R.GATE_LEG_STAT_WLE i)
  | .GATE_ILKGAP => some (R.GATE_ILKGAP_WLE i)
  | .GATE_SL_CFG | .GATE_SL_SOFT => some (R.GATE_SL_STAT_WLE i)
  | .GATE_GRP_LO | .GATE_GRP_HI => some (R.GATE_GRP_STAT_WLE i)
  | .CMP_CFG | .CMP_DAC | .CMP_RAMP => some (R.CMP_STAT_WLE i)
  | .CMP_WIN_CFG | .CMP_WIN_QUAL => some (R.CMP_WIN_STAT_WLE i)
  | .MOD_MCK_CFG => some (R.MOD_MCK_CFG_WLE i)
  | .MOD_MD_CFG | .MOD_MD_DET => some (R.MOD_MD_STAT_WLE i)
  | .HADC_CTRL | .HADC_SCAN => some R.HADC_STAT_WLE
  | .BOOST_BC_CFG | .BOOST_BC_LIM | .BOOST_BC_SHED | .BOOST_BC_SYNC | .BOOST_BC_XCHK | .BOOST_BC_XTOL | .BOOST_BC_XMIN
  | .BOOST_BC_MCFG | .BOOST_BC_MADDR | .BOOST_BC_MVLIM | .BOOST_BC_MSTEP | .BOOST_BC_MSCAN => some (R.BOOST_BC_STAT_WLE i)
  | .METER_CTRL | .METER_CHMAP | .METER_QL | .METER_QM | .METER_QH | .METER_PRATEDQ | .METER_IPER => some (R.METER_STAT_WLE i)
  | .METER_CORR_A | .METER_CORR_B => some (R.METER_STAT_WLE (i / 72))
  | .PURLIN_LANE_CFG | .PURLIN_LANE_TILE | .PURLIN_LANE_TPROC | .PURLIN_LANE_ASYM | .PURLIN_LANE_MSG =>
    some (R.PURLIN_LANE_STAT_WLE i)
  | .ENET_CFG | .ENET_MACL | .ENET_MACH | .ENET_RXBASE | .ENET_TXBASE | .ENET_RING => some (R.ENET_STAT_WLE i)
  | .QUEUE_CFG | .QUEUE_BASE | .QUEUE_RIGHTS => some (R.QUEUE_STAT_WLE i)
  | .CFGSET_CTRL => some R.CFGSET_STAT_WLE
  | _ => none

/-- Fields with code RW, RWS or W1C that an operation changes, not the plain store. -/
def opBits (k : Kind) : Word :=
  match k with
  | .SYSCTL_WDTCFG => 0x80000000
  | .SYSCTL_WDT2CFG => 0xFF000000
  | .SYSCTL_PD => 0x04000000
  | .BATTEN_CH_CTRL | .BATTEN_RL_CTRL => 1
  | .MOD_MCK_CFG | .MOD_MD_CFG | .BOOST_BC_CFG | .BOOST_BC_MCFG | .METER_CTRL | .PURLIN_LANE_CFG | .ENET_CFG
  | .QUEUE_CFG => 0x80000000
  | .CMP_DAC | .CMP_WIN_LDAC | .CMP_WIN_UDAC => 0x3FF
  | .BOOST_BC_PHSTAT => 0xFFFFFFFF
  | .SAFE_RCREQ => 0xF
  | .RAFTER_CORE_MODE => 1
  | _ => 0

/-- Fields of a register that the engine of an enabled converter owns (R347). -/
def State.engineBits (s : State) (k : Kind) (i : Nat) : Word :=
  match k with
  | .CMP_CFG => if s.cmpOwned i then 0x04FC0000 else 0
  | .CMP_DAC => if s.cmpOwned i then 0x000003FF else 0
  | .CMP_RAMP => if s.cmpOwned i then 0x0FFF03FF else 0
  | _ => 0

/-- The RWL bits of a kind of register that are reserved in some of its instances: the filters and the frozen-value test of MD24 to
MD31 (R302). -/
def reservedRwl (k : Kind) (i : Nat) : Word :=
  match k with
  | .MOD_MD_CFG => if 24 ≤ i then 0x003FFFFC else 0
  | .MOD_MD_DET => if 24 ≤ i then 0x000FFFFF else 0
  | _ => 0

/-- The RW bits of a kind of register that are reserved in some of its instances: REFSEL of all synthesizers but SYN2 (R486). -/
def reservedRw (k : Kind) (i : Nat) : Word := if k = .CLK_SYN_CFG ∧ i ≠ 2 then 0x20000000 else 0

/-- A write under the access codes (R16, R17, R19, R347): RW and RWS fields take the value, RWL fields take it while their
owner is open or disabled, ones clear W1C fields; a converter's engine keeps the fields it owns. -/
def State.storeReg (s : State) (r : RegRow) (i a : Nat) (v : Word) : State :=
  let old := s.rd a
  let off := s.ownerOff r.kind i v
  let own := s.engineBits r.kind i
  let rwl := r.rwl &&& ~~~ reservedRwl r.kind i
  let take := (((r.rw ||| r.rws) &&& ~~~ opBits r.kind &&& ~~~ reservedRw r.kind i) ||| (if off then rwl else 0)) &&& ~~~ own
  let s := s.wr a (((old &&& ~~~ take) ||| (v &&& take)) &&& ~~~ (v &&& r.w1c &&& ~~~ opBits r.kind))
  if decide ((old ^^^ v) &&& (own ||| if off then 0 else rwl) ≠ 0) then
    match wleOf r.kind i with
    | some f => s.raise f
    | none => s
  else s

/-! ### What writes do, block by block; several command bits of one write act in ascending order -/

/-- RSTCTL (R564, R595). -/
def State.rstctl (s : State) (v : Word) : State :=
  if fieldOf v 31 16 = 0x5352 then
    if fieldOf v 1 0 = 0 then s.softReset false else if fieldOf v 1 0 = 1 then s.softReset true else s
  else if fieldOf v 31 16 = 0 then s
  else s.raise R.SYSCTL_RSTCTL_RKE

/-- PDn (R562, R563). -/
def State.pdWritten (s : State) (i : Nat) (v : Word) : State :=
  let s := if bitAt v 26 = s.on (R.SYSCTL_PD_PWR i) then s else if bitAt v 26 then s.pwrOn i else s.pwrOff i
  if bitAt v 25 then s.restart i (s.clockStable i) else s

/-- SYSCTL (R595); a maintenance exchange is made only from the host bus (R565). -/
def State.afterSysctl (s : State) (m : Master) (k : Kind) (i : Nat) (old v : Word) : State :=
  match k with
  | .SYSCTL_RSTCTL => s.rstctl v
  | .SYSCTL_BOOT => if bitAt v 31 then s.bootDone else s
  | .SYSCTL_WDTCFG => if bitAt v 31 then s.wdtEnable i else s
  | .SYSCTL_WDTKICK => s.wdtKick i v
  | .SYSCTL_WDT2CFG => s.wdt2Written (fieldOf old 31 24) (fieldOf v 31 24)
  | .SYSCTL_MRQREQ => if m = .host ∧ (fieldOf v 7 0 = 1 ∨ fieldOf v 7 0 = 2) then s.mrqRequest (fieldOf v 7 0) else s
  | .SYSCTL_MRQRSP =>
    if m ≠ .host then s else if i = 7 then s.mrqResponse v else { s with sys := { s.sys with rsp := tblSet (fun _ => 0) s.sys.rsp i v } }
  | .SYSCTL_PD => s.pdWritten i v
  | _ => s

/-- A step of the time base: refused after acquisition, else applied, recorded and told to every island (R475, R317,
R390). -/
def State.timeStep (s : State) : State :=
  if s.on R.TIME_STAT_TSTATE then s.raise R.TIME_STAT_STR
  else
    let ofs := s.stepOffset
    let s := s.stepTime ofs
    let s := ((s.raise R.TIME_STAT_TSTATE).bump R.TIME_STAT_STEPCNT).raise R.TIME_STAT_STPD
    let s := s.post 0x0321 3 (bytesLE 8 (natOfInt 64 ofs))
    let s := s.meterStep ofs
    s.each (List.range 8) (fun n t => if t.puOn n then t.puRestart n else t)

/-- CLK and TIME (R467, R469, R472, R475, R476, R486, R488). -/
def State.afterClk (s : State) (k : Kind) (i : Nat) (old v : Word) : State :=
  match k with
  | .CLK_SYN_CFG =>
    let s := if i = 2 ∧ bitAt v 29 ≠ bitAt old 29 then s.refSelected else s
    let s := if bitAt v 31 && !bitAt old 31 then s.synEnabled i else s
    if !bitAt v 31 && s.on (R.CLK_SYN_STAT_LOCK i) then s.lockLoss i else s
  | .CLK_SYN_CMD =>
    let s := if bitAt v 0 then s.update i else s
    let s := if bitAt v 1 then s.resume i else s
    if bitAt v 2 then s.forceBypass i else s
  | .TIME_CTRL =>
    let s := if bitAt v 29 then s.timeStep else s
    let s := if bitAt v 30 then s.unacquire else s
    if bitAt v 31 then s.syncTime else s
  | .TIME_ADJ => s.adjWritten
  | _ => s

/-- EN of an output is written (R219). -/
def State.enWritten (s : State) (c : Chan) (en : Bool) : State :=
  if en then s.enableOut c else State.bcLeft s (s.chDisable c)

/-- Every channel and scheduler is disabled (R219, R234). -/
def State.disableAll (s : State) : State := State.bcLeft s (allChans.foldl (fun t c => t.chDisable c) s)

/-- The value register of an output that a kind of register is (R207, R225). -/
def battenVal (k : Kind) (i : Nat) : Option (Chan × BattenVal) :=
  match k with
  | .BATTEN_CH_PERIOD => (dirOf i).map (·, .period)
  | .BATTEN_CH_DUTY => (dirOf i).map (·, .duty)
  | .BATTEN_CH_PHASE => (dirOf i).map (·, .phase)
  | .BATTEN_CH_SAMPLE => (dirOf i).map (·, .sample)
  | .BATTEN_CH_DTR => (dirOf i).map (·, .dtr)
  | .BATTEN_CH_DTF => (dirOf i).map (·, .dtf)
  | .BATTEN_CH_BLANK => (dirOf i).map (·, .blank)
  | .BATTEN_CH_MINPW => (dirOf i).map (·, .minpw)
  | .BATTEN_RL_PERIOD => (remOf i).map (·, .period)
  | .BATTEN_RL_DUTY => (remOf i).map (·, .duty)
  | .BATTEN_RL_PHASE => (remOf i).map (·, .phase)
  | .BATTEN_RL_SAMPLE => (remOf i).map (·, .sample)
  | .BATTEN_RL_DTR => (remOf i).map (·, .dtr)
  | .BATTEN_RL_DTF => (remOf i).map (·, .dtf)
  | .BATTEN_RL_MINPW => (remOf i).map (·, .minpw)
  | .BATTEN_RL_UP_ON => (remOf i).map (·, .upOn)
  | .BATTEN_RL_UP_OFF => (remOf i).map (·, .upOff)
  | .BATTEN_RL_LO_ON => (remOf i).map (·, .loOn)
  | .BATTEN_RL_LO_OFF => (remOf i).map (·, .loOff)
  | _ => none

/-- Re-enable every leg of a group, each with its own RES (R260, R266). -/
def State.groupRe (s : State) (g : Nat) : State := s.each (onesOf 48 (s.grpMask g)) (fun n t => t.reEnable n)

/-- BATTEN and GATE (R226 to R234, R264 to R266). -/
def State.afterPwm (s : State) (k : Kind) (i : Nat) (old v : Word) : State :=
  match k with
  | .BATTEN_CH_CTRL => (match dirOf i with | some c => (s.leadCheck (s.groupsOfMaster i)).enWritten c (bitAt v 0) | none => s)
  | .BATTEN_RL_CTRL => (match remOf i with | some c => (s.leadCheck [i / 6]).enWritten c (bitAt v 0) | none => s)
  | .BATTEN_LEAD => s.leadCheck [i]
  | .GATE_RL_STR => s.rlStrWritten i old
  | .BATTEN_DISALL => if bitAt v 0 then s.disableAll else s
  | .GATE_LEG_CMD =>
    let s := if bitAt v 0 then s.reEnable i else s
    if h : i < 48 then (if fieldOf v 2 1 = 0 then s else s.legTest ⟨i, h⟩ (fieldOf v 2 1)) else s
  | .GATE_LEG_STR => s.strWritten i old
  | .GATE_GRP_LO => s.refreshGsd
  | .GATE_GRP_HI => if bitAt v 18 then s.refreshGsd.groupRe i else s.refreshGsd
  | .GATE_WIN_ST => if bitAt v 31 then s.winTest i else s
  | .BATTEN_RSYNC =>
    if bitAt v 31 then s
    else { s with ridge := { s.ridge with stopped := false }, bat := { s.bat with rsync := false } }
  | _ => s

/-- EN and MODE of a comparator stage before and after a write (R282). -/
def State.stageWritten (s : State) (c : Cmp) (old new : Word) : State :=
  if bitAt old 31 ≠ bitAt new 31 then s.cmpEnableWritten c
  else if fieldOf old 30 29 ≠ fieldOf new 30 29 then s.cmpModeWritten c
  else s

/-- RAMPEN of a comparator has become 0: the code is driven again (R284). -/
def State.rampEnd (s : State) (n : Fin 96) : State :=
  (s.put (R.CMP_DAC_ACT n) (s.get (R.CMP_DAC_CODE n))).rampStop n

/-- MCKk is switched on or off (R268, R269, R278). -/
def State.mckWritten (s : State) (k : Nat) (on' : Bool) : State :=
  if on' = s.on (R.MOD_MCK_CFG_EN k) then s
  else
    (((s.setMck k mckReset).putB (R.MOD_MCK_CFG_EN k) on').clear (R.MOD_MCK_CFG_PADOK k)).refreshClock k

/-- EN of a modulator input is written (R278). -/
def State.inputWritten (s : State) (n : Nat) (on' : Bool) : State :=
  if on' = s.on (R.MOD_MD_CFG_EN n) then s
  else
    (s.putB (R.MOD_MD_CFG_EN n) on').inputEnabled n

/-- CMP, MOD and HADC (R301 to R306). -/
def State.afterSense (s : State) (k : Kind) (i : Nat) (old v : Word) : State :=
  match k with
  | .CMP_CFG =>
    if h : i < 96 then
      let new := s.rd (R.CMP_CFG i)
      let s := s.stageWritten (.leg ⟨i, h⟩) old new
      if bitAt old 26 && !bitAt new 26 then s.rampEnd ⟨i, h⟩ else s
    else s
  | .CMP_DAC => if h : i < 96 then (if s.cmpOwned i then s else s.dacWrite (.leg ⟨i, h⟩) (fieldOf v 9 0) false) else s
  | .CMP_WIN_CFG =>
    if h : i < 16 then
      let new := s.rd (R.CMP_WIN_CFG i)
      if bitAt old 31 ≠ bitAt new 31 then ((s.winEnableWritten ⟨i, h⟩).refreshWin i).safeEval
      else State.noteWindows s (((s.stageWritten (.winLo ⟨i, h⟩) old new).stageWritten (.winHi ⟨i, h⟩) old new).refreshWin i)
    else s
  | .CMP_WIN_LDAC => if h : i < 16 then State.noteWindows s (s.dacWrite (.winLo ⟨i, h⟩) (fieldOf v 9 0) false) else s
  | .CMP_WIN_UDAC => if h : i < 16 then State.noteWindows s (s.dacWrite (.winHi ⟨i, h⟩) (fieldOf v 9 0) false) else s
  | .MOD_MCK_CFG => s.mckWritten i (bitAt v 31)
  | .MOD_MD_CFG => s.inputWritten i (bitAt v 31)
  | .HADC_CMD =>
    let s := if bitAt v 0 then s.hadcGo else s
    if bitAt v 1 then s.hadcOff else s
  | _ => s

/-- BOOST and METER (R371 to R374, R407, R408). -/
def State.afterPower (s : State) (k : Kind) (i : Nat) (old v : Word) : State :=
  match k with
  | .BOOST_BC_CFG =>
    if bitAt v 31 = bitAt old 31 then s else if bitAt v 31 then s.bcEnable i else s.bcDisable i
  | .BOOST_BC_MCFG =>
    if bitAt v 31 = bitAt old 31 then s else if bitAt v 31 then s.mppEnable i else (s.clear (R.BOOST_BC_MCFG_MEN i)).mppStop i
  | .BOOST_BC_ICMD => s.xIcmd i
  | .BOOST_BC_MTRIG => if bitAt v 31 then s.scanGo i else s
  | .BOOST_BC_PHSTAT => s.failClear i (fieldOf v 29 24)
  | .METER_CTRL =>
    let s := if bitAt v 30 then s.meterClr i else s
    if bitAt v 31 = bitAt old 31 then s else if bitAt v 31 then s.meterEnable i else s.meterDisable i
  | .METER_PLS => if bitAt old 31 && !bitAt v 31 then s.pulseOff i else s
  | _ => s

/-- SAFE (R455, R456). -/
def State.afterSafe (s : State) (k : Kind) (i : Nat) (_old v : Word) : State :=
  match k with
  | .SAFE_CMD =>
    let s := if bitAt v 0 then s.safeStop else s
    let s := if bitAt v 1 then s.cntclr else s
    let s := if fieldOf v 15 8 = 0 then s else s.safeRestart (fieldOf v 15 8)
    if bitAt v 16 then s.safeEdit else s
  | .SAFE_CONFIRM => s.sprConfirm v
  | .SAFE_UNLREQ => if fieldOf v 7 0 = 1 ∨ fieldOf v 7 0 = 2 then s.unlRequest (fieldOf v 7 0) else s
  | .SAFE_UNLRSP =>
    if i = 7 then s.unlResponse v else { s with safe := { s.safe with rsp := tblSet (fun _ => 0) s.safe.rsp i v } }
  | .SAFE_RCREQ => s.rcreq (fieldOf v 3 0)
  | _ => s

/-- CMD of a lane (R494 to R498). -/
def State.laneCmd (s : State) (n : Nat) (v : Word) : State :=
  let s := if bitAt v 0 then s.slip n else s
  let s := if bitAt v 1 then s.align n else s
  let s := if bitAt v 2 then s.unalign n else s
  let s := if bitAt v 3 then s.esgo n else s
  if bitAt v 4 then s.wr (R.PURLIN_LANE_CNT n) 0 else s

/-- PURLIN, ENET and RIDGE (R524 to R526). -/
def State.afterNet (s : State) (k : Kind) (i : Nat) (old v : Word) : State :=
  match k with
  | .PURLIN_LANE_CFG =>
    if bitAt v 31 = bitAt old 31 then s else if bitAt v 31 then s.laneEnable i else s.laneDisable i
  | .PURLIN_LANE_TPROC => s.showLmin i
  | .PURLIN_LANE_CMD => s.laneCmd i v
  | .ENET_CFG =>
    if bitAt v 31 = bitAt old 31 then s else if bitAt v 31 then s.enetEnable i else s.enetDisable i
  | .ENET_TXIDX => if bitAt v 31 then s.kick i else s
  | .RIDGE_CMD =>
    let s := if bitAt v 0 then s.ridgeDrive else s
    if bitAt v 1 then s.ridgeClr (!s.on R.RIDGE_STAT_LVL) else s
  | _ => s

/-- EAVES and THATCH (R558, R559). -/
def State.afterPd0 (s : State) (m : Master) (k : Kind) (i : Nat) (v : Word) : State :=
  match k with
  | .EAVES_CFG => s.fcontWritten
  | .EAVES_TAMP => s.tampWritten
  | .EAVES_DEFCNT => if bitAt v 31 then s.clear R.EAVES_DEFCNT_CNT else s
  | .EAVES_BCTL => if bitAt v 31 then s.burstGo else s
  | .THATCH_POST3 => s.swPost (srcOfMaster m) v
  | .THATCH_CLRREQ => s.clrReq (fieldOf v 7 0)
  | .THATCH_RSP =>
    if i = 7 then s.clrResponse v else { s with thatch := { s.thatch with rsp := tblSet (fun _ => 0) s.thatch.rsp i v } }
  | _ => s

/-- HCMD is written (R616). -/
def State.hcmd (s : State) (v : Word) : State :=
  let q := fieldOf v 12 8
  match fieldOf v 1 0 with
  | 1 => s.hcmdPush q (fieldOf v 24 16)
  | 2 => s.hcmdPop q (fieldOf v 24 16)
  | 3 => s.hcmdStat q
  | _ => s

/-- RAFTER's registers of a phasor unit: a write of CFG or SRC while EN is 1 restarts it (R317). -/
def State.puWritten (s : State) (n : Nat) : State :=
  if s.on (R.RAFTER_PU_CFG_EN n) then (s.puCheck n).puRestart n else s.puShow n

/-- QUEUE, RAFTER, CFGSET and HOST (R185 to R189, R596, R620, R621). -/
def State.afterTop (s : State) (m : Master) (k : Kind) (i : Nat) (old v : Word) : State :=
  match k with
  | .QUEUE_CFG => if bitAt v 31 then s.qEnable i else s.qDisable i
  | .QUEUE_HCMD => s.hcmd v
  | .RAFTER_CORE_MODE =>
    if bitAt v 0 = s.on (R.RAFTER_CORE_MODE_SVY i) then s else if bitAt v 0 then s.surveyRequest i else s.surveyEnd i
  | .RAFTER_CORE_CTXCMD =>
    let c : Byte := BitVec.ofNat 8 (fieldOf v 7 0)
    if fieldOf v 9 8 = 1 then s.ctxCmd i m c true else if fieldOf v 9 8 = 2 then s.ctxCmd i m c false else s
  | .RAFTER_PU_CFG | .RAFTER_PU_SRC => s.puWritten i
  | .RAFTER_PU_PADDR => if bitAt v 0 && !bitAt old 0 then s.puWord i else s
  | .RAFTER_PU_ISEPL | .RAFTER_PU_ISEPH | .RAFTER_PU_ISPER | .RAFTER_PU_ISOFF | .RAFTER_PU_ISCFG =>
    if s.on (R.RAFTER_PU_CFG_EN i) then (s.puCheck i).puShow i else s
  | .CFGSET_CMD =>
    let s := if bitAt v 0 then s.cfgLoad else s
    let s := if bitAt v 1 then s.cfgCheck else s
    if bitAt v 2 then s.cfgSwap else s
  | .CFGSET_IMG => if bitAt v 31 then s.imgVerify (fieldOf v 0 0) else s
  | .HOST_DBSET => s.put R.HOST_DBELL_DB (s.get R.HOST_DBELL_DB ||| fieldOf v 3 0)
  | _ => s

/-- What a write of a register does beside its plain fields. -/
def State.afterWrite (s : State) (m : Master) (b : Block) (k : Kind) (i : Nat) (old v : Word) : State :=
  match b with
  | .SYSCTL => s.afterSysctl m k i old v
  | .CLK | .TIME => s.afterClk k i old v
  | .BATTEN | .GATE => s.afterPwm k i old v
  | .CMP | .MOD | .HADC => State.noteReports s (s.afterSense k i old v)
  | .BOOST | .METER => s.afterPower k i old v
  | .SAFE => s.afterSafe k i old v
  | .PURLIN | .ENET | .RIDGE => s.afterNet k i old v
  | .EAVES | .THATCH => s.afterPd0 m k i v
  | .QUEUE | .RAFTER | .CFGSET | .HOST => s.afterTop m k i old v

/-- A write of a whole word to a peripheral register by a master; an address that the map does not assign ignores it
(R20). An interrupt that it withdraws has ended a WAIT (R85). -/
def State.regWrite (s : State) (m : Master) (a : Nat) (v : Word) : State :=
  let s := s.noteInts
  match blockOf a, regAt a with
  | some b, some (r, i) =>
    match battenVal r.kind i with
    | some (c, x) => s.valueWritten c x v
    | none =>
      if r.kind = .SAFE_PAR then s.sprWrite i v
      else
        let old := s.rd a
        (s.storeReg r i a v).afterWrite m b r.kind i old v
  | _, _ => s

end Sys2Proof.Machine
end

