-- ==== Sys2Proof/Machine/Access.lean ====
section
/-!
DEFINITION. Accesses of the masters (R20, R36, R39 to R42, R146, R147, R173, R601 to R614): reads and writes of memories and
registers, snapshot holds, interrupt lines, the host's access engine and the SPI target.
-/

namespace Sys2Proof.Machine

/-! ### Snapshot reads (R603, R605) -/

/-- The latch word of the group of a snapshot register. -/
def latchOf (a : Nat) : Nat :=
  match regAt a with
  | some (r, _) => (match r.kind with
    | .TIME_NOW_NS | .TIME_NOW_SECL | .TIME_NOW_SECH | .TIME_NOW_LST => R.TIME_NOW_NS
    | .METER_ACC_CNTL | .METER_ACC_CNTH | .METER_ACC_FRAC => a / 16 * 16
    | .METER_IVSEC | .METER_IVFLG | .METER_IV_LO | .METER_IV_HI => a / 0x1000 * 0x1000 + 0x180
    | .METER_BLK_VRMS | .METER_BLK_IRMS | .METER_BLK_P | .METER_BLK_Q | .METER_BLK_S | .METER_NRMS | .METER_BLKSEC
    | .METER_BLKNS => a / 0x1000 * 0x1000 + 0x200
    | .EAVES_SECL | .EAVES_SECH => R.EAVES_SECL
    | .BATTEN_CH_COUNT | .MOD_MD_DATA | .MOD_MD_MON => a
    | _ => a / 0x800 * 0x800 + 0x28)
  | none => a

/-- The words of the group that a latch word heads. -/
def groupOf (l : Nat) : List Nat :=
  let w := fun lo hi => (List.range ((hi - lo) / 4 + 1)).map (fun k => lo + 4 * k)
  match regAt l with
  | some (r, _) => (match r.kind with
    | .TIME_NOW_NS => w l (l + 0xC)
    | .METER_ACC_CNTL => w l (l + 8)
    | .METER_IVSEC => w l (l + 0x4C)
    | .METER_BLK_VRMS => w l (l + 0x68)
    | .EAVES_SECL => w l (l + 4)
    | .RAFTER_PU_TSEC => w (l - 8) (l + 0x4C)
    | _ => [l])
  | none => [l]

/-- What the mirror of a snapshot register shows: its island's copy, or the last one (R603). -/
def State.mirrorAt (s : State) (a : Nat) : Word :=
  if s.pdRun (pdOfReg a) then s.snapLive a else tblGet (fun _ => 0) s.host.mirror a

/-- The place of a master's hold of a word. -/
def holdKey (m : Master) (a : Nat) : Nat := masterBit m * 2 ^ 32 + a

/-- A read of a latch word copies the group into the master's hold (R605). -/
def State.latchGroup (s : State) (m : Master) (l : Nat) : State :=
  s.each ((groupOf l).filter isSnap) (fun a t =>
    { t with host := { t.host with holds := tblSet (fun _ => 0) t.host.holds (holdKey m a) (t.mirrorAt a) } })

/-- A snapshot read by a master. -/
def State.snapRead (s : State) (m : Master) (a : Nat) : State × Word :=
  let s := if latchOf a = a then s.latchGroup m a else s
  (s, tblGet (fun _ => 0) s.host.holds (holdKey m a))

/-! ### Reads -/

/-- A read of HADC_DATA returns the result and clears VALID (R297). -/
def State.hadcRead (s : State) : State × Word := (s.clear R.HADC_DATA_VALID, s.rd R.HADC_DATA)

/-- Word k of the record that THATCH_CUR names, straight from MRAM; 0 while RDEN is 0 (R552, R555). -/
def State.winWord (s : State) (k : Nat) : Word :=
  if s.on R.THATCH_STAT_RDEN then s.memWord (slotAddr (s.rd R.THATCH_CUR).toNat + 4 * k) else 0

/-- A word of the fuse window; the keys read 0 (R595). -/
def State.fuseWindow (s : State) (k : Nat) : Word := if 58 ≤ k ∧ k ≤ 81 then 0 else s.shadowWord k

/-- A read of a mapped register by a master; fields that show a state now are formed at the read (R312, R317, R337, R519,
R520). -/
def State.regRead (s : State) (m : Master) (a : Nat) : State × Word :=
  match regAt a with
  | none => (s, 0)
  | some (r, i) =>
    if isSnap a then s.snapRead m a
    else match r.kind with
      | .HADC_DATA => s.hadcRead
      | .CMP_STAT => (s, if h : i < 96 then putField (s.rd a) 8 8 (s.rampAbove ⟨i, h⟩).toNat else s.rd a)
      | .BOOST_BC_PHSTAT => (s, s.rd a &&& BitVec.ofNat 32 ((2 ^ s.bcNph i - 1) * 0x1010101))
      | .SAFE_RC => (s, (s.chainShow i).rd a)
      | .THATCH_WIN => (s, s.winWord i)
      | .SYSCTL_FUSE => (s, s.fuseWindow i)
      | .CFGSET_MSEQ => (s, match s.newerSet with | some k => s.memWord (setBase k + 8) | none => 0)
      | .QUEUE_PEND => (s, BitVec.ofNat 32 s.qPend)
      | .HOST_ISUM => (s, s.isum i)
      | .RAFTER_CORE_STAT => (s, putField (s.rd a) 6 0 (s.core i).undo.length)
      | .RAFTER_PU_STAT | .RAFTER_PU_ISSTAT => (s, (s.puShow i).rd a)
      | .ENET_CFG => (s, putField (s.rd a) 27 27 (s.safePort i).toNat)
      | .PURLIN_LANE_STAT => (s, putField (s.rd a) 27 27 (s.laneIn i 1 && s.mmx i).toNat)
      | .RIDGE_STAT =>
        let src := s.ridge.drive || s.safeRtrip
        (s, putField (putField (s.rd a) 29 29 src.toNat) 30 30 (s.on R.RIDGE_STAT_LVL || src).toNat)
      | _ => (s, s.rd a &&& ~~~ r.wo)

/-- The master is the core that owns a memory (R40). -/
def ownMem (m : Master) (k : MemKind) : Bool :=
  match m, k with
  | .rc n, .rcData j => n.val = j
  | .rc n, .rcInstr j => n.val = j
  | _, _ => false

/-- The island in the way of a master refuses an access to a memory (R36, R40). -/
def State.memShut (s : State) (m : Master) (k : MemKind) : Bool := !ownMem m k && !s.pdOpen (pdOfMem k)

/-- A read of the aligned word at an address by a master: the state, a fault, the data (R20, R36, R41, R555, R603). -/
def State.busRead (s : State) (m : Master) (a : Nat) : State × Bool × Word :=
  match memAt a with
  | some k =>
    if s.memShut m k || s.marked a then (s, true, 0)
    else if decide (0x00F00000 ≤ a ∧ a < 0x00F80000) && !s.on R.THATCH_STAT_RDEN then (s, false, 0)
    else (s, false, s.memWord a)
  | none =>
    if (regAt a).isNone then (s, false, 0)
    else if isSnap a || s.pdOpen (pdOfReg a) then
      let r := s.regRead m a
      (r.1, false, r.2)
    else (s, true, 0)

/-! ### Writes -/

/-- The word with its enabled bytes replaced. -/
def mergeBytes (old v : Word) (be : Nat) : Word :=
  (List.range 4).foldl (fun w k => if be.testBit k then putField w (8 * k + 7) (8 * k) (fieldOf v (8 * k + 7) (8 * k)) else w) old

/-- The coefficient area or the context block of a closed context of core n holds an offset: the context, and whether it
is the block (R146, R147, R173). -/
def State.ownedBy (s : State) (n o : Nat) : Option (Nat × Bool) :=
  ((List.range 32).map (fun k => 32 * n + k)).findSome? (fun c =>
    let hit := fun (x : Nat × Nat) => decide (x.1 ≤ o ∧ o < x.1 + x.2)
    if s.isOpen c then none
    else if hit (s.blockArea c) then some (c, true)
    else if hit (s.coefArea c) then some (c, false)
    else none)

/-- A word is written into the data memory of core n: descriptors and coefficients are RWL, and the block of a closed
context is its own dispatch's (R146, R147, R173). Reserved bits and offsets of a descriptor stay 0 (R19, R148). -/
def State.dataWrite (s : State) (m : Master) (n a : Nat) (new : Word) : State :=
  let new := if (descCtx a).isSome then new &&& descMask (a % 0x200) else new
  let old := s.memWord a
  match descCtx a with
  | some c =>
    if s.isOpen c then (if old = new then s else (s.setMemWord a new).judge [c])
    else if old = new then s
    else s.raise (R.RAFTER_CTX_STAT_WLE c)
  | none =>
    match s.ownedBy n (a % 0x100000) with
    | some (c, true) =>
      if ownMem m (.rcData n) && s.isRunning c then s.setMemWord a new else s.raise (R.RAFTER_CTX_STAT_WLE c)
    | some (c, false) => if old = new then s else s.raise (R.RAFTER_CTX_STAT_WLE c)
    | none => s.setMemWord a new

/-- A write to another core's instruction memory changes nothing and is recorded, once per second and core (R40). -/
def State.foreignCode (s : State) (m : Master) (n a : Nat) : State :=
  if s.mayPost (0x100000000 + n) then
    ({ s with limits := tblSet (fun _ => none) s.limits (0x100000000 + n) (some s.upNs) } : State).post 0x0410 (4 + n)
      (bytesLE 2 n ++ bytesLE 4 a ++ [BitVec.ofNat 8 (srcCode m)])
  else s

/-- Whether a write of a word fails (R36, R41, R42, R614): a mark is cleared only by a write of all 64 bits. -/
def State.writeFails (s : State) (m : Master) (k : MemKind) (a : Nat) (whole : Bool) : Bool :=
  s.memShut m k || decide (k = .mram) || (s.marked a && !whole) || (s.queueAt a).isSome

/-- A write of enabled bytes of the aligned word at an address by a master: the state and a fault. `whole` says that it
is half of a write of 64 bits. -/
def State.busWrite (s : State) (m : Master) (a : Nat) (v : Word) (be : Nat) (whole : Bool) : State × Bool :=
  match memAt a with
  | some k =>
    if s.writeFails m k a whole then
      (match s.queueAt a with
        | some q => if s.memShut m k || (s.marked a && !whole) then (s, true) else (s.raise (R.QUEUE_STAT_PRV q), true)
        | none => (s, true))
    else
      let new := mergeBytes (s.memWord a) v be
      let s := if whole then s.unmark a else s
      match k with
      | .rcData n => (s.dataWrite m n a new, false)
      | .rcInstr n => if ownMem m k then (s.setMemWord a new, false) else (s.foreignCode m n a, false)
      | _ => (s.setMemWord a new, false)
  | none =>
    if (regAt a).isNone then (s, false)
    else if s.pdOpen (pdOfReg a) then (s.regWrite m a v, false)
    else (s, true)

/-- The island of an access, none for an unassigned address. -/
def islandAt (a : Nat) : Option Nat :=
  match memAt a with
  | some k => some (pdOfMem k)
  | none => if (regAt a).isSome then some (pdOfReg a) else none

/-- An access at an address waits: the clock of its island stands still, and the island is not the master's own (R36, R650);
snapshot reads are answered by the mirror (R603). -/
def State.stillAt (s : State) (a : Nat) : Bool := match islandAt a with | some p => s.pdStill p | none => false

/-! ### Errors that the codes of R41 find -/

/-- A context or configuration set depends on the word of 64 bits at an address: it is in the shadow area, or in the
descriptor, the block or the coefficients of a configured context (R49). -/
def State.dependedOn (s : State) (w : Nat) : Bool :=
  decide (shadowBase ≤ w ∧ w < shadowBase + 0x40 + maxLen) ||
  (decide (w < 0x00800000) && (ctxsOf (w / 0x100000)).any (fun c => s.isCfg c &&
    (overlaps (w, 8) (descBase c, 0x200) || overlaps (w % 0x100000, 8) (s.blockArea c) || overlaps (w % 0x100000, 8) (s.coefArea c))))

/-- A read finds a word of an SRAM in error: a corrected one is counted; any other marks the word for scrubbing (R41), and one
on which a context or set depends is a fault outside the classes of R44 (R49). -/
def State.eccFound (s : State) (err : List (Nat × Bool)) : State :=
  err.foldl (fun t e =>
    let w := e.1 / 8 * 8
    match memAt w with
    | none | some .mram => t
    | some _ =>
      if e.2 then { t with eccFixed := t.eccFixed + 1 }
      else
        let t := if t.marked w then t else { t with ecc := t.ecc ++ [w] }
        if t.dependedOn w then t.fullRestart else t) s

/-! ### The host's access engine (R597 to R602) -/

/-- An access takes effect: the state, a fault, the data. A write to a register with a byte off is ignored with PWE but in
QUEUE_HBUF (R602). -/
def State.engine (s : State) (write : Bool) (a : Nat) (v : Word) (be : Nat) : State × Bool × Word :=
  if write then
    if decide (be ≠ 15) && (memAt a).isNone && (regAt a).isSome then
      if R.QUEUE_HBUF 0 ≤ a ∧ a ≤ R.QUEUE_HBUF 63 then
        let r := s.busWrite .host a (mergeBytes (s.rd a) v be) 15 false
        (r.1, r.2, 0)
      else if s.pdOpen (pdOfReg a) then (s.raise R.HOST_STAT_PWE, false, 0)
      else (s, true, 0)
    else
      let r := s.busWrite .host a v be false
      (r.1, r.2, 0)
  else s.busRead .host a

/-- An access completes with FAULT: BERR and EADDR (R601). -/
def State.busFault (s : State) (a : Nat) (fault : Bool) : State :=
  if fault then (s.raise R.HOST_STAT_BERR).wr R.HOST_EADDR (BitVec.ofNat 32 a) else s

/-- What the bus answers at a completion edge: HST and HD (R597). -/
def State.answer (s : State) (hst : Nat) (d : Word) : State := { s with host := { s.host with hst := hst, hd := d } }

/-- An access ends for its master: with FAULT, or DONE and its data. -/
def State.complete (s : State) (a : Nat) (fault : Bool) (d : Word) : State :=
  if fault then (s.busFault a true).answer 3 0 else s.answer 1 d

/-- A held access is released (R600). -/
def State.unhold (s : State) : State := ({ s with host := { s.host with held := none } } : State).clear R.HOST_STAT_HELD

/-- An access outlasts its sixth wait state: always at EAVES, THATCH and MRAM, and where it was slow outside PD3 (R599, R600). -/
def State.outlasts (s : State) (a : Nat) (slow : Bool) : Bool :=
  match islandAt a with
  | some p => decide (p ≠ 3) && (slow || (decide (p = 0) && s.pdOpen 0))
  | none => false

/-- An access is issued to an island whose clock stands still: it takes effect once the clock runs or the gate closes (R36,
R650); `drop`: its result is discarded. -/
def State.holdAccess (s : State) (write : Bool) (a : Nat) (v : Word) (be : Nat) (drop : Bool) : State :=
  { s with host := { s.host with held := some ⟨a, write, v, be, false, 0, true, drop⟩ } }

/-- The access that waits takes effect, if it no longer waits. -/
def State.settleHeld (s : State) : State :=
  match s.host.held with
  | some h =>
    if h.waits && !s.stillAt h.addr then
      let r := s.engine h.write h.addr h.data h.be
      if h.drop then r.1.unhold
      else ({ r.1 with host := { r.1.host with held := some { h with waits := false, fault := r.2.1, result := r.2.2 } } } : State).startTimer
        .hold
    else s
  | none => s

/-- A host-bus access: `slow` says that it has not finished by the end of its sixth wait state, as it never has at PD0, or that a
repeat finds the held result not ready; `left` that HCS_N rose before completion (R598, R600). -/
def State.hostAccess (s : State) (write : Bool) (a : Nat) (v : Word) (be : Nat) (slow left : Bool) : State :=
  if !s.pdRun 3 then s
  else if !write && isSnap a then
    let r := s.snapRead .host a
    if left then (r.1.raise R.HOST_STAT_RAB).answer 0 0 else r.1.answer 1 r.2
  else
    let s := s.settleHeld
    match s.host.held with
    | some h =>
      if h.addr = a ∧ h.write = write ∧ h.be = be ∧ (write = false ∨ h.data = v) ∧ h.drop = false then
        if h.waits then s.answer 2 0
        else if slow then (s.startTimer .hold).answer 2 0
        else if left then (s.unhold.raise R.HOST_STAT_RAB).answer 0 0
        else s.unhold.complete a h.fault h.result
      else s.answer 2 0
    | none =>
      if s.stillAt a then
        let s := s.holdAccess write a v be left
        if left then (s.raise R.HOST_STAT_RAB).answer 0 0
        else ((s.raise R.HOST_STAT_HELD).wr R.HOST_HADDR (BitVec.ofNat 32 a)).answer 2 0
      else
      let r := s.engine write a v be
      if left then (r.1.raise R.HOST_STAT_RAB).answer 0 0
      else if s.outlasts a slow then
        let s := ({ r.1 with host := { r.1.host with held := some ⟨a, write, v, be, r.2.1, r.2.2, false, false⟩ } } : State)
        (((s.raise R.HOST_STAT_HELD).wr R.HOST_HADDR (BitVec.ofNat 32 a)).startTimer .hold).answer 2 0
      else r.1.complete a r.2.1 r.2.2

/-- HOLDTO µs have passed since the result was ready, without the repeat (R600, R621). -/
def State.heldTimeout (s : State) : State :=
  if s.pdRun 3 && s.host.held.any (fun h => !h.waits) && s.past .hold (max 1 (s.get R.HOST_CFG_HOLDTO) * 1000) then s.unhold.raise R.HOST_STAT_RAB else s

/-- A write access of any master under the row of R16: the host's runs through its engine. -/
def State.masterWrite (s : State) (m : Master) (a : Nat) (v : Word) (be : Nat) (slow left : Bool) : State :=
  match m with
  | .host => s.hostAccess true a v be slow left
  | _ => (s.busWrite m a v 15 false).1

/-! ### The SPI target (R606, R607) -/

/-- The target is active. -/
def State.spiOn (s : State) : Bool := s.pdRun 3 && s.on R.HOST_CFG_SPIEN

/-- Bytes sent on SPDO. -/
def State.spdo (s : State) (l : List Byte) : State := { s with host := { s.host with spdo := l } }

/-- The words of a WRITE, each with whether the one before it was still in progress. -/
def State.spiWords (s : State) (a : Nat) : List (Word × Bool) → State
  | [] => s
  | (w, clash) :: l =>
    if clash then (s.raise R.HOST_STAT_SPE).spiWords (a + 4) l
    else if s.stillAt a then (s.holdAccess true a w 15 true).spiWords (a + 4) l
    else
      let r := s.engine true a w 15
      let s := r.1.busFault a r.2.1
      let s := { s with host := { s.host with spiFault := r.2.1 } }
      (if r.2.1 then s.raise R.HOST_STAT_SWE else s).spiWords (a + 4) l

/-- WRITE. -/
def State.spiWrite (s : State) (a : Nat) (l : List (Word × Bool)) : State :=
  if s.spiOn then (s.spdo []).spiWords a l else s

/-- The words of a READ, each with the number of zero bytes sent while its access runs; 64 of them end the transaction. -/
def State.spiReads (s : State) (a : Nat) : List Nat → State × List Byte
  | [] => (s, [])
  | w :: l =>
    if s.stillAt a && !isSnap a then (s.holdAccess false a 0 15 true, List.replicate 64 0#8 ++ [0xE2#8])
    else
    let r := s.engine false a 0 15
    if 64 ≤ w then (r.1.busFault a r.2.1, List.replicate 64 0#8 ++ [0xE2#8])
    else
      let t := (r.1.busFault a r.2.1).spiReads (a + 4) l
      (t.1, List.replicate w 0#8 ++ (if r.2.1 then 0xE1#8 else 0xA5#8) :: bytesBE 4 r.2.2.toNat ++ t.2)

/-- READ. -/
def State.spiRead (s : State) (a : Nat) (l : List Nat) (err : List (Nat × Bool)) : State :=
  if s.spiOn then
    let s := s.eccFound err
    let r := s.spiReads a l
    if s.pdRun 3 then r.1.spdo r.2 else s
  else s

/-- A command byte that starts neither WRITE nor READ: STATUS answers, every other byte is discarded with SPE. -/
def State.spiStatus (s : State) (cmd : Byte) (busy : Bool) : State :=
  if !s.spiOn then s
  else if cmd = 0x05 then s.spdo [BitVec.ofNat 8 (busy.toNat + 2 * s.host.spiFault.toNat)]
  else if cmd = 0x02 ∨ cmd = 0x0B then s
  else (s.spdo []).raise R.HOST_STAT_SPE

/-- A master reads a latch word (R605). -/
def State.latchRead (s : State) (m : Master) (a : Nat) : State :=
  if s.pdRun 3 && isSnap a && decide (latchOf a = a) then
    let r := s.snapRead m a
    match m with
    | .host => r.1.answer 1 r.2
    | _ => r.1
  else s

end Sys2Proof.Machine
end

