-- ==== Sys2Proof/Machine/Flags.lean ====
section
/-!
DEFINITION. The flag computations of Jenmel: saturation and QS, accumulator wrap and AV (R65, R92), and the float flags
(R80, R91).
-/

namespace Sys2Proof.Machine

/-- A 32-bit result and whether it saturated, which sets CSR_ACCSTAT.QS (R65). -/
structure QRes where
  val : Word
  qs : Bool
  deriving DecidableEq, Repr

/-- sat32 of an exact result, with QS (R65). -/
def qSat (x : Int) : QRes := ⟨wordOfInt (satInt 32 x), satFlag 32 x⟩

/-- A result that sets no flag. -/
def qPlain (w : Word) : QRes := ⟨w, false⟩

/-- An accumulator result: 72 bits modulo 2^72, and whether the exact result did not fit (R65). -/
structure AccRes where
  val : BitVec 72
  av : Bool
  deriving DecidableEq, Repr

/-- Accumulator arithmetic wraps modulo 2^72; AV when the exact result does not fit (R65). -/
def accWrap (x : Int) : AccRes := ⟨BitVec.ofInt 72 x, satFlag 72 x⟩

/-- The float exceptions an operation signals (R80, R91). -/
structure FFlags where
  iv : Bool
  dz : Bool
  ov : Bool
  un : Bool
  ix : Bool
  deriving DecidableEq, Repr

/-- No float exception. -/
def ffNone : FFlags := ⟨false, false, false, false, false⟩

/-- Invalid operation. -/
def ffInvalid : FFlags := ⟨true, false, false, false, false⟩

/-- CSR_FCSR with the sticky flags of an operation set (R91). -/
def fcsrSet (w : Word) (f : FFlags) : Word :=
  w ||| BitVec.ofNat 32 (f.iv.toNat * 2 ^ 12 + f.dz.toNat * 2 ^ 11 + f.ov.toNat * 2 ^ 10 + f.un.toNat * 2 ^ 9
    + f.ix.toNat * 2 ^ 8)

/-- CSR_ACCSTAT with QS set where the flag says so (R92). -/
def accstatQs (w : Word) (qs : Bool) : Word := if qs then w ||| 0x100#32 else w

/-- CSR_ACCSTAT with AVn set where the flag says so (R92). -/
def accstatAv (w : Word) (n : Nat) (av : Bool) : Word := if av then w ||| BitVec.ofNat 32 (2 ^ n) else w

end Sys2Proof.Machine
end

