-- ==== Sys2Proof/Machine/Operands.lean ====
section
/-!
DEFINITION. The Jenmel operand forms: the opcode map of R67 and R109, the formats of R57 and R106, the operand kinds of
R59, R70, R72, R78 and R107, the issue classes of R55 and R108, the profiles of R66 and the speculative status of R69.
-/

namespace Sys2Proof.Machine

/-- The operations of Jenmel. -/
inductive Op where
  | nop | fence | waitInt | syscall | hret | add | sub | and | or | xor | andn | sll
  | srl | sra | ror | slt | sltu | min | max | minu | maxu | adds | subs | abs
  | clz | popc | mul | muld | muldu | muldm | div | divu | rem | remu | qmul | qmul2
  | ceq | cne | clt | cge | cltu | cgeu | pand | por | pxor | pandn | prd | pwr
  | addi | andi | ori | xori | slti | sltiu | lui | shi | cmpi | csrr | csrw | ldb
  | ldbu | ldh | ldhu | ldw | ldd | ldf | stb | sth | stw | std | stf | atxch
  | atadd | atand | ator | atxor | atmax | atmin | atcas | atadds | atring | mac | msu | macz
  | mac2 | msu2 | accld | accr | accrl | accrh | accrg | accwl | accwh | accwg | accadd | accsub
  | accmv | accsh | accclr | fadd | fsub | fmul | fdiv | fsqrt | fma | fms | fmin | fmax
  | fabs | fneg | fmov | fcvtsw | fcvtws | fcvtqs | fcvtsq | fmvgf | fmvfg | feq | flt | fle
  | fun | br | call | jr | jalr | qpush | qpop | qstat | xlq | xlinv | xlinva | samp
  | pred | spec | commit | squash | yield | pwmw | trace | traced | openCtx | closeCtx | ctxq | clarke
  | clarke3 | park | ipark | sincos | symcomp | pllstep | prof | sat | limit | rsqrt
  deriving DecidableEq, Repr

/-- Issue classes (R55, R108). -/
inductive Cls where
  | I | MD | AC | FP | MEM | BR | XR | XS | XT
  deriving DecidableEq, Repr

/-- Instruction formats (R57); X has the layout of RRR (R106). -/
inductive Fmt where
  | rrr | ri | m | b
  deriving DecidableEq, Repr

/-- Profiles that have an operation (R66): every profile, R and S, R alone, S alone. -/
inductive Has where
  | all | rs | r | s
  deriving DecidableEq, Repr

/-- Speculative status (R69). -/
inductive SpecS where
  | S | A | N
  deriving DecidableEq, Repr

/-- What a register field names. -/
inductive OKind where
  /-- not used, no rule on its bits -/
  | any
  /-- must be 0 -/
  | zero
  /-- a G register; a pair, a quad of them (R72, R107) -/
  | g | gPair | gQuad
  /-- sources in the field [25:21] of a store -/
  | gSrc | gPairSrc | fSrc
  /-- A, F, K registers, unused upper bits 0 (R59) -/
  | a | f | k
  /-- K1 to K7 together (R71) -/
  | kAll
  /-- CMPI: condition and K register -/
  | kCond
  /-- CSRW: mode 0 to 2 (R86) -/
  | mode
  /-- five-bit immediate; component or node number with bit 4 zero (R109) -/
  | imm | node
  deriving DecidableEq, Repr

/-- One row of the opcode map. -/
structure OpRow where
  major : Nat
  fn : Option Nat
  fmt : Fmt
  cls : Cls
  has : Has
  spec : SpecS
  dk : OKind
  s1k : OKind
  s2k : OKind
  deriving DecidableEq, Repr

/-- The opcode map (R67, R109) with each operation's form. -/
def opRow : Op → OpRow
  | .nop => ⟨0x00, some 0x00, .rrr, .I, .all, .S, .any, .any, .any⟩
  | .fence => ⟨0x00, some 0x01, .rrr, .MEM, .all, .N, .any, .any, .any⟩
  | .waitInt => ⟨0x00, some 0x02, .rrr, .BR, .all, .N, .any, .any, .any⟩
  | .syscall => ⟨0x00, some 0x03, .rrr, .BR, .all, .N, .any, .any, .any⟩
  | .hret => ⟨0x00, some 0x04, .rrr, .BR, .all, .N, .any, .any, .any⟩
  | .add => ⟨0x01, some 0x00, .rrr, .I, .all, .S, .g, .g, .g⟩
  | .sub => ⟨0x01, some 0x01, .rrr, .I, .all, .S, .g, .g, .g⟩
  | .and => ⟨0x01, some 0x02, .rrr, .I, .all, .S, .g, .g, .g⟩
  | .or => ⟨0x01, some 0x03, .rrr, .I, .all, .S, .g, .g, .g⟩
  | .xor => ⟨0x01, some 0x04, .rrr, .I, .all, .S, .g, .g, .g⟩
  | .andn => ⟨0x01, some 0x05, .rrr, .I, .all, .S, .g, .g, .g⟩
  | .sll => ⟨0x01, some 0x06, .rrr, .I, .all, .S, .g, .g, .g⟩
  | .srl => ⟨0x01, some 0x07, .rrr, .I, .all, .S, .g, .g, .g⟩
  | .sra => ⟨0x01, some 0x08, .rrr, .I, .all, .S, .g, .g, .g⟩
  | .ror => ⟨0x01, some 0x09, .rrr, .I, .all, .S, .g, .g, .g⟩
  | .slt => ⟨0x01, some 0x0A, .rrr, .I, .all, .S, .g, .g, .g⟩
  | .sltu => ⟨0x01, some 0x0B, .rrr, .I, .all, .S, .g, .g, .g⟩
  | .min => ⟨0x01, some 0x0C, .rrr, .I, .all, .S, .g, .g, .g⟩
  | .max => ⟨0x01, some 0x0D, .rrr, .I, .all, .S, .g, .g, .g⟩
  | .minu => ⟨0x01, some 0x0E, .rrr, .I, .all, .S, .g, .g, .g⟩
  | .maxu => ⟨0x01, some 0x0F, .rrr, .I, .all, .S, .g, .g, .g⟩
  | .adds => ⟨0x01, some 0x10, .rrr, .I, .all, .S, .g, .g, .g⟩
  | .subs => ⟨0x01, some 0x11, .rrr, .I, .all, .S, .g, .g, .g⟩
  | .abs => ⟨0x01, some 0x12, .rrr, .I, .all, .S, .g, .g, .any⟩
  | .clz => ⟨0x01, some 0x13, .rrr, .I, .all, .S, .g, .g, .any⟩
  | .popc => ⟨0x01, some 0x14, .rrr, .I, .all, .S, .g, .g, .any⟩
  | .mul => ⟨0x02, some 0x00, .rrr, .MD, .all, .S, .g, .g, .g⟩
  | .muld => ⟨0x02, some 0x01, .rrr, .MD, .all, .S, .gPair, .g, .g⟩
  | .muldu => ⟨0x02, some 0x02, .rrr, .MD, .all, .S, .gPair, .g, .g⟩
  | .muldm => ⟨0x02, some 0x03, .rrr, .MD, .all, .S, .gPair, .g, .g⟩
  | .div => ⟨0x02, some 0x04, .rrr, .MD, .all, .S, .g, .g, .g⟩
  | .divu => ⟨0x02, some 0x05, .rrr, .MD, .all, .S, .g, .g, .g⟩
  | .rem => ⟨0x02, some 0x06, .rrr, .MD, .all, .S, .g, .g, .g⟩
  | .remu => ⟨0x02, some 0x07, .rrr, .MD, .all, .S, .g, .g, .g⟩
  | .qmul => ⟨0x02, some 0x08, .rrr, .MD, .all, .S, .g, .g, .g⟩
  | .qmul2 => ⟨0x02, some 0x09, .rrr, .MD, .all, .S, .g, .g, .g⟩
  | .ceq => ⟨0x03, some 0x00, .rrr, .I, .all, .S, .k, .g, .g⟩
  | .cne => ⟨0x03, some 0x01, .rrr, .I, .all, .S, .k, .g, .g⟩
  | .clt => ⟨0x03, some 0x02, .rrr, .I, .all, .S, .k, .g, .g⟩
  | .cge => ⟨0x03, some 0x03, .rrr, .I, .all, .S, .k, .g, .g⟩
  | .cltu => ⟨0x03, some 0x04, .rrr, .I, .all, .S, .k, .g, .g⟩
  | .cgeu => ⟨0x03, some 0x05, .rrr, .I, .all, .S, .k, .g, .g⟩
  | .pand => ⟨0x03, some 0x08, .rrr, .I, .all, .S, .k, .k, .k⟩
  | .por => ⟨0x03, some 0x09, .rrr, .I, .all, .S, .k, .k, .k⟩
  | .pxor => ⟨0x03, some 0x0A, .rrr, .I, .all, .S, .k, .k, .k⟩
  | .pandn => ⟨0x03, some 0x0B, .rrr, .I, .all, .S, .k, .k, .k⟩
  | .prd => ⟨0x03, some 0x0C, .rrr, .I, .all, .S, .g, .any, .any⟩
  | .pwr => ⟨0x03, some 0x0D, .rrr, .I, .all, .S, .kAll, .g, .any⟩
  | .addi => ⟨0x04, none, .ri, .I, .all, .S, .g, .g, .any⟩
  | .andi => ⟨0x05, none, .ri, .I, .all, .S, .g, .g, .any⟩
  | .ori => ⟨0x06, none, .ri, .I, .all, .S, .g, .g, .any⟩
  | .xori => ⟨0x07, none, .ri, .I, .all, .S, .g, .g, .any⟩
  | .slti => ⟨0x08, none, .ri, .I, .all, .S, .g, .g, .any⟩
  | .sltiu => ⟨0x09, none, .ri, .I, .all, .S, .g, .g, .any⟩
  | .lui => ⟨0x0A, none, .ri, .I, .all, .S, .g, .zero, .any⟩
  | .shi => ⟨0x0B, none, .ri, .I, .all, .S, .g, .g, .any⟩
  | .cmpi => ⟨0x0C, none, .ri, .I, .all, .S, .kCond, .g, .any⟩
  | .csrr => ⟨0x0E, none, .ri, .MEM, .all, .S, .g, .any, .any⟩
  | .csrw => ⟨0x0F, none, .ri, .MEM, .all, .N, .mode, .g, .any⟩
  | .ldb => ⟨0x10, none, .m, .MEM, .all, .A, .g, .g, .any⟩
  | .ldbu => ⟨0x11, none, .m, .MEM, .all, .A, .g, .g, .any⟩
  | .ldh => ⟨0x12, none, .m, .MEM, .all, .A, .g, .g, .any⟩
  | .ldhu => ⟨0x13, none, .m, .MEM, .all, .A, .g, .g, .any⟩
  | .ldw => ⟨0x14, none, .m, .MEM, .all, .A, .g, .g, .any⟩
  | .ldd => ⟨0x15, none, .m, .MEM, .all, .A, .gPair, .g, .any⟩
  | .ldf => ⟨0x16, none, .m, .MEM, .rs, .A, .f, .g, .any⟩
  | .stb => ⟨0x18, none, .m, .MEM, .all, .A, .gSrc, .g, .any⟩
  | .sth => ⟨0x19, none, .m, .MEM, .all, .A, .gSrc, .g, .any⟩
  | .stw => ⟨0x1A, none, .m, .MEM, .all, .A, .gSrc, .g, .any⟩
  | .std => ⟨0x1B, none, .m, .MEM, .all, .A, .gPairSrc, .g, .any⟩
  | .stf => ⟨0x1C, none, .m, .MEM, .rs, .A, .fSrc, .g, .any⟩
  | .atxch => ⟨0x1D, some 0x00, .rrr, .MEM, .rs, .N, .g, .g, .g⟩
  | .atadd => ⟨0x1D, some 0x01, .rrr, .MEM, .rs, .N, .g, .g, .g⟩
  | .atand => ⟨0x1D, some 0x02, .rrr, .MEM, .rs, .N, .g, .g, .g⟩
  | .ator => ⟨0x1D, some 0x03, .rrr, .MEM, .rs, .N, .g, .g, .g⟩
  | .atxor => ⟨0x1D, some 0x04, .rrr, .MEM, .rs, .N, .g, .g, .g⟩
  | .atmax => ⟨0x1D, some 0x05, .rrr, .MEM, .rs, .N, .g, .g, .g⟩
  | .atmin => ⟨0x1D, some 0x06, .rrr, .MEM, .rs, .N, .g, .g, .g⟩
  | .atcas => ⟨0x1D, some 0x07, .rrr, .MEM, .rs, .N, .g, .g, .gPair⟩
  | .atadds => ⟨0x1D, some 0x08, .rrr, .MEM, .rs, .N, .g, .g, .g⟩
  | .atring => ⟨0x1D, some 0x09, .rrr, .MEM, .rs, .N, .g, .g, .g⟩
  | .mac => ⟨0x20, some 0x00, .rrr, .AC, .all, .S, .a, .g, .g⟩
  | .msu => ⟨0x20, some 0x01, .rrr, .AC, .all, .S, .a, .g, .g⟩
  | .macz => ⟨0x20, some 0x02, .rrr, .AC, .all, .S, .a, .g, .g⟩
  | .mac2 => ⟨0x20, some 0x04, .rrr, .AC, .all, .S, .a, .g, .g⟩
  | .msu2 => ⟨0x20, some 0x05, .rrr, .AC, .all, .S, .a, .g, .g⟩
  | .accld => ⟨0x20, some 0x08, .rrr, .AC, .all, .S, .a, .g, .any⟩
  | .accr => ⟨0x20, some 0x10, .rrr, .AC, .all, .S, .g, .a, .imm⟩
  | .accrl => ⟨0x20, some 0x12, .rrr, .AC, .all, .S, .g, .a, .any⟩
  | .accrh => ⟨0x20, some 0x13, .rrr, .AC, .all, .S, .g, .a, .any⟩
  | .accrg => ⟨0x20, some 0x14, .rrr, .AC, .all, .S, .g, .a, .any⟩
  | .accwl => ⟨0x20, some 0x15, .rrr, .AC, .all, .S, .a, .g, .any⟩
  | .accwh => ⟨0x20, some 0x16, .rrr, .AC, .all, .S, .a, .g, .any⟩
  | .accwg => ⟨0x20, some 0x17, .rrr, .AC, .all, .S, .a, .g, .any⟩
  | .accadd => ⟨0x20, some 0x18, .rrr, .AC, .all, .S, .a, .a, .any⟩
  | .accsub => ⟨0x20, some 0x19, .rrr, .AC, .all, .S, .a, .a, .any⟩
  | .accmv => ⟨0x20, some 0x1A, .rrr, .AC, .all, .S, .a, .a, .any⟩
  | .accsh => ⟨0x20, some 0x1B, .rrr, .AC, .all, .S, .a, .any, .imm⟩
  | .accclr => ⟨0x20, some 0x1C, .rrr, .AC, .all, .S, .a, .any, .any⟩
  | .fadd => ⟨0x24, some 0x00, .rrr, .FP, .rs, .S, .f, .f, .f⟩
  | .fsub => ⟨0x24, some 0x01, .rrr, .FP, .rs, .S, .f, .f, .f⟩
  | .fmul => ⟨0x24, some 0x02, .rrr, .FP, .rs, .S, .f, .f, .f⟩
  | .fdiv => ⟨0x24, some 0x03, .rrr, .FP, .rs, .S, .f, .f, .f⟩
  | .fsqrt => ⟨0x24, some 0x04, .rrr, .FP, .rs, .S, .f, .f, .zero⟩
  | .fma => ⟨0x24, some 0x05, .rrr, .FP, .rs, .S, .f, .f, .f⟩
  | .fms => ⟨0x24, some 0x06, .rrr, .FP, .rs, .S, .f, .f, .f⟩
  | .fmin => ⟨0x24, some 0x07, .rrr, .FP, .rs, .S, .f, .f, .f⟩
  | .fmax => ⟨0x24, some 0x08, .rrr, .FP, .rs, .S, .f, .f, .f⟩
  | .fabs => ⟨0x24, some 0x09, .rrr, .FP, .rs, .S, .f, .f, .any⟩
  | .fneg => ⟨0x24, some 0x0A, .rrr, .FP, .rs, .S, .f, .f, .any⟩
  | .fmov => ⟨0x24, some 0x0B, .rrr, .FP, .rs, .S, .f, .f, .any⟩
  | .fcvtsw => ⟨0x24, some 0x10, .rrr, .FP, .rs, .S, .f, .g, .any⟩
  | .fcvtws => ⟨0x24, some 0x11, .rrr, .FP, .rs, .S, .g, .f, .any⟩
  | .fcvtqs => ⟨0x24, some 0x12, .rrr, .FP, .rs, .S, .g, .f, .any⟩
  | .fcvtsq => ⟨0x24, some 0x13, .rrr, .FP, .rs, .S, .f, .g, .any⟩
  | .fmvgf => ⟨0x24, some 0x14, .rrr, .FP, .rs, .S, .g, .f, .any⟩
  | .fmvfg => ⟨0x24, some 0x15, .rrr, .FP, .rs, .S, .f, .g, .any⟩
  | .feq => ⟨0x24, some 0x18, .rrr, .FP, .rs, .S, .k, .f, .f⟩
  | .flt => ⟨0x24, some 0x19, .rrr, .FP, .rs, .S, .k, .f, .f⟩
  | .fle => ⟨0x24, some 0x1A, .rrr, .FP, .rs, .S, .k, .f, .f⟩
  | .fun => ⟨0x24, some 0x1B, .rrr, .FP, .rs, .S, .k, .f, .f⟩
  | .br => ⟨0x30, none, .b, .BR, .all, .S, .any, .any, .any⟩
  | .call => ⟨0x31, none, .b, .BR, .all, .S, .any, .any, .any⟩
  | .jr => ⟨0x32, some 0x00, .rrr, .BR, .all, .S, .any, .g, .any⟩
  | .jalr => ⟨0x32, some 0x01, .rrr, .BR, .all, .S, .g, .g, .any⟩
  | .qpush => ⟨0x28, some 0x00, .rrr, .MEM, .rs, .N, .g, .g, .g⟩
  | .qpop => ⟨0x28, some 0x01, .rrr, .MEM, .rs, .N, .g, .g, .g⟩
  | .qstat => ⟨0x28, some 0x02, .rrr, .MEM, .rs, .N, .g, .any, .g⟩
  | .xlq => ⟨0x29, some 0x00, .rrr, .MEM, .s, .N, .g, .g, .g⟩
  | .xlinv => ⟨0x29, some 0x01, .rrr, .MEM, .s, .N, .any, .g, .any⟩
  | .xlinva => ⟨0x29, some 0x02, .rrr, .MEM, .s, .N, .any, .any, .any⟩
  | .samp => ⟨0x38, some 0x00, .rrr, .XS, .r, .S, .g, .zero, .node⟩
  | .pred => ⟨0x38, some 0x01, .rrr, .XS, .r, .S, .zero, .g, .node⟩
  | .spec => ⟨0x38, some 0x02, .rrr, .XR, .r, .S, .g, .zero, .zero⟩
  | .commit => ⟨0x38, some 0x03, .rrr, .XR, .r, .N, .g, .zero, .zero⟩
  | .squash => ⟨0x38, some 0x04, .rrr, .XR, .r, .S, .zero, .zero, .zero⟩
  | .yield => ⟨0x38, some 0x05, .rrr, .XR, .r, .N, .zero, .zero, .zero⟩
  | .pwmw => ⟨0x38, some 0x08, .rrr, .XS, .r, .S, .zero, .g, .g⟩
  | .trace => ⟨0x38, some 0x09, .rrr, .XS, .r, .N, .g, .g, .node⟩
  | .traced => ⟨0x38, some 0x0A, .rrr, .XS, .r, .N, .g, .gPair, .node⟩
  | .openCtx => ⟨0x39, some 0x00, .rrr, .XR, .r, .N, .g, .g, .zero⟩
  | .closeCtx => ⟨0x39, some 0x01, .rrr, .XR, .r, .N, .g, .g, .zero⟩
  | .ctxq => ⟨0x39, some 0x02, .rrr, .XR, .r, .S, .g, .g, .zero⟩
  | .clarke => ⟨0x3A, some 0x00, .rrr, .XT, .r, .S, .gPair, .g, .g⟩
  | .clarke3 => ⟨0x3A, some 0x01, .rrr, .XT, .r, .S, .gPair, .gPair, .g⟩
  | .park => ⟨0x3A, some 0x02, .rrr, .XT, .r, .S, .gPair, .gPair, .g⟩
  | .ipark => ⟨0x3A, some 0x03, .rrr, .XT, .r, .S, .gPair, .gPair, .g⟩
  | .sincos => ⟨0x3A, some 0x04, .rrr, .XT, .r, .S, .gPair, .g, .zero⟩
  | .symcomp => ⟨0x3A, some 0x05, .rrr, .XT, .r, .S, .gQuad, .gQuad, .zero⟩
  | .pllstep => ⟨0x3B, some 0x00, .rrr, .MEM, .r, .A, .gPair, .g, .g⟩
  | .prof => ⟨0x3B, some 0x01, .rrr, .MEM, .r, .A, .g, .g, .g⟩
  | .sat => ⟨0x3C, some 0x00, .rrr, .I, .r, .S, .g, .g, .imm⟩
  | .limit => ⟨0x3C, some 0x01, .rrr, .I, .r, .S, .g, .g, .gPair⟩
  | .rsqrt => ⟨0x3C, some 0x02, .rrr, .FP, .r, .S, .f, .f, .zero⟩

/-- Every operation, in the order of the map. -/
def allOps : List Op := [
  .nop, .fence, .waitInt, .syscall, .hret, .add, .sub, .and, .or, .xor, .andn, .sll,
  .srl, .sra, .ror, .slt, .sltu, .min, .max, .minu, .maxu, .adds, .subs, .abs,
  .clz, .popc, .mul, .muld, .muldu, .muldm, .div, .divu, .rem, .remu, .qmul, .qmul2,
  .ceq, .cne, .clt, .cge, .cltu, .cgeu, .pand, .por, .pxor, .pandn, .prd, .pwr,
  .addi, .andi, .ori, .xori, .slti, .sltiu, .lui, .shi, .cmpi, .csrr, .csrw, .ldb,
  .ldbu, .ldh, .ldhu, .ldw, .ldd, .ldf, .stb, .sth, .stw, .std, .stf, .atxch,
  .atadd, .atand, .ator, .atxor, .atmax, .atmin, .atcas, .atadds, .atring, .mac, .msu, .macz,
  .mac2, .msu2, .accld, .accr, .accrl, .accrh, .accrg, .accwl, .accwh, .accwg, .accadd, .accsub,
  .accmv, .accsh, .accclr, .fadd, .fsub, .fmul, .fdiv, .fsqrt, .fma, .fms, .fmin, .fmax,
  .fabs, .fneg, .fmov, .fcvtsw, .fcvtws, .fcvtqs, .fcvtsq, .fmvgf, .fmvfg, .feq, .flt, .fle,
  .fun, .br, .call, .jr, .jalr, .qpush, .qpop, .qstat, .xlq, .xlinv, .xlinva, .samp,
  .pred, .spec, .commit, .squash, .yield, .pwmw, .trace, .traced, .openCtx, .closeCtx, .ctxq, .clarke,
  .clarke3, .park, .ipark, .sincos, .symcomp, .pllstep, .prof, .sat, .limit, .rsqrt]

/-- A decoded instruction: the operation, the raw register fields, the guard (0 where the format has none, R60), the
immediate or offset field of its format, and the word. -/
structure Insn where
  op : Op
  d : Nat
  s1 : Nat
  s2 : Nat
  guard : Nat
  imm : Nat
  word : Word
  deriving DecidableEq, Repr

/-- Whether a word's major opcode and function code select an operation. -/
def opMatches (w : Nat) (o : Op) : Bool :=
  let r := opRow o
  w / 2 ^ 26 == r.major && (match r.fn with | none => true | some f => w % 128 == f)

/-- The fields of a word under an operation's format (R57). -/
def insnOf (o : Op) (w : Word) : Insn :=
  let n := w.toNat
  match (opRow o).fmt with
  | .rrr => ⟨o, bitsOf n 25 21, bitsOf n 20 16, bitsOf n 15 11, bitsOf n 10 7, bitsOf n 15 11, w⟩
  | .ri => ⟨o, bitsOf n 25 21, bitsOf n 20 16, 0, 0, bitsOf n 15 0, w⟩
  | .m => ⟨o, bitsOf n 25 21, bitsOf n 20 16, 0, bitsOf n 15 12, bitsOf n 11 0, w⟩
  | .b => ⟨o, bitsOf n 25 25, 0, 0, bitsOf n 24 21, bitsOf n 20 0, w⟩

/-- The operation a word selects, with its fields; none for a reserved major or function code (R58). -/
def decodeInsn (w : Word) : Option Insn :=
  (allOps.find? (opMatches w.toNat)).map (fun o => insnOf o w)

/-- The word of an RRR or X instruction (R57, R106). -/
def wordRrr (o : Op) (f : Rrr) : Word :=
  BitVec.ofNat 32 ((opRow o).major * 2 ^ 26 + f.d.toNat * 2 ^ 21 + f.s1.toNat * 2 ^ 16 + f.s2.toNat * 2 ^ 11
    + f.g.toNat * 2 ^ 7 + (opRow o).fn.getD 0)

/-- The word of an RI instruction (R57). -/
def wordRi (o : Op) (d s1 : BitVec 5) (imm : BitVec 16) : Word :=
  BitVec.ofNat 32 ((opRow o).major * 2 ^ 26 + d.toNat * 2 ^ 21 + s1.toNat * 2 ^ 16 + imm.toNat)

/-- The word of an M instruction (R57). -/
def wordM (o : Op) (f : Mf) : Word :=
  BitVec.ofNat 32 ((opRow o).major * 2 ^ 26 + f.t.toNat * 2 ^ 21 + f.base.toNat * 2 ^ 16 + f.g.toNat * 2 ^ 12
    + f.off.toNat)

/-- The word of a B instruction (R57). -/
def wordB (o : Op) (f : Bf) : Word :=
  BitVec.ofNat 32 ((opRow o).major * 2 ^ 26 + f.z.toNat * 2 ^ 25 + f.g.toNat * 2 ^ 21 + f.off.toNat)

/-- A row's instruction in RRR or X format. -/
def insnRrr (o : Op) (f : Rrr) : Insn :=
  ⟨o, f.d.toNat, f.s1.toNat, f.s2.toNat, f.g.toNat, f.s2.toNat, wordRrr o f⟩

/-- A row's instruction in RI format. -/
def insnRi (o : Op) (d s1 : BitVec 5) (imm : BitVec 16) : Insn :=
  ⟨o, d.toNat, s1.toNat, 0, 0, imm.toNat, wordRi o d s1 imm⟩

/-- A row's instruction in M format. -/
def insnM (o : Op) (f : Mf) : Insn := ⟨o, f.t.toNat, f.base.toNat, 0, f.g.toNat, f.off.toNat, wordM o f⟩

/-- A row's instruction in B format. -/
def insnB (o : Op) (f : Bf) : Insn := ⟨o, f.z.toNat, 0, 0, f.g.toNat, f.off.toNat, wordB o f⟩

/-- Profile of a core (R66): 0 R, 1 S, 2 W (the PROFILE codes of R93). -/
def profileOf (c : Nat) : Nat := if c < 8 then 0 else if c < 10 then 1 else 2

/-- Whether a profile has an operation (R66). -/
def hasOp (p : Nat) (h : Has) : Bool :=
  match h with
  | .all => true
  | .rs => p < 2
  | .r => p = 0
  | .s => p = 1

/-- Whether a field satisfies its kind (R58, R59, R72, R107). -/
def kindOk (k : OKind) (v : Nat) : Bool :=
  match k with
  | .any | .g | .gSrc | .kAll | .kCond | .imm => true
  | .zero => v = 0
  | .gPair | .gPairSrc => v % 2 = 0
  | .gQuad => v % 4 = 0
  | .a | .k => v < 8
  | .f | .fSrc | .node => v < 16
  | .mode => v < 3

/-- Whether a CSR number exists on a profile (R88, R140). -/
def csrExists (p n : Nat) : Bool :=
  n < 7 || n = 0x11 || n = 0x20 || n = 0x21 || n = 0x30
    || (n = 0x10 && p < 2) || (n = 0x40 && p = 1) || (p = 1 && decide (0x200 ≤ n ∧ n < 0x240))
    || (p = 0 && decide (0x100 ≤ n ∧ n < 0x104))

/-- Whether an instruction is legal on a profile (R58, R66, R86, R88 and the operand rules). -/
def legalInsn (p : Nat) (i : Insn) : Bool :=
  let r := opRow i.op
  hasOp p r.has && kindOk r.s1k i.s1 && kindOk r.s2k i.s2
    && (if r.fmt = .b then i.d = 0 else kindOk r.dk i.d)
    && (match i.op with
        | .shi => i.imm < 128
        | .csrr | .csrw => i.imm < 0x1000 && csrExists p i.imm
        | _ => true)

/-- The registers an operand kind writes: file (0 G, 1 A, 2 F, 3 K) and number; G0 and K0 are exempt (R56, R71). -/
def kindDests (k : OKind) (v : Nat) : List (Nat × Nat) :=
  (match k with
    | .g => [(0, v)]
    | .gPair => [(0, v), (0, v + 1)]
    | .gQuad => [(0, v), (0, v + 1), (0, v + 2), (0, v + 3)]
    | .a => [(1, v)]
    | .f => [(2, v)]
    | .k => [(3, v)]
    | .kCond => [(3, v % 8)]
    | .kAll => [(3, 1), (3, 2), (3, 3), (3, 4), (3, 5), (3, 6), (3, 7)]
    | _ => []).filter (fun x => x ≠ (0, 0) ∧ x ≠ (3, 0))

/-- The destinations of an instruction (R56); CALL writes G31 (R81). -/
def destsOf (i : Insn) : List (Nat × Nat) :=
  if i.op = .call then [(0, 31)] else kindDests (opRow i.op).dk i.d

/-- Whether an instruction's format carries a guard (R60). -/
def hasGuard (i : Insn) : Bool := (opRow i.op).fmt ≠ .ri

/-- Whether two slots carry guards on one predicate with opposite senses (R56). -/
def oppositeGuards (a b : Insn) : Bool := hasGuard a && hasGuard b && (a.guard ^^^ b.guard) = 8

/-- Whether a bundle breaks R55, R56 or R108. -/
def bundleBad (a b : Insn) : Bool :=
  let ca := (opRow a.op).cls
  let cb := (opRow b.op).cls
  ca = .BR || ca = .XR || (ca = cb && ca ≠ .I)
    || ((destsOf a).any (fun x => (destsOf b).contains x) && !oppositeGuards a b)

/-- The sign-extended offset of an M instruction (R73) or immediate of an RI instruction. -/
def immSigned (i : Insn) : Int :=
  match (opRow i.op).fmt with
  | .m => sextNat 12 i.imm
  | .b => sextNat 21 i.imm
  | _ => sextNat 16 i.imm

end Sys2Proof.Machine
end

