-- ==== Sys2Proof/Machine/Alu.lean ====
section
/-!
DEFINITION. Results of the integer, immediate, compare and predicate operations (R68 to R71) and of SAT and LIMIT (R137).
-/

namespace Sys2Proof.Machine

/-- SLL, SRL, SRA, ROR by an amount below 32 (R68); SHI's codes 0 to 3 in that order. -/
def shiftVal (kind : Nat) (a : Word) (n : Nat) : Word :=
  if kind = 0 then a <<< n
  else if kind = 1 then a >>> n
  else if kind = 2 then a.sshiftRight n
  else a.rotateRight n

/-- A truth value as a word. -/
def boolWord (b : Bool) : Word := if b then 1#32 else 0#32

/-- d = sat32(s1 + s2) (R68). -/
def addsVal (a b : Word) : QRes := qSat (a.toInt + b.toInt)

/-- d = sat32(s1 - s2) (R68). -/
def subsVal (a b : Word) : QRes := qSat (a.toInt - b.toInt)

/-- d = sat32(|s1|) (R68). -/
def absVal (a : Word) : QRes := qSat (if a.toInt < 0 then -a.toInt else a.toInt)

/-- The integer operations of major 0x01 on two words (R68). -/
def aluVal (o : Op) (a b : Word) : QRes :=
  match o with
  | .add => qPlain (a + b)
  | .sub => qPlain (a - b)
  | .and => qPlain (a &&& b)
  | .or => qPlain (a ||| b)
  | .xor => qPlain (a ^^^ b)
  | .andn => qPlain (a &&& ~~~b)
  | .sll => qPlain (shiftVal 0 a (b.toNat % 32))
  | .srl => qPlain (shiftVal 1 a (b.toNat % 32))
  | .sra => qPlain (shiftVal 2 a (b.toNat % 32))
  | .ror => qPlain (shiftVal 3 a (b.toNat % 32))
  | .slt => qPlain (boolWord (a.slt b))
  | .sltu => qPlain (boolWord (a.ult b))
  | .min => qPlain (if a.slt b then a else b)
  | .max => qPlain (if a.slt b then b else a)
  | .minu => qPlain (if a.ult b then a else b)
  | .maxu => qPlain (if a.ult b then b else a)
  | .adds => addsVal a b
  | .subs => subsVal a b
  | .abs => absVal a
  | .clz => qPlain (BitVec.ofNat 32 (leadZeros 32 a.toNat))
  | .popc => qPlain (BitVec.ofNat 32 (popCount 32 a.toNat))
  | _ => qPlain 0

/-- The immediate forms (R68): `imm` is the raw 16-bit field. -/
def immVal (o : Op) (a : Word) (imm : Nat) : Word :=
  match o with
  | .addi => a + wordOfInt (sextNat 16 imm)
  | .andi => a &&& BitVec.ofNat 32 imm
  | .ori => a ||| BitVec.ofNat 32 imm
  | .xori => a ^^^ BitVec.ofNat 32 imm
  | .slti => boolWord (a.slt (wordOfInt (sextNat 16 imm)))
  | .sltiu => boolWord (a.ult (wordOfInt (sextNat 16 imm)))
  | .lui => BitVec.ofNat 32 (imm * 2 ^ 16)
  | .shi => shiftVal (bitsOf imm 6 5) a (imm % 32)
  | _ => 0

/-- CMPI: K = s1 cond sext(imm), the condition in d[4:3] (R68). -/
def cmpiVal (cond : Nat) (a : Word) (imm : Nat) : Bool :=
  let b := wordOfInt (sextNat 16 imm)
  if cond = 0 then a == b else if cond = 1 then a != b else if cond = 2 then a.slt b else a.ult b

/-- The compares of major 0x03 (R70). -/
def cmpVal (o : Op) (a b : Word) : Bool :=
  match o with
  | .ceq => a == b
  | .cne => a != b
  | .clt => a.slt b
  | .cge => !a.slt b
  | .cltu => a.ult b
  | .cgeu => !a.ult b
  | _ => false

/-- The predicate logic of major 0x03 (R70). -/
def predVal (o : Op) (a b : Bool) : Bool :=
  match o with
  | .pand => a && b
  | .por => a || b
  | .pxor => xor a b
  | .pandn => a && !b
  | _ => false

/-- SAT: clamp to the signed range of n + 1 bits (R137). -/
def satVal (a : Word) (n : Nat) : QRes := ⟨wordOfInt (satInt (n + 1) a.toInt), satFlag (n + 1) a.toInt⟩

/-- LIMIT: max(lower, min(upper, s1)) (R137). -/
def limitVal (a lo hi : Word) : QRes :=
  let m := if a.slt hi then a else hi
  let r := if m.slt lo then lo else m
  ⟨r, r != a⟩

end Sys2Proof.Machine
end

