-- ==== Sys2Proof/Machine/Float.lean ====
section
/-!
DEFINITION. The float operations: IEEE 754-2019 binary32 with the NaN rules of R80, and RSQRT (R138). Values are taken
apart into integers, results computed exactly and rounded once.
-/

namespace Sys2Proof.Machine

/-- A float taken apart: NaN with its bits, infinity, or (-1)^s * m * 2^e with m = 0 for a zero. -/
inductive FVal where
  | nan (w : Word)
  | inf (s : Bool)
  | fin (s : Bool) (m : Nat) (e : Int)
  deriving DecidableEq, Repr

/-- A float result with its exceptions. -/
structure FRes where
  val : Word
  fl : FFlags
  deriving DecidableEq, Repr

/-- The default NaN (R80). -/
def fDefaultNan : Word := 0x7FE00000#32

/-- Sign bit of a float. -/
def fSign (w : Word) : Bool := bitAt w 31

/-- Take a float apart. -/
def fUnpack (w : Word) : FVal :=
  let ex := fieldOf w 30 23
  let fr := fieldOf w 22 0
  if ex = 255 then (if fr = 0 then .inf (fSign w) else .nan w)
  else if ex = 0 then .fin (fSign w) fr (-149)
  else .fin (fSign w) (fr + 2 ^ 23) ((ex : Int) - 150)

/-- A NaN is signalling when its quiet bit is 0. -/
def fIsSnan (w : Word) : Bool :=
  match fUnpack w with
  | .nan x => !bitAt x 22
  | _ => false

/-- Whether a float is a NaN. -/
def fIsNan (w : Word) : Bool :=
  match fUnpack w with
  | .nan _ => true
  | _ => false

/-- A NaN with its quiet bit set. -/
def fQuiet (w : Word) : Word := w ||| 0x00400000#32

/-- A signed infinity, a signed zero, the largest finite number. -/
def fInf (s : Bool) : Word := if s then 0xFF800000#32 else 0x7F800000#32
def fZero (s : Bool) : Word := if s then 0x80000000#32 else 0#32
def fMaxFin (s : Bool) : Word := if s then 0xFF7FFFFF#32 else 0x7F7FFFFF#32

/-- Whether a discarded part rounds the magnitude up: `rnd` is CSR_FCSR.RND (R91), `odd` the last kept bit, `cmp` how
the discarded part compares with one half (0 below, 1 equal, 2 above), `any` whether it is not zero. -/
def fRoundUp (rnd : Nat) (s odd : Bool) (cmp : Nat) (any : Bool) : Bool :=
  if rnd = 1 then 1 ≤ cmp
  else if rnd = 2 then any && !s
  else if rnd = 3 then any && s
  else if rnd = 4 then false
  else cmp = 2 || (cmp = 1 && odd)

/-- Drop `k` bits of a magnitude, with `sticky` for a nonzero part below it: the kept part, how the dropped part
compares with one half, and whether it is not zero. -/
def fDrop (m k : Nat) (sticky : Bool) : Nat × Nat × Bool :=
  let r := m % 2 ^ k
  let any := r ≠ 0 || sticky
  let c := if 2 * r < 2 ^ k then 0 else if 2 * r = 2 ^ k then (if sticky then 2 else 1) else 2
  (m / 2 ^ k, c, any)

/-- The result on overflow by rounding mode. -/
def fOverflow (rnd : Nat) (s : Bool) : FRes :=
  ⟨if rnd = 4 ∨ (rnd = 2 ∧ s) ∨ (rnd = 3 ∧ !s) then fMaxFin s else fInf s, ⟨false, false, true, false, true⟩⟩

/-- The bits of kept * 2^q, kept below 2^24 or equal to it. -/
def fPack (s : Bool) (kept : Nat) (q : Int) : Word :=
  let b := if kept < 2 ^ 23 then kept else (q + 149).toNat * 2 ^ 23 + kept
  BitVec.ofNat 32 (b + s.toNat * 2 ^ 31)

/-- Round (-1)^s * (m + a little when sticky) * 2^e to binary32; m > 0. -/
def fRound (rnd : Nat) (s : Bool) (m : Nat) (e : Int) (sticky : Bool) : FRes :=
  let lead := e + (Nat.log2 m : Int)
  let q := if lead - 23 < -149 then -149 else lead - 23
  let k := q - e
  let d := if k ≤ 0 then (m * 2 ^ (-k).toNat, 0, false) else fDrop m k.toNat sticky
  let up := fRoundUp rnd s (d.1 % 2 = 1) d.2.1 d.2.2
  let kept := d.1 + up.toNat
  -- the magnitude rounded as if the exponent had no lower bound, for tininess after rounding
  let qu := lead - 23
  let du := if qu - e ≤ 0 then (m * 2 ^ (e - qu).toNat, 0, false) else fDrop m (qu - e).toNat sticky
  let keptU := du.1 + (fRoundUp rnd s (du.1 % 2 = 1) du.2.1 du.2.2).toNat
  let tinyAfter := lead < -127 || (lead = -127 && keptU < 2 ^ 24)
  let tiny := if Config.tinyBefore then decide (lead < -126) else tinyAfter
  if 127 < q + 23 ∨ (q + 23 = 127 ∧ kept = 2 ^ 24) then fOverflow rnd s
  else ⟨fPack s kept q, ⟨false, false, false, d.2.2 && tiny && decide (lead < -126), d.2.2⟩⟩

/-- The NaN result of an operation: the first NaN operand quieted, IV for a signalling operand (R80). -/
def fNanRes (ops : List Word) : FRes :=
  match ops.find? fIsNan with
  | some w => ⟨fQuiet w, if ops.any fIsSnan then ffInvalid else ffNone⟩
  | none => ⟨fDefaultNan, ffInvalid⟩

/-- The invalid result without a NaN operand. -/
def fInvalidRes : FRes := ⟨fDefaultNan, ffInvalid⟩

/-- An exact result without flags. -/
def fExact (w : Word) : FRes := ⟨w, ffNone⟩

/-- Sum of two finite values, rounded; the sign of an exact zero as IEEE 754 gives it. -/
def fSum (rnd : Nat) (s1 : Bool) (m1 : Nat) (e1 : Int) (s2 : Bool) (m2 : Nat) (e2 : Int) : FRes :=
  let e := if e1 < e2 then e1 else e2
  let a : Int := (m1 * 2 ^ (e1 - e).toNat : Nat)
  let b : Int := (m2 * 2 ^ (e2 - e).toNat : Nat)
  let x := (if s1 then -a else a) + (if s2 then -b else b)
  if x = 0 then fExact (fZero (if s1 = s2 then s1 else rnd = 3))
  else fRound rnd (x < 0) x.natAbs e false

/-- FADD (R80). -/
def faddVal (rnd : Nat) (a b : Word) : FRes :=
  match fUnpack a, fUnpack b with
  | .nan _, _ => fNanRes [a, b]
  | _, .nan _ => fNanRes [a, b]
  | .inf s, .inf t => if s = t then fExact (fInf s) else fInvalidRes
  | .inf s, _ => fExact (fInf s)
  | _, .inf t => fExact (fInf t)
  | .fin s m e, .fin t n f => fSum rnd s m e t n f

/-- The float with its sign inverted (FNEG). -/
def fNeg (w : Word) : Word := w ^^^ 0x80000000#32

/-- FSUB (R80): the sum with the second operand's sign inverted, its NaN kept as it is. -/
def fsubVal (rnd : Nat) (a b : Word) : FRes :=
  if fIsNan a || fIsNan b then fNanRes [a, b] else faddVal rnd a (fNeg b)

/-- FMUL (R80). -/
def fmulVal (rnd : Nat) (a b : Word) : FRes :=
  match fUnpack a, fUnpack b with
  | .nan _, _ => fNanRes [a, b]
  | _, .nan _ => fNanRes [a, b]
  | .inf s, .inf t => fExact (fInf (xor s t))
  | .inf s, .fin t n _ => if n = 0 then fInvalidRes else fExact (fInf (xor s t))
  | .fin s m _, .inf t => if m = 0 then fInvalidRes else fExact (fInf (xor s t))
  | .fin s m e, .fin t n f =>
    if m * n = 0 then fExact (fZero (xor s t)) else fRound rnd (xor s t) (m * n) (e + f) false

/-- FDIV (R80). -/
def fdivVal (rnd : Nat) (a b : Word) : FRes :=
  match fUnpack a, fUnpack b with
  | .nan _, _ => fNanRes [a, b]
  | _, .nan _ => fNanRes [a, b]
  | .inf _, .inf _ => fInvalidRes
  | .inf s, .fin t _ _ => fExact (fInf (xor s t))
  | .fin s _ _, .inf t => fExact (fZero (xor s t))
  | .fin s m e, .fin t n f =>
    if n = 0 then (if m = 0 then fInvalidRes else ⟨fInf (xor s t), ⟨false, true, false, false, false⟩⟩)
    else if m = 0 then fExact (fZero (xor s t))
    else
      let x := m * 2 ^ 64
      fRound rnd (xor s t) (x / n) (e - f - 64) (x % n ≠ 0)

/-- FSQRT (R80). -/
def fsqrtVal (rnd : Nat) (a : Word) : FRes :=
  match fUnpack a with
  | .nan _ => fNanRes [a]
  | .inf s => if s then fInvalidRes else fExact a
  | .fin s m e =>
    if m = 0 then fExact a
    else if s then fInvalidRes
    else
      let x := if e % 2 = 0 then m * 2 ^ 64 else m * 2 ^ 65
      let r := isqrt x
      fRound rnd false r ((if e % 2 = 0 then e else e - 1) / 2 - 32) (r * r ≠ x)

/-- FMA and FMS (R80): d plus or minus the product, one rounding; `neg` for FMS. -/
def fmaVal (rnd : Nat) (neg : Bool) (d a b : Word) : FRes :=
  let bad : Bool :=
    match fUnpack a, fUnpack b with
    | .inf _, .fin _ n _ => n = 0
    | .fin _ m _, .inf _ => m = 0
    | _, _ => false
  if fIsNan d || fIsNan a || fIsNan b then
    let r := fNanRes [d, a, b]
    if bad && Config.fmaInfZeroNan then ⟨r.val, ffInvalid⟩ else r
  else if bad then fInvalidRes
  else
    let ps := xor (xor (fSign a) (fSign b)) neg
    match fUnpack d, fUnpack a, fUnpack b with
    | .fin s m e, .fin _ m1 e1, .fin _ m2 e2 => fSum rnd s m e ps (m1 * m2) (e1 + e2)
    | .fin _ _ _, _, _ => fExact (fInf ps)
    | .inf s, .fin _ _ _, .fin _ _ _ => fExact (fInf s)
    | .inf s, _, _ => if s = ps then fExact (fInf s) else fInvalidRes
    | .nan _, _, _ => fInvalidRes

/-- The order of two floats that are no NaN, the zeros taken equal. -/
def fLess (a b : Word) : Bool :=
  let key (w : Word) : Int := if fSign w then -((w.toNat % 2 ^ 31 : Nat) : Int) else (w.toNat % 2 ^ 31 : Nat)
  key a < key b

/-- Equality of two floats that are no NaN. -/
def fSame (a b : Word) : Bool := a = b || (a.toNat % 2 ^ 31 = 0 && b.toNat % 2 ^ 31 = 0)

/-- FMIN and FMAX: minimumNumber and maximumNumber of IEEE 754-2019 (R80). -/
def fminmaxVal (isMax : Bool) (a b : Word) : FRes :=
  let fl := if fIsSnan a || fIsSnan b then ffInvalid else ffNone
  if fIsNan a && fIsNan b then ⟨fQuiet a, fl⟩
  else if fIsNan a then ⟨b, fl⟩
  else if fIsNan b then ⟨a, fl⟩
  else if fSame a b then ⟨if (fSign a) = isMax then b else a, fl⟩
  else ⟨if (fLess a b) = isMax then b else a, fl⟩

/-- An integer times 2^e as a float (FCVTSW, FCVTSQ). -/
def fFromInt (rnd : Nat) (x : Int) (e : Int) : FRes :=
  if x = 0 then fExact 0 else
    let r := fRound rnd (x < 0) x.natAbs e false
    ⟨r.val, ⟨false, false, false, false, r.fl.ix⟩⟩

/-- A float times 2^sh as a saturated 32-bit integer (FCVTWS with sh = 0, FCVTQS with sh = 31) (R80). -/
def fToInt (rnd : Nat) (a : Word) (sh : Int) : FRes :=
  match fUnpack a with
  | .nan _ => ⟨0, ffInvalid⟩
  | .inf s => ⟨if s then 0x80000000#32 else 0x7FFFFFFF#32, ffInvalid⟩
  | .fin s m e =>
    let k := -(e + sh)
    let d := if k ≤ 0 then (m * 2 ^ (-k).toNat, 0, false) else fDrop m k.toNat false
    let mag := d.1 + (fRoundUp rnd s (d.1 % 2 = 1) d.2.1 d.2.2).toNat
    let x : Int := if s then -(mag : Int) else mag
    if satFlag 32 x then ⟨wordOfInt (satInt 32 x), ffInvalid⟩
    else ⟨wordOfInt x, ⟨false, false, false, false, d.2.2⟩⟩

/-- The comparisons into a predicate (R80): result and flags. -/
def fcmpVal (o : Op) (a b : Word) : Bool × FFlags :=
  let un := fIsNan a || fIsNan b
  let sn := if fIsSnan a || fIsSnan b then ffInvalid else ffNone
  match o with
  | .feq => (!un && fSame a b, sn)
  | .flt => (!un && !fSame a b && fLess a b, if un then ffInvalid else ffNone)
  | .fle => (!un && (fSame a b || fLess a b), if un then ffInvalid else ffNone)
  | _ => (un, ffNone)

/-- Whether a float y is within the bound of R138 for a positive finite operand x: (1 - 2^-20)^2 <= y^2 x <=
(1 + 2^-20)^2, in integers. -/
def rsqrtWithin (x y : Word) : Bool :=
  match fUnpack x, fUnpack y with
  | .fin _ m e, .fin t n f =>
    let p := n * n * m
    let k := 2 * f + e + 40
    let lo := (2 ^ 20 - 1) ^ 2
    let hi := (2 ^ 20 + 1) ^ 2
    !t && (if 0 ≤ k then decide (lo ≤ p * 2 ^ k.toNat ∧ p * 2 ^ k.toNat ≤ hi)
      else decide (lo * 2 ^ (-k).toNat ≤ p ∧ p ≤ hi * 2 ^ (-k).toNat))
  | _, _ => false

/-- 1/sqrt(x) truncated to binary32 for a positive finite operand. -/
def rsqrtTrunc (m : Nat) (e : Int) : Word :=
  -- 1/sqrt(m 2^e) = sqrt(2^(2k) / m) 2^(-k - e/2), with e made even
  let m' := if e % 2 = 0 then m else 2 * m
  let e' := if e % 2 = 0 then e else e - 1
  let r := isqrt (2 ^ 160 / m')
  (fRound 4 false r (-80 - e' / 2) true).val

/-- RSQRT (R138): within the bound, the open part of the result is `Config.rsqrtError`. -/
def rsqrtVal (a : Word) : FRes :=
  match fUnpack a with
  | .nan _ => fNanRes [a]
  | .inf s => if s then fInvalidRes else fExact 0
  | .fin s m e =>
    if m = 0 then ⟨fInf s, ⟨false, true, false, false, false⟩⟩
    else if s then fInvalidRes
    else
      let y0 := rsqrtTrunc m e
      let y := wordOfInt ((y0.toNat : Int) + Config.rsqrtError a)
      ⟨if rsqrtWithin a y then y else y0, ⟨false, false, false, false, true⟩⟩

/-- The float operations with a float or integer result: `d`, `a`, `b` are the words of the d, s1 and s2 fields. -/
def fpVal (o : Op) (rnd : Nat) (d a b : Word) : FRes :=
  match o with
  | .fadd => faddVal rnd a b
  | .fsub => fsubVal rnd a b
  | .fmul => fmulVal rnd a b
  | .fdiv => fdivVal rnd a b
  | .fsqrt => fsqrtVal rnd a
  | .fma => fmaVal rnd false d a b
  | .fms => fmaVal rnd true d a b
  | .fmin => fminmaxVal false a b
  | .fmax => fminmaxVal true a b
  | .fabs => fExact (a &&& 0x7FFFFFFF#32)
  | .fneg => fExact (fNeg a)
  | .fmov => fExact a
  | .fcvtsw => fFromInt rnd a.toInt 0
  | .fcvtws => fToInt rnd a 0
  | .fcvtqs => fToInt rnd a 31
  | .fcvtsq => fFromInt rnd a.toInt (-31)
  | .fmvgf => fExact a
  | .fmvfg => fExact a
  | .rsqrt => rsqrtVal a
  | _ => fExact 0

end Sys2Proof.Machine
end

