-- ==== Sys2Proof/Machine/MulDiv.lean ====
section
/-!
DEFINITION. Results of the multiply and divide operations (R65, R72) and of the accumulators (R64, R65, R78).
-/

namespace Sys2Proof.Machine

/-- The signed halves of a word, low then high (R64). -/
def loHalf (a : Word) : Int := sextNat 16 a.toNat
def hiHalf (a : Word) : Int := sextNat 16 (a.toNat / 2 ^ 16)

/-- The exact product of a doubling multiply: signed, unsigned, signed by unsigned (R72). -/
def wideProduct (o : Op) (a b : Word) : Int :=
  match o with
  | .muld => a.toInt * b.toInt
  | .muldu => (a.toNat : Int) * (b.toNat : Int)
  | _ => a.toInt * (b.toNat : Int)

/-- The pair of a doubling multiply, low word first (R72). -/
def wideVal (o : Op) (a b : Word) : Word × Word :=
  (wordOfInt (wideProduct o a b), wordOfInt (wideProduct o a b / (2 ^ 32 : Nat)))

/-- DIV (R72). -/
def divVal (a b : Word) : QRes :=
  if b = 0 then ⟨if a.slt 0 then 0x80000000#32 else 0x7FFFFFFF#32, true⟩
  else if a = 0x80000000#32 ∧ b = 0xFFFFFFFF#32 then ⟨0x7FFFFFFF#32, true⟩
  else qPlain (wordOfInt (divTrunc a.toInt b.toInt))

/-- DIVU (R72). -/
def divuVal (a b : Word) : QRes :=
  if b = 0 then ⟨0xFFFFFFFF#32, true⟩ else qPlain (BitVec.ofNat 32 (a.toNat / b.toNat))

/-- REM (R72). -/
def remVal (a b : Word) : QRes :=
  if b = 0 then ⟨0, true⟩
  else if a = 0x80000000#32 ∧ b = 0xFFFFFFFF#32 then ⟨0, true⟩
  else qPlain (wordOfInt (a.toInt - divTrunc a.toInt b.toInt * b.toInt))

/-- REMU (R72). -/
def remuVal (a b : Word) : QRes :=
  if b = 0 then ⟨0, true⟩ else qPlain (BitVec.ofNat 32 (a.toNat % b.toNat))

/-- QMUL: sat32(round((s1 * s2) >> 31)) (R65). -/
def qmulVal (a b : Word) : QRes := qSat (roundShift (a.toInt * b.toInt) 31)

/-- One half of QMUL2: sat16(round((s1.h * s2.h) >> 15)) (R65). -/
def qmulHalf (a b : Int) : Int := roundShift (a * b) 15

/-- QMUL2 (R65). -/
def qmul2Val (a b : Word) : QRes :=
  let l := qmulHalf (loHalf a) (loHalf b)
  let h := qmulHalf (hiHalf a) (hiHalf b)
  ⟨BitVec.ofNat 32 (natOfInt 16 (satInt 16 h) * 2 ^ 16 + natOfInt 16 (satInt 16 l)), satFlag 16 l || satFlag 16 h⟩

/-- The single-word results of major 0x02. -/
def mulDivVal (o : Op) (a b : Word) : QRes :=
  match o with
  | .mul => qPlain (a * b)
  | .div => divVal a b
  | .divu => divuVal a b
  | .rem => remVal a b
  | .remu => remuVal a b
  | .qmul => qmulVal a b
  | .qmul2 => qmul2Val a b
  | _ => qPlain 0

/-- The dual product of MAC2 and MSU2, shifted to Q10.62 (R78). -/
def dualProduct (a b : Word) : Int := (loHalf a * loHalf b + hiHalf a * hiHalf b) * (2 ^ 32 : Nat)

/-- Replace bits [hi:lo] of an accumulator (R78). -/
def accPut (x : BitVec 72) (hi lo v : Nat) : BitVec 72 := BitVec.ofNat 72 (putBits x.toNat hi lo v)

/-- The accumulator operations that write A: `ad` is Ad, `as` is As1, `a` and `b` are s1 and s2 as words, `imm` the s2
field (R78). -/
def accVal (o : Op) (ad as : BitVec 72) (a b : Word) (imm : Nat) : AccRes :=
  match o with
  | .mac => accWrap (ad.toInt + a.toInt * b.toInt)
  | .msu => accWrap (ad.toInt - a.toInt * b.toInt)
  | .macz => ⟨BitVec.ofInt 72 (a.toInt * b.toInt), false⟩
  | .mac2 => accWrap (ad.toInt + dualProduct a b)
  | .msu2 => accWrap (ad.toInt - dualProduct a b)
  | .accld => ⟨BitVec.ofInt 72 (a.toInt * (2 ^ 31 : Nat)), false⟩
  | .accwl => ⟨accPut ad 31 0 a.toNat, false⟩
  | .accwh => ⟨accPut ad 63 32 a.toNat, false⟩
  | .accwg => ⟨accPut ad 71 64 (a.toNat % 256), false⟩
  | .accadd => accWrap (ad.toInt + as.toInt)
  | .accsub => accWrap (ad.toInt - as.toInt)
  | .accmv => ⟨as, false⟩
  | .accsh =>
    let n := sextNat 5 imm
    if 0 ≤ n then accWrap (ad.toInt * (2 ^ n.toNat : Nat))
    else ⟨BitVec.ofInt 72 (ad.toInt / (2 ^ (-n).toNat : Nat)), false⟩
  | .accclr => ⟨0, false⟩
  | _ => ⟨ad, false⟩

/-- The accumulator reads into G (R78). -/
def accRead (o : Op) (as : BitVec 72) (imm : Nat) : QRes :=
  match o with
  | .accr => qSat (roundShift as.toInt (31 - imm % 32))
  | .accrl => qPlain (BitVec.ofNat 32 (bitsOf as.toNat 31 0))
  | .accrh => qPlain (BitVec.ofNat 32 (bitsOf as.toNat 63 32))
  | .accrg => qPlain (wordOfInt (sextNat 8 (bitsOf as.toNat 71 64)))
  | _ => qPlain 0

end Sys2Proof.Machine
end

