-- ==== Sys2Proof/Machine/Xform.lean ====
section
/-!
DEFINITION. The transforms (R130 to R132), PLLSTEP (R133, R134) and PROF (R135, R136) as functions of their operands.
-/

namespace Sys2Proof.Machine

/-- round(x / sqrt 3) for an integer x; no tie can occur (R130). -/
def divSqrt3 (x : Int) : Int :=
  let y : Int := ((isqrt (4 * x.natAbs ^ 2 / 3) + 1) / 2 : Nat)
  if x < 0 then -y else y

/-- round(x / 3), half up (R65). -/
def divThree (x : Int) : Int := (2 * x + 3) / 6

/-- CLARKE (R130): a, (a + 2b)/sqrt 3. -/
def clarkeVal (a b : Word) : QRes × QRes := (qPlain a, qSat (divSqrt3 (a.toInt + 2 * b.toInt)))

/-- CLARKE3 (R130): (2a - b - c)/3, (b - c)/sqrt 3. -/
def clarke3Val (a b c : Word) : QRes × QRes :=
  (qSat (divThree (2 * a.toInt - b.toInt - c.toInt)), qSat (divSqrt3 (b.toInt - c.toInt)))

/-- pi in units of 2^-60. -/
def piFix : Int := 3622009729038561421

/-- The terms of the sine and cosine series in units of 2^-60: `t` is the last term, `n` its order, `fuel` terms follow. -/
def trigSeries : Nat → Int → Int → Nat → Int
  | 0, _, t, _ => t
  | fuel + 1, x, t, n =>
    t + trigSeries fuel x (-(t * x / (2 ^ 60 : Nat) * x / (2 ^ 60 : Nat)) / (((n + 1) * (n + 2) : Nat) : Int)) (n + 2)

/-- sin of r * 2^-32 turn for r up to 2^30, in units of 2^-60, to better than 2^-50. -/
def sinQuarter (r : Nat) : Int :=
  let x := (r : Int) * piFix / (2 ^ 31 : Nat)
  trigSeries 12 x x 1

/-- sin of an angle in turn fractions (R130), in units of 2^-60, to better than 2^-50. -/
def sinFix (k : Nat) : Int :=
  let q := k % 2 ^ 32 / 2 ^ 30
  let r := k % 2 ^ 30
  if q = 0 then sinQuarter r
  else if q = 1 then sinQuarter (2 ^ 30 - r)
  else if q = 2 then -sinQuarter r
  else -sinQuarter (2 ^ 30 - r)

/-- The result of SINCOS nearest its rounded exact value, moved by `err` where the bound of R130 allows it. -/
def trigOut (x err : Int) : Word :=
  let base := roundShift x 29
  let c := base + err
  let near := decide ((c * (2 ^ 29 : Nat) - x).natAbs + 2 ^ 10 ≤ 2 ^ 38)
  wordOfInt (satInt 32 (if near then c else base))

/-- SINCOS (R130, R131): sine and cosine. -/
def sincosVal (a : Word) : Word × Word :=
  if a = 0 then (0, 0x7FFFFFFF#32)
  else if a = 0x40000000#32 then (0x7FFFFFFF#32, 0)
  else if a = 0x80000000#32 then (0, 0x80000000#32)
  else if a = 0xC0000000#32 then (0x80000000#32, 0)
  else (trigOut (sinFix a.toNat) (Config.sincosError a).1,
        trigOut (sinFix (a.toNat + 2 ^ 30)) (Config.sincosError a).2)

/-- PARK (R130): alpha, beta, angle. -/
def parkVal (a b th : Word) : QRes × QRes :=
  let sc := sincosVal th
  (qSat (roundShift (a.toInt * sc.2.toInt + b.toInt * sc.1.toInt) 31),
   qSat (roundShift (b.toInt * sc.2.toInt - a.toInt * sc.1.toInt) 31))

/-- IPARK (R130): d, q, angle. -/
def iparkVal (d q th : Word) : QRes × QRes :=
  let sc := sincosVal th
  (qSat (roundShift (d.toInt * sc.2.toInt - q.toInt * sc.1.toInt) 31),
   qSat (roundShift (d.toInt * sc.1.toInt + q.toInt * sc.2.toInt) 31))

/-- SYMCOMP (R130, R132): the four results in order, from alpha, beta, q-alpha, q-beta. -/
def symcompVal (a b qa qb : Word) : List QRes :=
  [qSat (roundShift (a.toInt - qb.toInt) 1), qSat (roundShift (qa.toInt + b.toInt) 1),
   qSat (roundShift (a.toInt + qb.toInt) 1), qSat (roundShift (b.toInt - qa.toInt) 1)]

/-- A step of PLLSTEP: new INT, OMEGA, THETA and QS (R134). -/
structure PllRes where
  int : Word
  omega : Word
  theta : Word
  qs : Bool
  deriving DecidableEq, Repr

/-- PLLSTEP on the words of its record and its error operand (R134). -/
def pllVal (theta int kp ki nom omin omax e : Word) : PllRes :=
  let p := roundShift (kp.toInt * e.toInt) 31
  let i := roundShift (ki.toInt * e.toInt) 31
  let n0 := satInt 32 (int.toInt + i)
  let q0 := satFlag 32 (int.toInt + i)
  let w := nom.toInt + n0 + p
  let hi := decide (omax.toInt < w)
  let n1 := if hi ∧ 0 < i then int.toInt else n0
  let w1 := if hi then omax.toInt else w
  let lo := decide (w1 < omin.toInt)
  let n2 := if lo ∧ i < 0 then int.toInt else n1
  let w2 := if lo then omin.toInt else w1
  ⟨wordOfInt n2, wordOfInt w2, theta + wordOfInt w2, q0 || hi || lo⟩

/-- The ramp record of PROF: POS, VEL, ACC and DONE (R135). -/
structure ProfRes where
  pos : Int
  vel : Int
  acc : Int
  done : Bool
  deriving DecidableEq, Repr

/-- One step of PROF without FREEZE: `t` is the target (R135). -/
def profVal (pos vel acc vmax amax jmax t : Int) : ProfRes :=
  let e := t - pos
  if e.natAbs ≤ amax.toNat ∧ vel.natAbs ≤ amax.toNat then ⟨t, 0, 0, true⟩
  else
    let vb : Int := isqrt (2 * amax.toNat * e.natAbs)
    let vd := e.sign * (if vmax < vb then vmax else vb)
    let ad := clampInt (-amax) amax (vd - vel)
    let acc' := acc + clampInt (-jmax) jmax (ad - acc)
    let vel' := clampInt (-vmax) vmax (vel + acc')
    if (t - (pos + vel')).sign = -e.sign then ⟨t, 0, 0, true⟩
    else ⟨pos + vel', vel', acc', false⟩

end Sys2Proof.Machine
end

