-- ==== Sys2Proof/Machine/Pipe.lean ====
section
/-!
DEFINITION. What Jenmel instructions stand on (R60 to R105): registers, guards, CSRs, address translation, the accesses
of a core, and TAKING AN EXCEPTION with the return from one.
-/

namespace Sys2Proof.Machine

/-! ### Registers and guards (R60 to R62) -/

/-- A general register; G0 reads 0. -/
def gReg (x : CoreSt) (n : Nat) : Word := if n = 0 then 0 else tblGet (fun _ => 0) x.g n

/-- A float register. -/
def fReg (x : CoreSt) (n : Nat) : Word := tblGet (fun _ => 0) x.f n

/-- An accumulator. -/
def aReg (x : CoreSt) (n : Nat) : BitVec 72 := tblGet (fun _ => 0) x.acc n

/-- A predicate; K0 reads 1. -/
def kReg (x : CoreSt) (n : Nat) : Bool := decide (n = 0) || tblGet (fun _ => false) x.k n

/-- Write a float register. -/
def setF (x : CoreSt) (n : Nat) (v : Word) : CoreSt := { x with f := tblSet (fun _ => 0) x.f n v }

/-- Write an accumulator. -/
def setA (x : CoreSt) (n : Nat) (v : BitVec 72) : CoreSt := { x with acc := tblSet (fun _ => 0) x.acc n v }

/-- Write a predicate; K0 discards. -/
def setK (x : CoreSt) (n : Nat) (b : Bool) : CoreSt := if n = 0 then x else { x with k := tblSet (fun _ => false) x.k n b }

/-- A guard lets its instruction execute: K[p] XOR N is 1 (R60). -/
def guardOn (x : CoreSt) (g : Nat) : Bool := xor (kReg x (g % 8)) (decide (8 ≤ g))

/-- Change a core. -/
def State.onCore (s : State) (n : Nat) (f : CoreSt → CoreSt) : State := s.setCore n (f (s.core n))

/-- Write a general register of a core. -/
def State.putG (s : State) (n d : Nat) (v : Word) : State := s.onCore n (fun x => setG x d v)

/-- Write a result with its QS flag (R65). -/
def State.putQ (s : State) (n d : Nat) (r : QRes) : State :=
  (s.putG n d r.val).onCore n (fun x => setCsr x 0x011 (accstatQs (csrOf x 0x011) r.qs))

/-- Write consecutive registers, each with its QS flag. -/
def State.putQs (s : State) (n d : Nat) : List QRes → State
  | [] => s
  | r :: l => (s.putQ n d r).putQs n (d + 1) l

/-- Set float flags (R80, R91). -/
def State.putFlags (s : State) (n : Nat) (f : FFlags) : State :=
  s.onCore n (fun x => setCsr x 0x010 (fcsrSet (csrOf x 0x010) f))

/-- The operand words s1 and s2. -/
def opA (x : CoreSt) (i : Insn) : Word := gReg x i.s1
def opB (x : CoreSt) (i : Insn) : Word := gReg x i.s2

/-! ### CSRs (R86 to R93, R104, R140 to R142) -/

/-- The RW and the W1C fields of a CSR on a profile; the other bits are RO. -/
def csrFields (p n : Nat) : Word × Word :=
  if n = 0 ∨ n = 1 then (if p = 1 then 0xC3#32 else 0x03#32, 0)
  else if n = 2 then (0xFFFFFFF8#32, 0)
  else if n = 3 then (0x1FF#32, 0)
  else if n = 4 ∨ n = 6 then (0xFFFFFFFF#32, 0)
  else if n = 5 then (0xFFFFFF00#32, 0)
  else if n = 0x10 then (0x7#32, 0x1F00#32)
  else if n = 0x11 then (0, 0x1FF#32)
  else if n = 0x40 then (0xFF#32, 0)
  else if n = 0x103 then (0x1#32, 0)
  else if 0x200 ≤ n ∧ n < 0x240 then (if n % 2 = 0 then 0xFFFFFFFF#32 else 0xFFFFF03E#32, 0)
  else (0, 0)

/-- The value a write leaves in a CSR: mode 0 writes, 1 sets, 2 clears; a W1C field takes part in mode 0 only (R86). -/
def csrNext (rw w1c old v : Word) (mode : Nat) : Word :=
  let t := if mode = 0 then v else if mode = 1 then old ||| v else old &&& ~~~ v
  (old &&& ~~~ rw &&& ~~~ (if mode = 0 then w1c &&& v else 0)) ||| (t &&& rw)

/-- CSRW, after the effect of slot 0 where the two meet: the slots act in program order (DESIGN CHOICE, log entry 109). -/
def State.csrWrite (s : State) (n num mode : Nat) (v : Word) : State :=
  let m := csrFields (profileOf n) num
  s.onCore n (fun x => setCsr x num (csrNext m.1 m.2 (csrOf x num) v mode))

/-- CSR_XSTAT (R141). -/
def xstat (x : CoreSt) : Word :=
  BitVec.ofNat 32 (min 64 x.cb.length * 2 ^ 12 + x.survey.toNat * 2 ^ 11 + (decide (x.region = .spec)).toNat * 2 ^ 10 +
    (decide (x.region ≠ .none)).toNat * 2 ^ 9 + (match x.ctx with | some c => 2 ^ 8 + c % 256 | none => 0))

/-- CSR_CORENUM (R93). -/
def coreNum (n : Nat) : Word :=
  BitVec.ofNat 32 (profileOf n * 16 + (if n < 8 then n else if n < 10 then n - 8 else 0))

/-- CSRR, of the core `x` as the bundle found it (R54): a read of CSR_CYCLE finds the count gone up by one and an open number
more, and latches its upper half (R88). -/
def State.csrRead (s : State) (n : Nat) (x : CoreSt) (num : Nat) : State × Word :=
  if num = 0x20 then
    let c := x.cycle + 1 + BitVec.ofNat 64 (Config.freeNat s.freeCtr)
    ((s.setCore n (setCsr { s.core n with cycle := c } 0x21 (BitVec.ofNat 32 (c.toNat / 2 ^ 32)))).drawn, BitVec.ofNat 32 c.toNat)
  else if num = 0x30 then (s, coreNum n)
  else if num = 0x100 then (s, xstat x)
  else (s, csrOf x num)

/-- A core is in user mode (R89): only the supervisors can be. -/
def userMode (n : Nat) (x : CoreSt) : Bool := decide (profileOf n = 1) && !bitAt (csrOf x 0) 6

/-- The CSRs user mode may write, and read (R102). -/
def userCsr (write : Bool) (num : Nat) : Bool :=
  decide (num = 0x10 ∨ num = 0x11) || (!write && decide (num = 0x20 ∨ num = 0x21 ∨ num = 0x30))

/-! ### Address translation (R103 to R105) -/

/-- Size of a translation region in bytes; code 7 never matches. -/
def xlSize (a : Word) : Nat := 0x1000 * 4 ^ fieldOf a 11 9

/-- Region k of a supervisor matches an address. -/
def xlMatch (x : CoreSt) (k va : Nat) : Bool :=
  let a := csrOf x (0x200 + 2 * k)
  let b := csrOf x (0x201 + 2 * k)
  let base := fieldOf a 31 12 * 0x1000
  bitAt b 5 && decide (fieldOf a 11 9 ≠ 7) && decide (base % xlSize a = 0) && decide (base ≤ va ∧ va < base + xlSize a) &&
    (bitAt a 8 || decide (fieldOf a 7 0 = fieldOf (csrOf x 0x40) 7 0))

/-- The matching region of the highest index among the first k. -/
def xlFind (x : CoreSt) (va : Nat) : Nat → Option Nat
  | 0 => none
  | k + 1 => if xlMatch x k va then some k else xlFind x va k

/-- Region k allows an access of a kind: 0 load, 1 store, 2 fetch, 3 atomic (R103). -/
def xlAllows (n : Nat) (x : CoreSt) (k kind : Nat) : Bool :=
  let b := csrOf x (0x201 + 2 * k)
  (match kind with
    | 0 => bitAt b 1
    | 1 => bitAt b 2
    | 2 => bitAt b 3
    | _ => bitAt b 1 && bitAt b 2) && (!userMode n x || bitAt b 4)

/-- The physical address in region k. -/
def xlAddr (x : CoreSt) (k va : Nat) : Nat :=
  let z := xlSize (csrOf x (0x200 + 2 * k))
  (fieldOf (csrOf x (0x201 + 2 * k)) 31 12 * 0x1000 / z * z + va % z) % 2 ^ 32

/-- Translate the address of an access: the cause code, 0 for none, and the physical address. -/
def xlate (n : Nat) (x : CoreSt) (kind va : Nat) : Nat × Nat :=
  if decide (profileOf n = 1) && bitAt (csrOf x 0) 7 then
    match xlFind x va 32 with
    | none => (4, 0)
    | some k => if xlAllows n x k kind then (0, xlAddr x k va) else (5, 0)
  else if decide (kind = 2) && userMode n x then (5, 0)
  else (0, va)

/-- The word that XLQ writes (R105). -/
def xlqWord (n : Nat) (x : CoreSt) (va : Word) (kind : Nat) : Word :=
  match xlFind x va.toNat 32 with
  | none => 0
  | some k => BitVec.ofNat 32 (xlAddr x k va.toNat / 0x1000 * 0x1000 + k * 32 + 2 * (xlAllows n x k kind).toNat + 1)

/-- Clear V in the regions a test selects. -/
def xlClear (x : CoreSt) (p : Nat → Bool) : Nat → CoreSt
  | 0 => x
  | k + 1 =>
    let y := xlClear x p k
    if p k then setCsr y (0x201 + 2 * k) (csrOf y (0x201 + 2 * k) &&& ~~~ 0x20#32) else y

/-! ### The accesses of a core (R40, R66, R74) -/

/-- A core as a master of the bus; the Warden is none of them, and its accesses reach PD2 alone. -/
def masterOf (n : Nat) : Master :=
  match n with
  | 0 => .rc 0 | 1 => .rc 1 | 2 => .rc 2 | 3 => .rc 3 | 4 => .rc 4 | 5 => .rc 5 | 6 => .rc 6 | 7 => .rc 7
  | 8 => .sc0 | 9 => .sc1 | _ => .host

/-- Where in its own memories an address of the Warden's lies: data SRAM offset (R409). -/
def wardenRam (a : Nat) : Option Nat :=
  if Config.wardenRamBase ≤ a ∧ a < Config.wardenRamBase + 0x8000 then some (a - Config.wardenRamBase) else none

/-- ROM offset. -/
def wardenRomAt (a : Nat) : Option Nat :=
  if Config.wardenRomBase ≤ a ∧ a < Config.wardenRomBase + 0x10000 then some (a - Config.wardenRomBase) else none

/-- An address of PD2's registers: the block SAFE, unassigned offsets among them (R20). -/
def wardenReg (a : Nat) : Bool := (memAt a).isNone && decide (blockOf a = some .SAFE)

/-- `n` bytes of the Warden's data SRAM. -/
def State.wramBytes (s : State) (o : Nat) : Nat → List Byte
  | 0 => []
  | n + 1 => tblGet memDefault s.wram o :: s.wramBytes (o + 1) n

/-- Write bytes of it. -/
def State.setWram (s : State) (o : Nat) : List Byte → State
  | [] => s
  | b :: bs => ({ s with wram := tblSet memDefault s.wram o b } : State).setWram (o + 1) bs

/-- The Warden reads the aligned word at an address: PD2 memory and registers only (R66). -/
def State.wardenRead (s : State) (a : Nat) : State × Bool × Word :=
  match wardenRam a, wardenRomAt a with
  | some o, _ => (s, false, BitVec.ofNat 32 (natLE (s.wramBytes o 4)))
  | none, some o => (s, false, BitVec.ofNat 32 (natLE ((List.range 4).map (fun k => Config.wardenRom (o + k)))))
  | none, none =>
    if wardenReg a then
      let r := s.regRead .host a
      (r.1, false, r.2)
    else (s, true, 0)

/-- The Warden writes enabled bytes of the aligned word at an address. -/
def State.wardenWrite (s : State) (a : Nat) (v : Word) (be : Nat) : State × Bool :=
  match wardenRam a with
  | some o => (s.setWram o (bytesLE 4 (mergeBytes (BitVec.ofNat 32 (natLE (s.wramBytes o 4))) v be).toNat), false)
  | none => if wardenReg a then (s.regWrite .host a v, false) else (s, true)

/-- A core reads the aligned word at a physical address: the state, a fault, the data. -/
def State.coreRead (s : State) (n a : Nat) : State × Bool × Word :=
  if n = 10 then s.wardenRead a else s.busRead (masterOf n) a

/-- A core writes enabled bytes of the aligned word at a physical address. -/
def State.coreWrite (s : State) (n a : Nat) (v : Word) (be : Nat) (whole : Bool) : State × Bool :=
  if n = 10 then s.wardenWrite a v be else s.busWrite (masterOf n) a v be whole

/-- Read aligned words from an address. -/
def State.readWords (s : State) (n a : Nat) : Nat → State × Bool × List Word
  | 0 => (s, false, [])
  | k + 1 =>
    let r := s.coreRead n a
    let q := r.1.readWords n (a + 4) k
    (q.1, r.2.1 || q.2.1, r.2.2 :: q.2.2)

/-- A write to come: aligned address, word, byte enables. -/
abbrev Write := Nat × Word × Nat

/-- Write words one after another. -/
def State.writeWords (s : State) (n : Nat) (whole : Bool) : List Write → State
  | [] => s
  | w :: l => (s.coreWrite n w.1 w.2.1 w.2.2 whole).1.writeWords n whole l

/-- The first write of a list that fails on this state. -/
def State.failing (s : State) (n : Nat) (whole : Bool) (l : List Write) : Option Write :=
  l.find? (fun w => (s.coreWrite n w.1 w.2.1 w.2.2 whole).2)

/-- Whether an address lies in the core's own local memory (R69, R133, R649). -/
def ownLocal (n a : Nat) : Bool :=
  match memAt a with
  | some (.rcData k) => decide (k = n)
  | some (.rcInstr k) => decide (k = n)
  | some .shared | some .superv | some .traceStore => decide (n = 8 ∨ n = 9)
  | _ => n = 10 && (wardenRam a).isSome

/-- Whether a range lies in the context block of the context that the core runs (R69). -/
def State.inBlock (s : State) (n a len : Nat) : Bool :=
  match (s.core n).ctx with
  | some c => decide (s.blockAddr c ≤ a ∧ a + len ≤ s.blockAddr c + (s.blockArea c).2)
  | none => false

/-- The words of a list of addresses that the undo log does not hold yet (R163). -/
def newUndo (x : CoreSt) (l : List Nat) : List Nat := l.filter (fun a => !x.undo.any (fun u => decide (u.1 = a)))

/-- A speculative store logs the old words first (R163). -/
def State.logUndo (s : State) (n : Nat) (l : List Nat) : State :=
  let x := s.core n
  if x.region = .spec then
    s.setCore n { x with undo := ((newUndo x l).map (fun a => (a, s.memWord a))).reverse ++ x.undo }
  else s

/-! ### Exceptions (R94 to R101, R121) -/

/-- A cause: code and CSR_EVAL. -/
structure Cause where
  code : Nat
  eval : Word
  deriving DecidableEq, Repr

/-- Place of a cause in the order of R94, highest first. -/
def causeRank (code : Nat) : Nat := [0x02, 0x01, 0x03, 0x04, 0x05, 0x06, 0x07, 0x08, 0x0B, 0x09, 0x10].idxOf code

/-- A core locks up and signals LKU (R99, R100). -/
def State.lockUp (s : State) (n : Nat) : State := (s.onCore n (fun x => { x with lockup := true })).islandFailed (pdOfCore n) .lku

/-- The registers that the entry into an exception writes, and where the core goes on: CSR_VBASE, for INT 0x80 above it
(R96). A region ends, the commit buffer stays (R121). -/
def excEntry (x : CoreSt) (code slot : Nat) (eval epc : Word) : CoreSt :=
  let st := csrOf x 0
  let x := setCsr x 1 st
  let x := setCsr x 2 epc
  let x := setCsr x 3 (BitVec.ofNat 32 (slot * 256 + code))
  let x := setCsr x 4 eval
  let x := setCsr x 0 ((st &&& ~~~ 0xC3#32) ||| 0x42#32)
  { x with pc := csrOf x 5 + (if code = 0x10 then 0x80#32 else 0), region := .none }

/-- TAKE AN EXCEPTION: a synchronous one while a handler runs, or with no vector base, locks the core up (R99). -/
def State.takeException (s : State) (n : Nat) (c : Cause) (slot : Nat) (epc : Word) : State :=
  let x := s.core n
  if bitAt (csrOf x 0) 1 || decide (csrOf x 5 = 0) then s.lockUp n
  else s.setCore n (excEntry x c.code slot c.eval epc)

/-- HRET (R96): CSR_ESTATUS, as the core `x` held it, returns to CSR_STATUS, and the core goes on at CSR_EPC. -/
def hretCore (x y : CoreSt) : CoreSt := { setCsr y 0 (csrOf x 1) with pc := csrOf x 2 }

end Sys2Proof.Machine
end

