-- ==== Sys2Proof/Machine/Slot.lean ====
section
/-!
DEFINITION. One slot of a bundle: the exceptions that its instruction raises (R94, R139), what makes its bundle wait (R114,
R116, R163), and its effect (R68 to R87, R105, R110 to R138). Operands come from the core as it stood before the bundle
(R54).
-/

namespace Sys2Proof.Machine

/-- A slot: its word and what it decodes to. -/
structure SlotW where
  word : Word
  insn : Option Insn
  deriving DecidableEq, Repr

/-! ### Loads, stores and atomics (R73 to R77) -/

/-- Bytes of a load or a store, 0 for another operation. -/
def memSize (o : Op) : Nat :=
  match o with
  | .ldb | .ldbu | .stb => 1
  | .ldh | .ldhu | .sth => 2
  | .ldw | .ldf | .stw | .stf => 4
  | .ldd | .std => 8
  | _ => 0

/-- The operation is a store. -/
def isStore (o : Op) : Bool := match o with | .stb | .sth | .stw | .std | .stf => true | _ => false

/-- The operation is a load. -/
def isLoad (o : Op) : Bool := decide (memSize o ≠ 0) && !isStore o

/-- The operation is of group ATOM. -/
def isAtom (o : Op) : Bool := decide ((opRow o).major = 0x1D)

/-- The effective address of a load or a store (R73). -/
def effAddr (x : CoreSt) (i : Insn) : Nat := (gReg x i.s1 + wordOfInt (immSigned i)).toNat

/-- Words that a load reads. -/
def wordsOf (size : Nat) : Nat := if size = 8 then 2 else 1

/-- What a load of a size makes of the aligned word: sign or zero extension of the addressed bytes. -/
def loadVal (o : Op) (a : Nat) (w : Word) : Word :=
  let v := w.toNat / 2 ^ (8 * (a % 4))
  match o with
  | .ldb => wordOfInt (sextNat 8 (v % 2 ^ 8))
  | .ldbu => BitVec.ofNat 32 (v % 2 ^ 8)
  | .ldh => wordOfInt (sextNat 16 (v % 2 ^ 16))
  | .ldhu => BitVec.ofNat 32 (v % 2 ^ 16)
  | _ => w

/-- The writes of a store at a physical address. A store of 64 bits to registers makes two writes of 32, the lower address
first, as LDD makes two reads (DESIGN CHOICE, log entry 110). -/
def storeWrites (x : CoreSt) (i : Insn) (a : Nat) : List Write :=
  let w := if i.op = .stf then fReg x i.d else gReg x i.d
  match memSize i.op with
  | 1 => [(a / 4 * 4, w <<< (8 * (a % 4)), 2 ^ (a % 4))]
  | 2 => [(a / 4 * 4, w <<< (8 * (a % 4)), 3 * 2 ^ (a % 4))]
  | 8 => [(a, w, 15), (a + 4, gReg x (i.d + 1), 15)]
  | _ => [(a, w, 15)]

/-- The new word of an atomic instruction, and whether it saturated (R77): `t` is Gs2+1. -/
def atomVal (o : Op) (old v t : Word) : QRes :=
  match o with
  | .atxch => qPlain v
  | .atadd => qPlain (old + v)
  | .atand => qPlain (old &&& v)
  | .ator => qPlain (old ||| v)
  | .atxor => qPlain (old ^^^ v)
  | .atmax => qPlain (if old.slt v then v else old)
  | .atmin => qPlain (if v.slt old then v else old)
  | .atcas => qPlain (if old = v then t else old)
  | .atadds => qSat (old.toInt + v.toInt)
  | .atring => qPlain (if old.toNat + 1 < v.toNat then old + 1 else 0)
  | _ => qPlain old

/-! ### Queue instructions (R83, R84) -/

/-- The operation transfers a message. -/
def isQueue (o : Op) : Bool := match o with | .qpush | .qpop => true | _ => false

/-- Queue number, length and whether the must-be-0 bits are 0. -/
def qOperand (w : Word) : Nat × Nat × Bool := (fieldOf w 4 0, fieldOf w 16 8, decide (w &&& 0xFFFE00E0#32 = 0))

/-- The result of QPUSH before the buffer is read: only its length counts. -/
def State.pushTry (s : State) (n : Nat) (w : Word) : QueRes :=
  let q := qOperand w
  if q.2.2 then (s.qPush (masterOf n) q.1 (List.replicate q.2.1 0)).2 else ⟨6, 0, []⟩

/-- QPOP: the queue after it and the result. -/
def State.popTry (s : State) (n : Nat) (w : Word) : State × QueRes :=
  let q := qOperand w
  if q.2.2 then s.qPop (masterOf n) q.1 q.2.1 else (s, ⟨6, 0, []⟩)

/-- The aligned words of a buffer of `len` bytes. -/
def bufWords (len : Nat) : Nat := (len + 3) / 4

/-- The addresses of a buffer's words, translated one by one: the first cause and its address, or the physical addresses
(R103). -/
def bufAddrs (n : Nat) (x : CoreSt) (kind va : Nat) : Nat → (Option (Nat × Nat)) × List Nat
  | 0 => (none, [])
  | k + 1 =>
    let t := xlate n x kind va
    if t.1 ≠ 0 then (some (t.1, va), [])
    else
      let r := bufAddrs n x kind (va + 4) k
      (r.1, t.2 :: r.2)

/-- The writes that place a message at word addresses. -/
def msgWrites (l : List Nat) (m : List Byte) : List Write :=
  l.zipIdx.map (fun x =>
    let b := (m.drop (4 * x.2)).take 4
    (x.1, BitVec.ofNat 32 (natLE b), 2 ^ b.length - 1))

/-- Read words at addresses. -/
def State.readAt (s : State) (n : Nat) : List Nat → State × Bool × List Word
  | [] => (s, false, [])
  | a :: l =>
    let r := s.coreRead n a
    let q := r.1.readAt n l
    (q.1, r.2.1 || q.2.1, r.2.2 :: q.2.2)

/-- Bytes of the buffer that the instruction transfers, 0 where its code is not OK; the word at the address is translated
in any case. -/
def State.bufLen (s : State) (n : Nat) (x : CoreSt) (i : Insn) : Nat :=
  if i.op = .qpush then (if (s.pushTry n (opB x i)).code = 0 then (qOperand (opB x i)).2.1 else 0)
  else (let r := (s.popTry n (opB x i)).2; if r.code = 0 then r.len else 0)

/-! ### Records of PLLSTEP and PROF (R133 to R135) -/

/-- The operation works on a record. -/
def isRecord (o : Op) : Bool := match o with | .pllstep | .prof => true | _ => false

/-- Word k of the record. -/
def State.recWord (s : State) (x : CoreSt) (i : Insn) (k : Nat) : Word := s.memWord ((opB x i).toNat + 4 * k)

/-- PROF may run on its record (R135). -/
def State.profOk (s : State) (x : CoreSt) (i : Insn) : Bool :=
  decide (0 < (s.recWord x i 3).toInt ∧ 0 < (s.recWord x i 4).toInt ∧ 0 < (s.recWord x i 5).toInt) &&
    decide ((s.recWord x i 6).toNat < 4 ∧ s.recWord x i 7 = 0)

/-- The writes of PLLSTEP, and its step. -/
def State.pllStep (s : State) (x : CoreSt) (i : Insn) : PllRes :=
  let r := s.recWord x i
  pllVal (r 0) (r 2) (r 3) (r 4) (r 5) (r 6) (r 7) (opA x i)

/-- One step of the ramp. -/
def State.profStep (s : State) (x : CoreSt) (i : Insn) : ProfRes :=
  let r := fun k => (s.recWord x i k).toInt
  profVal (r 0) (r 1) (r 2) (r 3) (r 4) (r 5) (opA x i).toInt

/-- FREEZE of the record. -/
def State.frozen (s : State) (x : CoreSt) (i : Insn) : Bool := bitAt (s.recWord x i 6) 1

/-- The words that a step writes back; POS and VEL outside the range of 32 bits wrap (DESIGN CHOICE, log entry 114). -/
def State.recWrites (s : State) (x : CoreSt) (i : Insn) : List Write :=
  let a := (opB x i).toNat
  if i.op = .pllstep then
    let r := s.pllStep x i
    [(a, r.theta, 15), (a + 4, r.omega, 15), (a + 8, r.int, 15)]
  else if s.frozen x i then []
  else
    let r := s.profStep x i
    [(a, wordOfInt r.pos, 15), (a + 4, wordOfInt r.vel, 15), (a + 8, wordOfInt r.acc, 15),
      (a + 0x18, putBit (s.recWord x i 6) 0 r.done, 15)]

/-! ### Exceptions of a slot (R94) -/

/-- An XFAULT (R139). -/
def xfault (x : CoreSt) (sub : Nat) : Cause :=
  ⟨0x0B, BitVec.ofNat 32 (match x.ctx with | some c => 2 ^ 16 + c % 256 * 256 + sub | none => sub)⟩

/-- The fault of PWMW's descriptor (R123, R124): BADSEL before UNBOUND before CBFULL (DESIGN CHOICE, log entry 113). -/
def State.pwmwFault (s : State) (x : CoreSt) (w : Word) : Option Nat :=
  match x.ctx with
  | none => some 0x01
  | some c =>
    match chanOfCode (fieldOf w 7 0) with
    | none => some 0x03
    | some ch =>
      if fieldOf w 31 12 ≠ 0 ∨ selOff ch (fieldOf w 11 8) = none then some 0x03
      else if !(s.pwmCodes c).contains (fieldOf w 7 0) then some 0x02
      else if 64 ≤ x.cb.length then some 0x04
      else none

/-- The XFAULT subcode of an instruction; a PRED in a region for an unbound component is COMPIDX (DESIGN CHOICE, log entry
113). -/
def State.xSub (s : State) (n : Nat) (x : CoreSt) (i : Insn) : Option Nat :=
  match i.op with
  | .samp => (match x.ctx with
    | none => some 0x01
    | some c => if s.ncomp c ≤ i.s2 then some 0x07 else none)
  | .pred => (match x.ctx with
    | none => some 0x01
    | some c => if s.ncomp c ≤ i.s2 then some 0x07 else if x.region ≠ .none then some 0x06 else none)
  | .spec => (match x.ctx with
    | none => some 0x01
    | some _ => if x.region ≠ .none then some 0x05 else none)
  | .pwmw => s.pwmwFault x (opB x i)
  | .pllstep =>
    let a := (opB x i).toNat
    if !ownLocal n a || decide (a % 32 ≠ 0) then some 0x09
    else if (s.recWord x i 7).toInt < (s.recWord x i 6).toInt then some 0x0A else none
  | .prof =>
    let a := (opB x i).toNat
    if !ownLocal n a || decide (a % 32 ≠ 0) then some 0x09 else if s.profOk x i then none else some 0x08
  | _ => none

/-- User mode forbids the instruction (R102). -/
def privBad (n : Nat) (x : CoreSt) (i : Insn) : Bool :=
  userMode n x && (match i.op with
    | .hret | .waitInt | .xlq | .xlinv | .xlinva => true
    | .csrw => !userCsr true i.imm
    | .csrr => !userCsr false i.imm
    | _ => false)

/-- The store may not be made at all (R75): MRAM, and less than a word to a register. -/
def storeBarred (o : Op) (pa : Nat) : Bool :=
  decide (memAt pa = some .mram) || (decide (memSize o < 4) && (memAt pa).isNone && (regAt (pa / 4 * 4)).isSome)

/-- The exception of a load or a store. -/
def State.memCause (s : State) (n : Nat) (x : CoreSt) (i : Insn) : Option Cause :=
  let va := effAddr x i
  let at' := fun code => some (⟨code, BitVec.ofNat 32 va⟩ : Cause)
  let t := xlate n x (isStore i.op).toNat va
  if t.1 ≠ 0 then at' t.1
  else if va % memSize i.op ≠ 0 then at' 0x06
  else if isStore i.op then
    if storeBarred i.op t.2 then at' 0x07
    else if (s.failing n (memSize i.op = 8) (storeWrites x i t.2)).isSome then at' 0x08
    else none
  else if (s.readWords n (t.2 / 4 * 4) (wordsOf (memSize i.op))).2.1 then at' 0x08
  else none

/-- The exception of an atomic instruction (R77). -/
def State.atomCause (s : State) (n : Nat) (x : CoreSt) (i : Insn) : Option Cause :=
  let va := (opA x i).toNat
  let at' := fun code => some (⟨code, BitVec.ofNat 32 va⟩ : Cause)
  let t := xlate n x 3 va
  if t.1 ≠ 0 then at' t.1
  else if va % 4 ≠ 0 then at' 0x06
  else if !inSram t.2 4 then at' 0x07
  else if (s.coreRead n t.2).2.1 || (s.coreWrite n t.2 0 15 false).2 then at' 0x08
  else none

/-- The exception of QPUSH and QPOP. CSR_EVAL is the address of the word of the buffer that fails (DEDUCED, log entry 112). -/
def State.queueCause (s : State) (n : Nat) (x : CoreSt) (i : Insn) : Option Cause :=
  let va := (opA x i).toNat
  let kind := if i.op = .qpush then 0 else 1
  let len := s.bufLen n x i
  let t := bufAddrs n x kind va (max 1 (bufWords len))
  match t.1 with
  | some e => some ⟨e.1, BitVec.ofNat 32 e.2⟩
  | none =>
    if va % 4 ≠ 0 then some ⟨0x06, BitVec.ofNat 32 va⟩
    else if len = 0 then none
    else
      let bad := if i.op = .qpush then t.2.findIdx? (fun a => (s.coreRead n a).2.1)
        else (msgWrites t.2 (s.popTry n (opB x i)).2.msg).findIdx? (fun w => (s.coreWrite n w.1 w.2.1 w.2.2 false).2)
      bad.map (fun k => ⟨0x08, BitVec.ofNat 32 (va + 4 * k)⟩)

/-- The exception of PLLSTEP and PROF: an uncorrectable word ranks before the faults of R139 (R94, R133). -/
def State.recCause (s : State) (n : Nat) (x : CoreSt) (i : Insn) : Option Cause :=
  let a := (opB x i).toNat
  if ownLocal n a && decide (a % 32 = 0) && ((s.readWords n a 8).2.1 || (s.failing n false (s.recWrites x i)).isSome) then
    some ⟨0x08, BitVec.ofNat 32 a⟩
  else (s.xSub n x i).map (xfault x)

/-- The exception that a decoded instruction raises, SYSCALL apart. -/
def State.opCause (s : State) (n : Nat) (x : CoreSt) (i : Insn) : Option Cause :=
  if privBad n x i then some ⟨0x03, i.word⟩
  else if memSize i.op ≠ 0 then s.memCause n x i
  else if isAtom i.op then s.atomCause n x i
  else if isQueue i.op then s.queueCause n x i
  else if isRecord i.op then s.recCause n x i
  else if i.op = .jr ∨ i.op = .jalr then
    (if (opA x i).toNat % 8 ≠ 0 then some ⟨0x06, opA x i⟩ else none)
  else (s.xSub n x i).map (xfault x)

/-- The guard of a word by its major opcode alone: a reserved function of an RRR or X major has the guard of its format. -/
def majorGuard (w : Word) : Nat :=
  if allOps.any (fun o => decide ((opRow o).major = w.toNat / 2 ^ 26) && (opRow o).fn.isSome) then bitsOf w.toNat 10 7 else 0

/-- The exception of a slot. One whose guard is false raises none (R61); a word that decodes to nothing is illegal. -/
def State.slotCause (s : State) (n : Nat) (x : CoreSt) (w : SlotW) : Option Cause :=
  match w.insn with
  | none => if guardOn x (majorGuard w.word) then some ⟨0x01, w.word⟩ else none
  | some i =>
    if !guardOn x i.guard then none
    else if !legalInsn (profileOf n) i then some ⟨0x01, w.word⟩
    else s.opCause n x i

/-! ### Waits (R114, R116, R163) -/

/-- The addresses of the words that an instruction stores. -/
def State.storedAt (s : State) (n : Nat) (x : CoreSt) (i : Insn) : List Nat :=
  if isStore i.op then (storeWrites x i (xlate n x 1 (effAddr x i)).2).map (·.1)
  else if isRecord i.op then (s.recWrites x i).map (·.1)
  else []

/-- An instruction of Spec A runs ahead (R69, R133). -/
def State.aheadOk (s : State) (n : Nat) (x : CoreSt) (i : Insn) : Bool :=
  if isLoad i.op then ownLocal n (effAddr x i)
  else if isStore i.op then s.inBlock n (effAddr x i) (memSize i.op)
  else s.inBlock n (opB x i).toNat 32

/-- The instruction stops issue until resolution (R116, R163). -/
def State.stallsAhead (s : State) (n : Nat) (x : CoreSt) (i : Insn) : Bool :=
  decide (x.region = .spec) && (match (opRow i.op).spec with
    | .S => false
    | .A => !s.aheadOk n x i || decide (64 < x.undo.length + (newUndo x (s.storedAt n x i)).length)
    | .N => true)

/-- SAMP waits for the real vector (R114, R169). -/
def State.sampWaits (s : State) (x : CoreSt) (i : Insn) : Bool :=
  decide (i.op = .samp) && decide (x.region ≠ .spec) && x.real.isNone &&
    (match x.ctx with | some c => !s.fbl c | none => false)

/-- The instruction accesses an island whose clock stands still, and waits for it (R36, R650). -/
def State.meetsStill (s : State) (n : Nat) (x : CoreSt) (i : Insn) : Bool :=
  if memSize i.op ≠ 0 then s.stillAt (xlate n x (isStore i.op).toNat (effAddr x i)).2
  else if isAtom i.op then s.stillAt (xlate n x 3 (opA x i).toNat).2
  else match i.op with
    | .qpush | .qpop => s.pdStill 3 ||
        (bufAddrs n x (decide (i.op = .qpop)).toNat (opA x i).toNat (bufWords (s.bufLen n x i))).2.any s.stillAt
    | .qstat => s.pdStill 3
    | .trace | .traced => x.ctx.isSome && s.pdStill 3
    | _ => false

/-- A slot makes its bundle wait. -/
def State.slotWaits (s : State) (n : Nat) (x : CoreSt) (w : SlotW) : Bool :=
  match w.insn with
  | none => false
  | some i => guardOn x i.guard && (s.stallsAhead n x i || s.sampWaits x i || s.meetsStill n x i)

/-! ### Effects -/

/-- A load (R73). -/
def State.doLoad (s : State) (n : Nat) (x : CoreSt) (i : Insn) : State :=
  let a := (xlate n x 0 (effAddr x i)).2
  let r := s.readWords n (a / 4 * 4) (wordsOf (memSize i.op))
  let s := r.1
  let v := loadVal i.op a (r.2.2.headD 0)
  match i.op with
  | .ldf => s.onCore n (fun y => setF y i.d v)
  | .ldd => (s.putG n i.d v).putG n (i.d + 1) (r.2.2.getD 1 0)
  | _ => s.putG n i.d v

/-- A store (R73, R163). -/
def State.doStore (s : State) (n : Nat) (x : CoreSt) (i : Insn) : State :=
  let l := storeWrites x i (xlate n x 1 (effAddr x i)).2
  (s.logUndo n (l.map (·.1))).writeWords n (memSize i.op = 8) l

/-- An atomic instruction (R77). -/
def State.doAtom (s : State) (n : Nat) (x : CoreSt) (i : Insn) : State :=
  let a := (xlate n x 3 (opA x i).toNat).2
  let r := s.coreRead n a
  let v := atomVal i.op r.2.2 (opB x i) (gReg x (i.s2 + 1))
  let s := (r.1.coreWrite n a v.val 15 false).1
  s.putQ n i.d ⟨r.2.2, v.qs⟩

/-- QPUSH and QPOP (R83, R84). -/
def State.doQueue (s : State) (n : Nat) (x : CoreSt) (i : Insn) : State :=
  let w := opB x i
  let va := (opA x i).toNat
  if i.op = .qpush then
    let r := s.pushTry n w
    if r.code = 0 then
      let len := (qOperand w).2.1
      let t := s.readAt n (bufAddrs n x 0 va (bufWords len)).2
      let m := (wordsBytes t.2.2).take len
      (t.1.qPush (masterOf n) (qOperand w).1 m).1.putG n i.d (qWord r)
    else
      let q := qOperand w
      let s := if q.2.2 then (s.qPush (masterOf n) q.1 (List.replicate q.2.1 0)).1 else s
      s.putG n i.d (qWord r)
  else
    let r := s.popTry n w
    let l := (bufAddrs n x 1 va (bufWords r.2.len)).2
    let s := if r.2.code = 0 then r.1.writeWords n false (msgWrites l r.2.msg) else r.1
    s.putG n i.d (qWord r.2)

/-- The accumulator group (R78). -/
def State.doAcc (s : State) (n : Nat) (x : CoreSt) (i : Insn) : State :=
  match i.op with
  | .accr | .accrl | .accrh | .accrg => s.putQ n i.d (accRead i.op (aReg x i.s1) i.s2)
  | _ =>
    let r := accVal i.op (aReg x i.d) (aReg x i.s1) (opA x i) (opB x i) i.s2
    s.onCore n (fun y => setCsr (setA y i.d r.val) 0x011 (accstatAv (csrOf y 0x011) i.d r.av))

/-- The float group (R80). -/
def State.doFloat (s : State) (n : Nat) (x : CoreSt) (i : Insn) : State :=
  let rnd := fieldOf (csrOf x 0x010) 2 0
  match i.op with
  | .feq | .flt | .fle | .fun =>
    let r := fcmpVal i.op (fReg x i.s1) (fReg x i.s2)
    (s.onCore n (fun y => setK y i.d r.1)).putFlags n r.2
  | .fcvtws | .fcvtqs | .fmvgf =>
    let r := fpVal i.op rnd 0 (fReg x i.s1) 0
    (s.putG n i.d r.val).putFlags n r.fl
  | .fcvtsw | .fcvtsq | .fmvfg =>
    let r := fpVal i.op rnd 0 (opA x i) 0
    (s.onCore n (fun y => setF y i.d r.val)).putFlags n r.fl
  | _ =>
    let r := fpVal i.op rnd (fReg x i.d) (fReg x i.s1) (fReg x i.s2)
    (s.onCore n (fun y => setF y i.d r.val)).putFlags n r.fl

/-- Compares and predicate logic (R70). -/
def State.doPred (s : State) (n : Nat) (x : CoreSt) (i : Insn) : State :=
  match i.op with
  | .pand | .por | .pxor | .pandn => s.onCore n (fun y => setK y i.d (predVal i.op (kReg x i.s1) (kReg x i.s2)))
  | .prd => s.putG n i.d (BitVec.ofNat 32 (mask8 (kReg x)))
  | .pwr => s.onCore n (fun y => (List.range 8).foldl (fun z k => setK z k (bitAt (opA x i) k)) y)
  | .cmpi => s.onCore n (fun y => setK y (i.d % 8) (cmpiVal (i.d / 8) (opA x i) i.imm))
  | _ => s.onCore n (fun y => setK y i.d (cmpVal i.op (opA x i) (opB x i)))

/-- Branches and jumps (R81): the next bundle address. -/
def State.doBranch (s : State) (n : Nat) (x : CoreSt) (i : Insn) : State :=
  let next := x.pc + 8
  let go := fun (t : State) (a : Word) => t.onCore n (fun y => { y with pc := a })
  match i.op with
  | .br => go s (x.pc + wordOfInt (8 * immSigned i))
  | .call => go (s.putG n 31 next) (x.pc + wordOfInt (8 * immSigned i))
  | .jalr => go (s.putG n i.d next) (opA x i)
  | _ => go s (opA x i)

/-- WAIT (R85): the core stops until an interrupt is pending, which may be at once. -/
def State.doWait (s : State) (n : Nat) : State :=
  if s.coreInt n then s
  else
    let s := { s with host := { s.host with woken := s.host.woken &&& (2 ^ 11 - 1 - 2 ^ n) } }
    s.setCore n { s.core n with waiting := true }

/-- The transforms (R130 to R132). -/
def State.doXform (s : State) (n : Nat) (x : CoreSt) (i : Insn) : State :=
  let a := opA x i
  let a1 := gReg x (i.s1 + 1)
  let b := opB x i
  let pair := fun (r : QRes × QRes) => s.putQs n i.d [r.1, r.2]
  match i.op with
  | .clarke => pair (clarkeVal a b)
  | .clarke3 => pair (clarke3Val a a1 b)
  | .park => pair (parkVal a a1 b)
  | .ipark => pair (iparkVal a a1 b)
  | .sincos => let r := sincosVal a; pair (qPlain r.1, qPlain r.2)
  | _ => s.putQs n i.d (symcompVal a a1 (gReg x (i.s1 + 2)) (gReg x (i.s1 + 3)))

/-- PLLSTEP (R134). -/
def State.doPll (s : State) (n : Nat) (x : CoreSt) (i : Insn) : State :=
  let r := s.pllStep x i
  let l := s.recWrites x i
  let s := (s.logUndo n (l.map (·.1))).writeWords n false l
  s.putQs n i.d [⟨r.theta, r.qs⟩, qPlain r.omega]

/-- PROF (R135). -/
def State.doProf (s : State) (n : Nat) (x : CoreSt) (i : Insn) : State :=
  if s.frozen x i then s.putG n i.d (s.recWord x i 0)
  else
    let r := s.profStep x i
    let l := s.recWrites x i
    let s := (s.logUndo n (l.map (·.1))).writeWords n false l
    s.putG n i.d (wordOfInt r.pos)

/-- What SAMP returns (R114, R169). -/
def State.sampVal (s : State) (x : CoreSt) (k : Nat) : Word :=
  match x.ctx with
  | none => 0
  | some c =>
    if s.fbl c then s.policyVal c k
    else if x.region = .spec then tblGet (fun _ => 0) (s.ctx c).pred k
    else (x.real.getD []).getD k 0

/-- The status of SPEC (R111, R156, R169). -/
def State.specStatus (s : State) (x : CoreSt) (c : Nat) : Nat :=
  if !bitAt (csrOf x 0x103) 0 || x.survey || s.fbl c then 2
  else if s.ncomp c = 0 ∨ x.real.isSome then 1 else 0

/-- SPEC (R110 to R112): the region begins; the checkpoint holds the core at the end of the bundle. -/
def State.doSpec (s : State) (n : Nat) (x : CoreSt) (i : Insn) : State :=
  match x.ctx with
  | none => s
  | some c =>
    let st := s.specStatus x c
    let y := setG (s.core n) i.d (BitVec.ofNat 32 st)
    let k : Checkpoint := ⟨y.g, y.acc, y.f, y.k, csrOf y 0x011, csrOf y 0x010, y.cb.length, y.pc⟩
    s.setCore n { y with region := if st = 0 then .spec else .live, specDst := i.d, ckpt := k, undo := [] }

/-- COMMIT (R117, R122): the buffer drains, its count is written, the region ends. -/
def State.doCommit (s : State) (n : Nat) (i : Insn) : State :=
  let r := s.drain n
  (r.1.putG n i.d (BitVec.ofNat 32 r.2)).onCore n (fun y => { y with region := .none, reexec := false })

/-- YIELD (R119, R122): a commit if the buffer holds entries, and the end of the dispatch. -/
def State.doYield (s : State) (n : Nat) : State :=
  match (s.core n).ctx with
  | none => s
  | some _ =>
    let s := if (s.core n).cb.isEmpty then s else (s.drain n).1
    (s.endDispatch n).swapCore n

/-- PWMW (R123). -/
def State.doPwmw (s : State) (n : Nat) (x : CoreSt) (i : Insn) : State :=
  let w := opB x i
  s.onCore n (fun y => { y with cb := y.cb ++ [⟨fieldOf w 11 8, fieldOf w 7 0, opA x i⟩] })

/-- TRACE and TRACED (R126). -/
def State.doTrace (s : State) (n : Nat) (x : CoreSt) (i : Insn) : State :=
  let dbl := decide (i.op = .traced)
  match x.ctx with
  | none => s.putG n i.d 0x0A
  | some c =>
    let v : BitVec 64 := if dbl then gReg x (i.s1 + 1) ++ opA x i else (opA x i).zeroExtend 64
    let r := s.traceWrite c i.s2 v dbl
    r.1.putG n i.d (BitVec.ofNat 32 (r.2 + (if r.2 = 0 then (if dbl then 8 else 4) * 256 else 0)))

/-- CTXQ (R129). -/
def State.ctxqWord (s : State) (n : Nat) (w : Word) : Word :=
  let c := w.toNat % 256
  if coreOf c ≠ n then 0
  else BitVec.ofNat 32 (c * 256 + 16 * (s.on (R.RAFTER_CTX_STAT_PEND c)).toNat + 8 * (s.on (R.RAFTER_CTX_STAT_SWP c)).toNat +
    4 * (s.fbl c).toNat + 2 * (s.isCfg c).toNat + (s.isOpen c).toNat)

/-- The control group of the extensions. -/
def State.doControl (s : State) (n : Nat) (x : CoreSt) (i : Insn) : State :=
  match i.op with
  | .samp => s.putG n i.d (s.sampVal x i.s2)
  | .pred => (match x.ctx with
    | some c => s.setCtx c { s.ctx c with pred := tblSet (fun _ => 0) (s.ctx c).pred i.s2 (opA x i) }
    | none => s)
  | .spec => s.doSpec n x i
  | .commit => s.doCommit n i
  | .squash => if x.region = .spec then s.rollback n 4 else s
  | .yield => s.doYield n
  | .pwmw => s.doPwmw n x i
  | .trace | .traced => s.doTrace n x i
  | .openCtx => let r := s.ctxOpen n (opA x i); r.1.putG n i.d (BitVec.ofNat 32 r.2)
  | .closeCtx => let r := s.ctxClose n (opA x i); r.1.putG n i.d (BitVec.ofNat 32 r.2)
  | .ctxq => s.putG n i.d (s.ctxqWord n (opA x i))
  | _ => s

/-- The system group, CSR access and the translation group (R85, R86, R105). SYSCALL leaves with the bundle complete
(R95). XLINV clears V in the regions that match as an access would, so not in one with a misaligned base or SIZE 0b111 (DESIGN
CHOICE, log entry 115). -/
def State.doSystem (s : State) (n : Nat) (x : CoreSt) (i : Insn) : State :=
  match i.op with
  | .waitInt => s.doWait n
  | .syscall => s.takeException n ⟨0x09, BitVec.ofNat 32 (i.s1 * 32 + i.s2)⟩ 1 (s.core n).pc
  | .hret => s.onCore n (hretCore x)
  | .csrr => let r := s.csrRead n x i.imm; r.1.putG n i.d r.2
  | .csrw => s.csrWrite n i.imm i.d (opA x i)
  | .xlq => s.putG n i.d (xlqWord n x (opA x i) (fieldOf (opB x i) 1 0))
  | .xlinv => s.onCore n (fun y => xlClear y (fun k =>
      xlMatch y k (opA x i).toNat) 32)
  | .xlinva => s.onCore n (fun y => xlClear y (fun _ => true) 32)
  | _ => s

/-- The effect of an instruction whose guard is true. -/
def State.apply (s : State) (n : Nat) (x : CoreSt) (i : Insn) : State :=
  match i.op with
  | .nop | .fence => s
  | .waitInt | .syscall | .hret | .csrr | .csrw | .xlq | .xlinv | .xlinva => s.doSystem n x i
  | .add | .sub | .and | .or | .xor | .andn | .sll | .srl | .sra | .ror | .slt | .sltu | .min | .max | .minu | .maxu
  | .adds | .subs | .abs | .clz | .popc => s.putQ n i.d (aluVal i.op (opA x i) (opB x i))
  | .muld | .muldu | .muldm =>
    let r := wideVal i.op (opA x i) (opB x i)
    (s.putG n i.d r.1).putG n (i.d + 1) r.2
  | .mul | .div | .divu | .rem | .remu | .qmul | .qmul2 => s.putQ n i.d (mulDivVal i.op (opA x i) (opB x i))
  | .ceq | .cne | .clt | .cge | .cltu | .cgeu | .pand | .por | .pxor | .pandn | .prd | .pwr | .cmpi => s.doPred n x i
  | .addi | .andi | .ori | .xori | .slti | .sltiu | .lui | .shi => s.putG n i.d (immVal i.op (opA x i) i.imm)
  | .ldb | .ldbu | .ldh | .ldhu | .ldw | .ldd | .ldf => s.doLoad n x i
  | .stb | .sth | .stw | .std | .stf => s.doStore n x i
  | .atxch | .atadd | .atand | .ator | .atxor | .atmax | .atmin | .atcas | .atadds | .atring => s.doAtom n x i
  | .mac | .msu | .macz | .mac2 | .msu2 | .accld | .accr | .accrl | .accrh | .accrg | .accwl | .accwh | .accwg
  | .accadd | .accsub | .accmv | .accsh | .accclr => s.doAcc n x i
  | .fadd | .fsub | .fmul | .fdiv | .fsqrt | .fma | .fms | .fmin | .fmax | .fabs | .fneg | .fmov | .fcvtsw | .fcvtws
  | .fcvtqs | .fcvtsq | .fmvgf | .fmvfg | .feq | .flt | .fle | .fun | .rsqrt => s.doFloat n x i
  | .br | .call | .jr | .jalr => s.doBranch n x i
  | .qpush | .qpop => s.doQueue n x i
  | .qstat => s.putG n i.d (s.qStat (masterOf n) (fieldOf (opB x i) 4 0))
  | .samp | .pred | .spec | .commit | .squash | .yield | .pwmw | .trace | .traced | .openCtx | .closeCtx | .ctxq =>
    s.doControl n x i
  | .clarke | .clarke3 | .park | .ipark | .sincos | .symcomp => s.doXform n x i
  | .pllstep => s.doPll n x i
  | .prof => s.doProf n x i
  | .sat => s.putQ n i.d (satVal (opA x i) i.s2)
  | .limit => s.putQ n i.d (limitVal (opA x i) (opB x i) (gReg x (i.s2 + 1)))

/-- The effect of a slot. -/
def State.applySlot (s : State) (n : Nat) (x : CoreSt) (w : SlotW) : State :=
  match w.insn with
  | none => s
  | some i => if guardOn x i.guard then s.apply n x i else s

end Sys2Proof.Machine
end

