-- ==== Sys2Proof/Machine/Bundle.lean ====
section
/-!
DEFINITION. The issue of a bundle on a core (R53 to R56, R94, R95, R98, R116): its exceptions, its waits, its retirement, and
the taking of an interrupt (R97, R121).
-/

namespace Sys2Proof.Machine

/-- A fetch at a physical address is refused or finds an uncorrectable word (R36, R41, R94), or falls into the standby bank of
a core that runs a banked image (R592). The Warden fetches from its ROM (R409). -/
def State.fetchFails (s : State) (n pa : Nat) : Bool :=
  if n = 10 then false
  else match memAt pa with
    | some k => s.memShut (masterOf n) k || s.marked pa ||
        (decide (k = .rcInstr n) && (s.get R.CFGSET_BANK_SPLIT).testBit n && decide (0x10000 ≤ pa % 0x20000))
    | none => (regAt pa).isSome && !s.pdOpen (pdOfReg pa)

/-- The exception of the bundle's fetch. -/
def State.fetchCause (s : State) (n : Nat) (x : CoreSt) : Option Cause :=
  let t := xlate n x 2 x.pc.toNat
  if t.1 ≠ 0 then some ⟨t.1, x.pc⟩ else if s.fetchFails n t.2 then some ⟨0x08, x.pc⟩ else none

/-- The instruction of a slot as the rules on bundles see it: a word that decodes to none has no class and no destination. -/
def SlotW.shape (a : SlotW) : Insn := a.insn.getD (insnOf .nop 0)

/-- The bundle breaks R55, R56 or R108. -/
def slotsClash (a b : SlotW) : Bool := bundleBad a.shape b.shape

/-- The exception that a bundle reports, with its slot (R94): the fetch's, BUNDLE, or the higher of its slots', of equal ones
slot 0's. The fetch's and BUNDLE give slot 0, which the spec leaves open for them (DESIGN CHOICE, log entry 117). -/
def State.bundleCause (s : State) (n : Nat) (x : CoreSt) (a b : SlotW) : Option (Cause × Nat) :=
  match s.fetchCause n x with
  | some c => some (c, 0)
  | none =>
    if slotsClash a b then some (⟨0x02, b.word⟩, 0)
    else match s.slotCause n x a, s.slotCause n x b with
      | some c, some d => if causeRank d.code < causeRank c.code then some (d, 1) else some (c, 0)
      | some c, none => some (c, 0)
      | none, some d => some (d, 1)
      | none, none => none

/-- What a failing write of the suppressed bundle has still done at its target: the mark of R614. -/
def State.failedWrite (s : State) (n : Nat) (x : CoreSt) (w : SlotW) : State :=
  match w.insn with
  | some i =>
    if guardOn x i.guard && isStore i.op then
      let whole := decide (memSize i.op = 8)
      match s.failing n whole (storeWrites x i (xlate n x 1 (effAddr x i)).2) with
      | some v => (s.coreWrite n v.1 v.2.1 v.2.2 whole).1
      | none => s
    else s
  | none => s

/-- Raise the exception of a bundle that is suppressed (R95). -/
def State.suppress (s : State) (n : Nat) (x : CoreSt) (a b : SlotW) (c : Cause) (slot : Nat) : State :=
  let s := if c.code = 0x08 then s.failedWrite n x (if slot = 0 then a else b) else s
  s.takeException n c slot x.pc

/-- The bundle waits to issue. -/
def State.holdBundle (s : State) (n : Nat) (a b : SlotW) : State :=
  s.onCore n (fun y => { y with stalled := some (a.word, b.word) })

/-- The bundle retires: the program counter moves on, and both slots act on operands read before it (R54). -/
def State.retire (s : State) (n : Nat) (x : CoreSt) (a b : SlotW) : State :=
  ((s.onCore n (fun y => { y with pc := x.pc + 8 })).applySlot n x a).applySlot n x b

/-- A bundle issues: it raises its exception, which waits for resolution while the region runs ahead (R98), or it waits, or it
retires. -/
def State.runBundle (s : State) (n : Nat) (a b : SlotW) : State :=
  let x := s.core n
  match s.bundleCause n x a b with
  | some (c, slot) => if x.region = .spec then s.holdBundle n a b else s.suppress n x a b c slot
  | none => if s.slotWaits n x a || s.slotWaits n x b then s.holdBundle n a b else s.retire n x a b

/-- A word in a slot. -/
def slotOf (w : Word) : SlotW := ⟨w, decodeInsn w⟩

/-- A bundle that waited tries again: its region has resolved, its vector has come, or the flag ends its wait. -/
def State.retry (s : State) (n : Nat) : State :=
  match (s.core n).stalled with
  | some w =>
    if s.pdRun (pdOfCore n) && !(s.core n).lockup then
      (s.onCore n (fun y => { y with stalled := none })).runBundle n (slotOf w.1) (slotOf w.2)
    else s
  | none => s

/-- Every core's waiting bundle tries again. -/
def State.retryAll (s : State) : State := s.each (List.range 11) (fun n t => t.retry n)

/-- The fetch of the next bundle waits: the clock of the island that holds it stands still (R36, R650). -/
def State.fetchStill (s : State) (n : Nat) : Bool :=
  decide (n ≠ 10) && s.stillAt (xlate n (s.core n) 2 (s.core n).pc.toNat).2

/-- The core can issue now: it runs and its fetch is answered, and a WAIT under which it stands has ended by a pending
interrupt (R85, R99, R648). -/
def State.ready (s : State) (n : Nat) : Option State :=
  let x := s.core n
  let t :=
    if !s.pdRun (pdOfCore n) || x.lockup || x.stalled.isSome then none
    else if x.waiting then (if s.intSeen n then some (s.setCore n { x with waiting := false }) else none)
    else if x.ctx.isSome then some s
    else if x.bgWait then
      (if s.intSeen n then some (s.setCore n { x with bgWait := false, between := false, pc := x.bgPc }) else none)
    else some (s.setCore n { x with between := false })
  t.filter (fun t => !t.fetchStill n)

/-- Errors in words that a core's bundle reads (R41): in the Warden's SRAM, WMEM (R437). -/
def State.bundleErr (s : State) (n : Nat) (err : List (Nat × Bool)) : State :=
  if n = 10 then
    err.foldl (fun t e =>
      if (wardenRam e.1).isNone then t
      else if e.2 then { t with eccFixed := t.eccFixed + 1 } else t.safeFault 10 2) s
  else s.eccFound err

/-- The core can issue a bundle, and still runs once the errors in the words it reads have had their effect (R41, R49). -/
def State.issuable (s : State) (x : Issue) : Option State :=
  ((s.ready x.core).map (fun t => t.bundleErr x.core x.err)).filter (fun t => t.pdRun (pdOfCore x.core))

/-- An instruction issues in its slot, with the word in the other. A bundle that waits tries first. -/
def State.issue (s : State) (x : Issue) (i : Insn) : State :=
  let s := s.retry x.core
  match s.issuable x with
  | none => (match s.ready x.core with | some t => t.bundleErr x.core x.err | none => s)
  | some t =>
    let own : SlotW := ⟨i.word, some i⟩
    if x.slot then t.runBundle x.core (slotOf x.mate) own else t.runBundle x.core own (slotOf x.mate)

/-- An interrupt is taken at a bundle boundary (R97), never in the speculative part of a region (R121). -/
def State.interrupt (s : State) (n : Nat) : State :=
  let s := s.retry n
  if s.coreInt n then
    match s.ready n with
    | none => s
    | some t =>
      let x := t.core n
      let st := csrOf x 0
      if bitAt st 0 && !bitAt st 1 && decide (csrOf x 5 ≠ 0) && decide (x.region ≠ .spec) then
        t.setCore n (excEntry x 0x10 0 0 x.pc)
      else s
  else s

end Sys2Proof.Machine
end

