-- ==== Sys2Proof/Machine/JenmelArith.lean ====
section
/-!
DEFINITION. The multiply, divide and accumulator instructions (R72, R78).
-/

namespace Sys2Proof.Machine

/-- MUL (R68): Low 32 bits of a product. -/
def execMul (x : Issue) (f : Rrr) (s : State) : Answer := .next (s.issue x (insnRrr .mul f))

/-- MULD (R72): Signed 64-bit product into a register pair. -/
def execMuld (x : Issue) (f : Rrr) (s : State) : Answer := .next (s.issue x (insnRrr .muld f))

/-- MULDU (R72): Unsigned 64-bit product into a register pair. -/
def execMuldu (x : Issue) (f : Rrr) (s : State) : Answer := .next (s.issue x (insnRrr .muldu f))

/-- MULDM (R72): Signed by unsigned 64-bit product into a pair. -/
def execMuldm (x : Issue) (f : Rrr) (s : State) : Answer := .next (s.issue x (insnRrr .muldm f))

/-- DIV (R72): Signed division with defined results for zero and overflow. -/
def execDiv (x : Issue) (f : Rrr) (s : State) : Answer := .next (s.issue x (insnRrr .div f))

/-- DIVU (R72): Unsigned division. -/
def execDivu (x : Issue) (f : Rrr) (s : State) : Answer := .next (s.issue x (insnRrr .divu f))

/-- REM (R72): Signed remainder. -/
def execRem (x : Issue) (f : Rrr) (s : State) : Answer := .next (s.issue x (insnRrr .rem f))

/-- REMU (R72): Unsigned remainder. -/
def execRemu (x : Issue) (f : Rrr) (s : State) : Answer := .next (s.issue x (insnRrr .remu f))

/-- QMUL (R65): Q1.31 multiply, rounded and saturated. -/
def execQmul (x : Issue) (f : Rrr) (s : State) : Answer := .next (s.issue x (insnRrr .qmul f))

/-- QMUL2 (R65): Two Q1.15 multiplies, rounded and saturated. -/
def execQmul2 (x : Issue) (f : Rrr) (s : State) : Answer := .next (s.issue x (insnRrr .qmul2 f))

/-- MAC (R78): Accumulator multiply-accumulate. -/
def execMac (x : Issue) (f : Rrr) (s : State) : Answer := .next (s.issue x (insnRrr .mac f))

/-- MSU (R78): Accumulator multiply-subtract. -/
def execMsu (x : Issue) (f : Rrr) (s : State) : Answer := .next (s.issue x (insnRrr .msu f))

/-- MACZ (R78): Accumulator set to a product. -/
def execMacz (x : Issue) (f : Rrr) (s : State) : Answer := .next (s.issue x (insnRrr .macz f))

/-- MAC2 (R78): Dual halfword multiply-accumulate. -/
def execMac2 (x : Issue) (f : Rrr) (s : State) : Answer := .next (s.issue x (insnRrr .mac2 f))

/-- MSU2 (R78): Dual halfword multiply-subtract. -/
def execMsu2 (x : Issue) (f : Rrr) (s : State) : Answer := .next (s.issue x (insnRrr .msu2 f))

/-- ACCLD (R78): Load a Q1.31 value into an accumulator. -/
def execAccld (x : Issue) (f : Rrr) (s : State) : Answer := .next (s.issue x (insnRrr .accld f))

/-- ACCR (R78): Round and saturate an accumulator into a G register. -/
def execAccr (x : Issue) (f : Rrr) (s : State) : Answer := .next (s.issue x (insnRrr .accr f))

/-- ACCRL (R78): Read accumulator bits 31:0. -/
def execAccrl (x : Issue) (f : Rrr) (s : State) : Answer := .next (s.issue x (insnRrr .accrl f))

/-- ACCRH (R78): Read accumulator bits 63:32. -/
def execAccrh (x : Issue) (f : Rrr) (s : State) : Answer := .next (s.issue x (insnRrr .accrh f))

/-- ACCRG (R78): Read accumulator guard bits. -/
def execAccrg (x : Issue) (f : Rrr) (s : State) : Answer := .next (s.issue x (insnRrr .accrg f))

/-- ACCWL (R78): Write accumulator bits 31:0. -/
def execAccwl (x : Issue) (f : Rrr) (s : State) : Answer := .next (s.issue x (insnRrr .accwl f))

/-- ACCWH (R78): Write accumulator bits 63:32. -/
def execAccwh (x : Issue) (f : Rrr) (s : State) : Answer := .next (s.issue x (insnRrr .accwh f))

/-- ACCWG (R78): Write accumulator guard bits. -/
def execAccwg (x : Issue) (f : Rrr) (s : State) : Answer := .next (s.issue x (insnRrr .accwg f))

/-- ACCADD (R78): Add two accumulators. -/
def execAccadd (x : Issue) (f : Rrr) (s : State) : Answer := .next (s.issue x (insnRrr .accadd f))

/-- ACCSUB (R78): Subtract two accumulators. -/
def execAccsub (x : Issue) (f : Rrr) (s : State) : Answer := .next (s.issue x (insnRrr .accsub f))

/-- ACCMV (R78): Copy an accumulator. -/
def execAccmv (x : Issue) (f : Rrr) (s : State) : Answer := .next (s.issue x (insnRrr .accmv f))

/-- ACCSH (R78): Shift an accumulator by an immediate. -/
def execAccsh (x : Issue) (f : Rrr) (s : State) : Answer := .next (s.issue x (insnRrr .accsh f))

/-- ACCCLR (R78): Clear an accumulator. -/
def execAccclr (x : Issue) (f : Rrr) (s : State) : Answer := .next (s.issue x (insnRrr .accclr f))

end Sys2Proof.Machine
end

