-- ==== Sys2Proof/Machine/JenmelCtl.lean ====
section
/-!
DEFINITION. Branches and jumps (R81), the system group (R85), CSR access (R86), the translation group (R105) and interrupts (R97).
-/

namespace Sys2Proof.Machine

/-- BR (R81): Guarded relative branch. -/
def execBr (x : Issue) (f : Bf) (s : State) : Answer := .next (s.issue x (insnB .br f))

/-- CALL (R81): Guarded relative call writing G31. -/
def execCall (x : Issue) (f : Bf) (s : State) : Answer := .next (s.issue x (insnB .call f))

/-- JR (R81): Jump to the address in s1. -/
def execJr (x : Issue) (f : Rrr) (s : State) : Answer := .next (s.issue x (insnRrr .jr f))

/-- JALR (R81): Jump to s1 and write the return address to d. -/
def execJalr (x : Issue) (f : Rrr) (s : State) : Answer := .next (s.issue x (insnRrr .jalr f))

/-- NOP (R85): No operation. -/
def execNop (x : Issue) (f : Rrr) (s : State) : Answer := .next (s.issue x (insnRrr .nop f))

/-- FENCE (R85): Wait for earlier memory operations, then refetch. -/
def execFence (x : Issue) (f : Rrr) (s : State) : Answer := .next (s.issue x (insnRrr .fence f))

/-- WAIT (R85): Stop issue until an interrupt is pending. -/
def execWaitInt (x : Issue) (f : Rrr) (s : State) : Answer := .next (s.issue x (insnRrr .waitInt f))

/-- SYSCALL (R85): Raise the SYSCALL exception with a code. -/
def execSyscall (x : Issue) (f : Rrr) (s : State) : Answer := .next (s.issue x (insnRrr .syscall f))

/-- HRET (R96): Return from an exception handler. -/
def execHret (x : Issue) (f : Rrr) (s : State) : Answer := .next (s.issue x (insnRrr .hret f))

/-- CSRR (R86): Read a CSR. -/
def execCsrr (x : Issue) (f : Ri) (s : State) : Answer := .next (s.issue x (insnRi .csrr f.d f.s1 f.imm))

/-- CSRW_WRITE (R86): Write a CSR (mode 0). -/
def execCsrwWrite (x : Issue) (f : Rw) (s : State) : Answer := .next (s.issue x (insnRi .csrw 0 f.s1 f.imm))

/-- CSRW_SET (R86): Set bits of a CSR (mode 1). -/
def execCsrwSet (x : Issue) (f : Rw) (s : State) : Answer := .next (s.issue x (insnRi .csrw 1 f.s1 f.imm))

/-- CSRW_CLEAR (R86): Clear bits of a CSR (mode 2). -/
def execCsrwClear (x : Issue) (f : Rw) (s : State) : Answer := .next (s.issue x (insnRi .csrw 2 f.s1 f.imm))

/-- XLQ (R105): Query an address translation without faulting. -/
def execXlq (x : Issue) (f : Rrr) (s : State) : Answer := .next (s.issue x (insnRrr .xlq f))

/-- XLINV (R105): Invalidate regions containing an address. -/
def execXlinv (x : Issue) (f : Rrr) (s : State) : Answer := .next (s.issue x (insnRrr .xlinv f))

/-- XLINVA (R105): Invalidate all translation regions. -/
def execXlinva (x : Issue) (f : Rrr) (s : State) : Answer := .next (s.issue x (insnRrr .xlinva f))

/-- INT (R97): A pending interrupt is taken at a bundle boundary when enabled. -/
def execTakeInt (core : Fin 11) (s : State) : Answer := .next (s.interrupt core)

end Sys2Proof.Machine
end

