-- ==== Sys2Proof/Machine/JenmelExt.lean ====
section
/-!
DEFINITION. The control extensions (R110 to R137).
-/

namespace Sys2Proof.Machine

/-- SAMP (R114): Read a sample component, predicted or real, waiting if needed. -/
def execSamp (x : Issue) (f : Rrr) (s : State) : Answer := .next (s.issue x (insnRrr .samp f))

/-- PRED (R113): Store a prediction for a sample component. -/
def execPred (x : Issue) (f : Rrr) (s : State) : Answer := .next (s.issue x (insnRrr .pred f))

/-- SPEC (R111): Take a checkpoint and begin a run-ahead region. -/
def execSpec (x : Issue) (f : Rrr) (s : State) : Answer := .next (s.issue x (insnRrr .spec f))

/-- COMMIT (R117): Wait for resolution, drain the commit buffer and end the region. -/
def execCommit (x : Issue) (f : Rrr) (s : State) : Answer := .next (s.issue x (insnRrr .commit f))

/-- SQUASH (R118): Roll back a speculative region. -/
def execSquash (x : Issue) (f : Rrr) (s : State) : Answer := .next (s.issue x (insnRrr .squash f))

/-- YIELD (R119): Commit if needed and end the dispatch. -/
def execYield (x : Issue) (f : Rrr) (s : State) : Answer := .next (s.issue x (insnRrr .yield f))

/-- PWMW (R123): Stage one PWM write in the commit buffer. -/
def execPwmw (x : Issue) (f : Rrr) (s : State) : Answer := .next (s.issue x (insnRrr .pwmw f))

/-- TRACE (R126): Write a 32-bit value to a trace node. -/
def execTrace (x : Issue) (f : Rrr) (s : State) : Answer := .next (s.issue x (insnRrr .trace f))

/-- TRACED (R126): Write a 64-bit value to a trace node. -/
def execTraced (x : Issue) (f : Rrr) (s : State) : Answer := .next (s.issue x (insnRrr .traced f))

/-- OPEN (R127): Open a loop context. -/
def execOpenCtx (x : Issue) (f : Rrr) (s : State) : Answer := .next (s.issue x (insnRrr .openCtx f))

/-- CLOSE (R127): Close a loop context. -/
def execCloseCtx (x : Issue) (f : Rrr) (s : State) : Answer := .next (s.issue x (insnRrr .closeCtx f))

/-- CTXQ (R129): Query the state of a context. -/
def execCtxq (x : Issue) (f : Rrr) (s : State) : Answer := .next (s.issue x (insnRrr .ctxq f))

/-- CLARKE (R130): Two-phase Clarke transform. -/
def execClarke (x : Issue) (f : Rrr) (s : State) : Answer := .next (s.issue x (insnRrr .clarke f))

/-- CLARKE3 (R130): Three-phase Clarke transform. -/
def execClarke3 (x : Issue) (f : Rrr) (s : State) : Answer := .next (s.issue x (insnRrr .clarke3 f))

/-- PARK (R130): Park transform. -/
def execPark (x : Issue) (f : Rrr) (s : State) : Answer := .next (s.issue x (insnRrr .park f))

/-- IPARK (R130): Inverse Park transform. -/
def execIpark (x : Issue) (f : Rrr) (s : State) : Answer := .next (s.issue x (insnRrr .ipark f))

/-- SINCOS (R131): Sine and cosine of a turn-fraction angle. -/
def execSincos (x : Issue) (f : Rrr) (s : State) : Answer := .next (s.issue x (insnRrr .sincos f))

/-- SYMCOMP (R132): Positive and negative sequence components. -/
def execSymcomp (x : Issue) (f : Rrr) (s : State) : Answer := .next (s.issue x (insnRrr .symcomp f))

/-- PLLSTEP (R134): Advance a phase-locked loop record one step. -/
def execPllstep (x : Issue) (f : Rrr) (s : State) : Answer := .next (s.issue x (insnRrr .pllstep f))

/-- PROF (R135): Advance a jerk-limited ramp record one step. -/
def execProf (x : Issue) (f : Rrr) (s : State) : Answer := .next (s.issue x (insnRrr .prof f))

/-- SAT (R137): Clamp to a signed bit width. -/
def execSat (x : Issue) (f : Rrr) (s : State) : Answer := .next (s.issue x (insnRrr .sat f))

/-- LIMIT (R137): Clamp between lower and upper bounds. -/
def execLimit (x : Issue) (f : Rrr) (s : State) : Answer := .next (s.issue x (insnRrr .limit f))

end Sys2Proof.Machine
end

