-- ==== Sys2Proof/Machine/JenmelFloat.lean ====
section
/-!
DEFINITION. The float instructions (R80) and RSQRT (R138).
-/

namespace Sys2Proof.Machine

/-- FADD (R80): Float add. -/
def execFadd (x : Issue) (f : Rrr) (s : State) : Answer := .next (s.issue x (insnRrr .fadd f))

/-- FSUB (R80): Float subtract. -/
def execFsub (x : Issue) (f : Rrr) (s : State) : Answer := .next (s.issue x (insnRrr .fsub f))

/-- FMUL (R80): Float multiply. -/
def execFmul (x : Issue) (f : Rrr) (s : State) : Answer := .next (s.issue x (insnRrr .fmul f))

/-- FDIV (R80): Float divide. -/
def execFdiv (x : Issue) (f : Rrr) (s : State) : Answer := .next (s.issue x (insnRrr .fdiv f))

/-- FSQRT (R80): Float square root. -/
def execFsqrt (x : Issue) (f : Rrr) (s : State) : Answer := .next (s.issue x (insnRrr .fsqrt f))

/-- FMA (R80): Fused multiply-add. -/
def execFma (x : Issue) (f : Rrr) (s : State) : Answer := .next (s.issue x (insnRrr .fma f))

/-- FMS (R80): Fused multiply-subtract. -/
def execFms (x : Issue) (f : Rrr) (s : State) : Answer := .next (s.issue x (insnRrr .fms f))

/-- FMIN (R80): minimumNumber. -/
def execFmin (x : Issue) (f : Rrr) (s : State) : Answer := .next (s.issue x (insnRrr .fmin f))

/-- FMAX (R80): maximumNumber. -/
def execFmax (x : Issue) (f : Rrr) (s : State) : Answer := .next (s.issue x (insnRrr .fmax f))

/-- FABS (R80): Clear the sign. -/
def execFabs (x : Issue) (f : Rrr) (s : State) : Answer := .next (s.issue x (insnRrr .fabs f))

/-- FNEG (R80): Invert the sign. -/
def execFneg (x : Issue) (f : Rrr) (s : State) : Answer := .next (s.issue x (insnRrr .fneg f))

/-- FMOV (R80): Copy a float register. -/
def execFmov (x : Issue) (f : Rrr) (s : State) : Answer := .next (s.issue x (insnRrr .fmov f))

/-- FCVTSW (R80): Integer to float. -/
def execFcvtsw (x : Issue) (f : Rrr) (s : State) : Answer := .next (s.issue x (insnRrr .fcvtsw f))

/-- FCVTWS (R80): Float to saturated integer. -/
def execFcvtws (x : Issue) (f : Rrr) (s : State) : Answer := .next (s.issue x (insnRrr .fcvtws f))

/-- FCVTQS (R80): Float to saturated Q1.31. -/
def execFcvtqs (x : Issue) (f : Rrr) (s : State) : Answer := .next (s.issue x (insnRrr .fcvtqs f))

/-- FCVTSQ (R80): Q1.31 to float. -/
def execFcvtsq (x : Issue) (f : Rrr) (s : State) : Answer := .next (s.issue x (insnRrr .fcvtsq f))

/-- FMVGF (R80): Move float bits to a G register. -/
def execFmvgf (x : Issue) (f : Rrr) (s : State) : Answer := .next (s.issue x (insnRrr .fmvgf f))

/-- FMVFG (R80): Move G bits to a float register. -/
def execFmvfg (x : Issue) (f : Rrr) (s : State) : Answer := .next (s.issue x (insnRrr .fmvfg f))

/-- FEQ (R80): Quiet float equality into a predicate. -/
def execFeq (x : Issue) (f : Rrr) (s : State) : Answer := .next (s.issue x (insnRrr .feq f))

/-- FLT (R80): Float less-than into a predicate. -/
def execFlt (x : Issue) (f : Rrr) (s : State) : Answer := .next (s.issue x (insnRrr .flt f))

/-- FLE (R80): Float less-or-equal into a predicate. -/
def execFle (x : Issue) (f : Rrr) (s : State) : Answer := .next (s.issue x (insnRrr .fle f))

/-- FUN (R80): Predicate set if either operand is NaN. -/
def execFun (x : Issue) (f : Rrr) (s : State) : Answer := .next (s.issue x (insnRrr .fun f))

/-- RSQRT (R138): Approximate reciprocal square root. -/
def execRsqrt (x : Issue) (f : Rrr) (s : State) : Answer := .next (s.issue x (insnRrr .rsqrt f))

end Sys2Proof.Machine
end

