-- ==== Sys2Proof/Machine/JenmelInt.lean ====
section
/-!
DEFINITION. The integer, immediate, compare and predicate instructions (R68 to R71).
-/

namespace Sys2Proof.Machine

/-- ADD (R68): Integer add of two G registers modulo 2^32. -/
def execAdd (x : Issue) (f : Rrr) (s : State) : Answer := .next (s.issue x (insnRrr .add f))

/-- SUB (R68): Integer subtract of two G registers modulo 2^32. -/
def execSub (x : Issue) (f : Rrr) (s : State) : Answer := .next (s.issue x (insnRrr .sub f))

/-- AND (R68): Bitwise AND of two G registers. -/
def execAnd (x : Issue) (f : Rrr) (s : State) : Answer := .next (s.issue x (insnRrr .and f))

/-- OR (R68): Bitwise OR of two G registers. -/
def execOr (x : Issue) (f : Rrr) (s : State) : Answer := .next (s.issue x (insnRrr .or f))

/-- XOR (R68): Bitwise XOR of two G registers. -/
def execXor (x : Issue) (f : Rrr) (s : State) : Answer := .next (s.issue x (insnRrr .xor f))

/-- ANDN (R68): s1 AND NOT s2. -/
def execAndn (x : Issue) (f : Rrr) (s : State) : Answer := .next (s.issue x (insnRrr .andn f))

/-- SLL (R68): Logical left shift by s2[4:0]. -/
def execSll (x : Issue) (f : Rrr) (s : State) : Answer := .next (s.issue x (insnRrr .sll f))

/-- SRL (R68): Logical right shift by s2[4:0]. -/
def execSrl (x : Issue) (f : Rrr) (s : State) : Answer := .next (s.issue x (insnRrr .srl f))

/-- SRA (R68): Arithmetic right shift by s2[4:0]. -/
def execSra (x : Issue) (f : Rrr) (s : State) : Answer := .next (s.issue x (insnRrr .sra f))

/-- ROR (R68): Rotate right by s2[4:0]. -/
def execRor (x : Issue) (f : Rrr) (s : State) : Answer := .next (s.issue x (insnRrr .ror f))

/-- SLT (R68): Set 1 if s1 < s2 signed. -/
def execSlt (x : Issue) (f : Rrr) (s : State) : Answer := .next (s.issue x (insnRrr .slt f))

/-- SLTU (R68): Set 1 if s1 < s2 unsigned. -/
def execSltu (x : Issue) (f : Rrr) (s : State) : Answer := .next (s.issue x (insnRrr .sltu f))

/-- MIN (R68): Signed minimum. -/
def execMin (x : Issue) (f : Rrr) (s : State) : Answer := .next (s.issue x (insnRrr .min f))

/-- MAX (R68): Signed maximum. -/
def execMax (x : Issue) (f : Rrr) (s : State) : Answer := .next (s.issue x (insnRrr .max f))

/-- MINU (R68): Unsigned minimum. -/
def execMinu (x : Issue) (f : Rrr) (s : State) : Answer := .next (s.issue x (insnRrr .minu f))

/-- MAXU (R68): Unsigned maximum. -/
def execMaxu (x : Issue) (f : Rrr) (s : State) : Answer := .next (s.issue x (insnRrr .maxu f))

/-- ADDS (R65): Saturating add, sets QS on saturation. -/
def execAdds (x : Issue) (f : Rrr) (s : State) : Answer := .next (s.issue x (insnRrr .adds f))

/-- SUBS (R65): Saturating subtract, sets QS on saturation. -/
def execSubs (x : Issue) (f : Rrr) (s : State) : Answer := .next (s.issue x (insnRrr .subs f))

/-- ABS (R68): Saturating absolute value. -/
def execAbs (x : Issue) (f : Rrr) (s : State) : Answer := .next (s.issue x (insnRrr .abs f))

/-- CLZ (R68): Count leading zeros. -/
def execClz (x : Issue) (f : Rrr) (s : State) : Answer := .next (s.issue x (insnRrr .clz f))

/-- POPC (R68): Count ones. -/
def execPopc (x : Issue) (f : Rrr) (s : State) : Answer := .next (s.issue x (insnRrr .popc f))

/-- ADDI (R68): Add sign-extended immediate. -/
def execAddi (x : Issue) (f : Ri) (s : State) : Answer := .next (s.issue x (insnRi .addi f.d f.s1 f.imm))

/-- ANDI (R68): AND with zero-extended immediate. -/
def execAndi (x : Issue) (f : Ri) (s : State) : Answer := .next (s.issue x (insnRi .andi f.d f.s1 f.imm))

/-- ORI (R68): OR with zero-extended immediate. -/
def execOri (x : Issue) (f : Ri) (s : State) : Answer := .next (s.issue x (insnRi .ori f.d f.s1 f.imm))

/-- XORI (R68): XOR with zero-extended immediate. -/
def execXori (x : Issue) (f : Ri) (s : State) : Answer := .next (s.issue x (insnRi .xori f.d f.s1 f.imm))

/-- SLTI (R68): Set if less than immediate, signed. -/
def execSlti (x : Issue) (f : Ri) (s : State) : Answer := .next (s.issue x (insnRi .slti f.d f.s1 f.imm))

/-- SLTIU (R68): Set if less than immediate, unsigned. -/
def execSltiu (x : Issue) (f : Ri) (s : State) : Answer := .next (s.issue x (insnRi .sltiu f.d f.s1 f.imm))

/-- LUI (R68): Load immediate into upper 16 bits. -/
def execLui (x : Issue) (f : Ri) (s : State) : Answer := .next (s.issue x (insnRi .lui f.d f.s1 f.imm))

/-- SHI (R68): Shift or rotate by immediate. -/
def execShi (x : Issue) (f : Ri) (s : State) : Answer := .next (s.issue x (insnRi .shi f.d f.s1 f.imm))

/-- CMPI (R68): Compare with immediate into a predicate. -/
def execCmpi (x : Issue) (f : Ri) (s : State) : Answer := .next (s.issue x (insnRi .cmpi f.d f.s1 f.imm))

/-- CEQ (R70): Predicate = s1 equals s2. -/
def execCeq (x : Issue) (f : Rrr) (s : State) : Answer := .next (s.issue x (insnRrr .ceq f))

/-- CNE (R70): Predicate = s1 differs from s2. -/
def execCne (x : Issue) (f : Rrr) (s : State) : Answer := .next (s.issue x (insnRrr .cne f))

/-- CLT (R70): Predicate = s1 < s2 signed. -/
def execClt (x : Issue) (f : Rrr) (s : State) : Answer := .next (s.issue x (insnRrr .clt f))

/-- CGE (R70): Predicate = s1 >= s2 signed. -/
def execCge (x : Issue) (f : Rrr) (s : State) : Answer := .next (s.issue x (insnRrr .cge f))

/-- CLTU (R70): Predicate = s1 < s2 unsigned. -/
def execCltu (x : Issue) (f : Rrr) (s : State) : Answer := .next (s.issue x (insnRrr .cltu f))

/-- CGEU (R70): Predicate = s1 >= s2 unsigned. -/
def execCgeu (x : Issue) (f : Rrr) (s : State) : Answer := .next (s.issue x (insnRrr .cgeu f))

/-- PAND (R70): Predicate AND. -/
def execPand (x : Issue) (f : Rrr) (s : State) : Answer := .next (s.issue x (insnRrr .pand f))

/-- POR (R70): Predicate OR. -/
def execPor (x : Issue) (f : Rrr) (s : State) : Answer := .next (s.issue x (insnRrr .por f))

/-- PXOR (R70): Predicate XOR. -/
def execPxor (x : Issue) (f : Rrr) (s : State) : Answer := .next (s.issue x (insnRrr .pxor f))

/-- PANDN (R70): Predicate AND NOT. -/
def execPandn (x : Issue) (f : Rrr) (s : State) : Answer := .next (s.issue x (insnRrr .pandn f))

/-- PRD (R70): Read K7 to K0 into a G register. -/
def execPrd (x : Issue) (f : Rrr) (s : State) : Answer := .next (s.issue x (insnRrr .prd f))

/-- PWR (R71): Write K1 to K7 from a G register. -/
def execPwr (x : Issue) (f : Rrr) (s : State) : Answer := .next (s.issue x (insnRrr .pwr f))

end Sys2Proof.Machine
end

