-- ==== Sys2Proof/Machine/JenmelMem.lean ====
section
/-!
DEFINITION. The loads, stores and atomic instructions (R73 to R77), and the queue instructions (R83, R84).
-/

namespace Sys2Proof.Machine

/-- LDB (R73): Load sign-extended byte. -/
def execLdb (x : Issue) (f : Mf) (s : State) : Answer := .next (s.issue x (insnM .ldb f))

/-- LDBU (R73): Load zero-extended byte. -/
def execLdbu (x : Issue) (f : Mf) (s : State) : Answer := .next (s.issue x (insnM .ldbu f))

/-- LDH (R73): Load sign-extended halfword. -/
def execLdh (x : Issue) (f : Mf) (s : State) : Answer := .next (s.issue x (insnM .ldh f))

/-- LDHU (R73): Load zero-extended halfword. -/
def execLdhu (x : Issue) (f : Mf) (s : State) : Answer := .next (s.issue x (insnM .ldhu f))

/-- LDW (R73): Load a word, locally or across the fabric. -/
def execLdw (x : Issue) (f : Mf) (s : State) : Answer := .next (s.issue x (insnM .ldw f))

/-- LDD (R73): Load 64 bits into a register pair. -/
def execLdd (x : Issue) (f : Mf) (s : State) : Answer := .next (s.issue x (insnM .ldd f))

/-- LDF (R73): Load a word into an F register. -/
def execLdf (x : Issue) (f : Mf) (s : State) : Answer := .next (s.issue x (insnM .ldf f))

/-- STB (R73): Store a byte. -/
def execStb (x : Issue) (f : Mf) (s : State) : Answer := .next (s.issue x (insnM .stb f))

/-- STH (R73): Store a halfword. -/
def execSth (x : Issue) (f : Mf) (s : State) : Answer := .next (s.issue x (insnM .sth f))

/-- STW (R73): Store a word. -/
def execStw (x : Issue) (f : Mf) (s : State) : Answer := .next (s.issue x (insnM .stw f))

/-- STD (R73): Store a register pair; scrubs a marked SRAM word. -/
def execStd (x : Issue) (f : Mf) (s : State) : Answer := .next (s.issue x (insnM .std f))

/-- STF (R73): Store an F register. -/
def execStf (x : Issue) (f : Mf) (s : State) : Answer := .next (s.issue x (insnM .stf f))

/-- ATXCH (R77): Atomic exchange. -/
def execAtxch (x : Issue) (f : Rrr) (s : State) : Answer := .next (s.issue x (insnRrr .atxch f))

/-- ATADD (R77): Atomic add. -/
def execAtadd (x : Issue) (f : Rrr) (s : State) : Answer := .next (s.issue x (insnRrr .atadd f))

/-- ATAND (R77): Atomic AND. -/
def execAtand (x : Issue) (f : Rrr) (s : State) : Answer := .next (s.issue x (insnRrr .atand f))

/-- ATOR (R77): Atomic OR. -/
def execAtor (x : Issue) (f : Rrr) (s : State) : Answer := .next (s.issue x (insnRrr .ator f))

/-- ATXOR (R77): Atomic XOR. -/
def execAtxor (x : Issue) (f : Rrr) (s : State) : Answer := .next (s.issue x (insnRrr .atxor f))

/-- ATMAX (R77): Atomic signed maximum. -/
def execAtmax (x : Issue) (f : Rrr) (s : State) : Answer := .next (s.issue x (insnRrr .atmax f))

/-- ATMIN (R77): Atomic signed minimum. -/
def execAtmin (x : Issue) (f : Rrr) (s : State) : Answer := .next (s.issue x (insnRrr .atmin f))

/-- ATCAS (R77): Atomic compare and swap. -/
def execAtcas (x : Issue) (f : Rrr) (s : State) : Answer := .next (s.issue x (insnRrr .atcas f))

/-- ATADDS (R77): Atomic saturating add. -/
def execAtadds (x : Issue) (f : Rrr) (s : State) : Answer := .next (s.issue x (insnRrr .atadds f))

/-- ATRING (R77): Atomic ring-index increment. -/
def execAtring (x : Issue) (f : Rrr) (s : State) : Answer := .next (s.issue x (insnRrr .atring f))

/-- QPUSH (R83): Push a message from a buffer into a queue. -/
def execQpush (x : Issue) (f : Rrr) (s : State) : Answer := .next (s.issue x (insnRrr .qpush f))

/-- QPOP (R83): Pop the head message of a queue into a buffer. -/
def execQpop (x : Issue) (f : Rrr) (s : State) : Answer := .next (s.issue x (insnRrr .qpop f))

/-- QSTAT (R84): Return occupied and free entry counts of a queue. -/
def execQstat (x : Issue) (f : Rrr) (s : State) : Answer := .next (s.issue x (insnRrr .qstat f))

end Sys2Proof.Machine
end

