-- ==== Sys2Proof/Machine/RowsBoot.lean ====
section
/-!
DEFINITION. The commands of reset, islands, boot, configuration sets and images (R34 to R49, R560 to R596, R650, R651).
-/

namespace Sys2Proof.Machine

/-! ### Resets and watchdogs (R564 to R580) -/

/-- VCORE rises, or has browned out (R564). -/
def execPowerOnReset (brownout : Bool) (s : State) : Answer := .next (s.powerOn brownout)

/-- VIO33 browns out (R564). -/
def execVio33BrownOut (s : State) : Answer := .next (s.brownVio33)

/-- VIO18 browns out (R564). -/
def execVio18BrownOut (s : State) : Answer := .next (s.brownVio18)

/-- VANA browns out: PD13 (R564). -/
def execVanaBrownOut (s : State) : Answer := .next (s.brownIsland 13 R.SYSCTL_RSTCAUSE_BVANA 32)

/-- VLANE or VLANEIO browns out: PD14 (R564). -/
def execVlaneBrownOut (io : Bool) (s : State) : Answer :=
  .next (s.brownIsland 14 (if io then R.SYSCTL_RSTCAUSE_BVLANEIO else R.SYSCTL_RSTCAUSE_BVLANE) (if io then 4 else 2))

/-- RESET_N is low (R564). -/
def execPinReset (s : State) : Answer := .next (s.pinReset)

/-- SWR3 with its key (R564). -/
def execSoftwareResetPd3 (s : State) : Answer := .next (s.softReset false)

/-- SWR1 with its key (R564). -/
def execSoftwareResetPd1 (s : State) : Answer := .next (s.softReset true)

/-- A supervisor watchdog expires (R574). -/
def execSupervisorWatchdog (k : Fin 2) (s : State) : Answer := .next (s.inPd 3 fun s => s.supWatchdog k)

/-- A watchdog is kicked (R574). -/
def execWdtKick (k : Fin 2) (key : Word) (s : State) : Answer := .next (s.inPd 3 fun s => s.wdtKick k key)

/-- A Rafter core's watchdog expires (R575). -/
def execRafterWatchdog (n : Fin 8) (s : State) : Answer := .next (s.rafterWatchdog n)

/-- The boot watchdog expires (R579). -/
def execBootWatchdog (s : State) : Answer := .next (s.bootWatchdog)

/-- Purpose 0x01 is written to MRQREQ (R565). -/
def execMrqResetRequest (s : State) : Answer := .next (s.mrqRequest 1)

/-- Purpose 0x02 is written to MRQREQ (R565). -/
def execMrqUnderlayRequest (s : State) : Answer := .next (s.mrqRequest 2)

/-- MRQRSP7 is written (R565). -/
def execMrqResponse (w : Word) (s : State) : Answer := .next (s.mrqResponse w)

/-- The 600 s block ends (R565). -/
def execMrqBlockExpiry (s : State) : Answer := .next (s.mrqUnblock)

/-- A supply detector warns (R567). -/
def execEarlyWarning (vio33 : Bool) (s : State) : Answer := .next (s.earlyWarning vio33)

/-- A supply detector clears (R567). -/
def execEarlyWarningClear (vio33 : Bool) (s : State) : Answer := .next (s.earlyWarningClear vio33)

/-- The fuse map is loaded (R566). -/
def execFuseLoad (array : List (Fin 256 × Word)) (s : State) : Answer := .next (s.fuseLoad array)

/-! ### Islands -/

/-- A register as the ROM default program sets it: the field values, then the bits; nothing where it has them or where the
island of the register is not in RUN. -/
def State.programSets (s : State) (a : Nat) (fields : List (Nat × Nat × Nat)) (bits : Word) : State :=
  if s.pdRun (pdOfReg a) && decide (s.rd a &&& bits ≠ bits) then
    s.regWrite .sc0 a (fields.foldl (fun w f => putField w f.1 f.2.1 f.2.2) (s.rd a) ||| bits)
  else s

/-- A ROM program sets up a queue and enables it, with these rights at least; the rest of the set-up is open (DESIGN CHOICE, log
entry 140). -/
def State.romQueue (s : State) (q : Fin 32) (rights : Word) : State :=
  let w := fun (t : State) a (bits : Word) => t.regWrite .sc0 a (Config.romQueue a ||| bits)
  if s.qOn q then s else w (w (w s (R.QUEUE_BASE q) 0) (R.QUEUE_RIGHTS q) rights) (R.QUEUE_CFG q) 0x80000000

/-- The configuration registers of a meter instance beside CTRL (R406). -/
def meterConfig (m : Nat) : List Nat :=
  [R.METER_CHMAP m, R.METER_QL m, R.METER_QM m, R.METER_QH m, R.METER_PRATEDQ m, R.METER_IPER m] ++
    (List.range 72).flatMap (fun k => [R.METER_CORR_A m (k / 9) (k % 9), R.METER_CORR_B m (k / 9) (k % 9)])

/-- The revenue meter of the ROM default program: a disabled instance takes the calibration record and is enabled (R341, R394). -/
def State.defaultMeter (s : State) (m : Nat) : State :=
  if s.pdRun 15 && !s.on (R.METER_CTRL_EN m) then
    let cal := Config.calibration (s.memWords 0x01001000 1024)
    let s := (meterConfig m).foldl (fun t a => t.regWrite .sc0 a (cal a)) s
    s.regWrite .sc0 (R.METER_CTRL m) (putField (cal (R.METER_CTRL m)) 31 30 2)
  else s

/-- The grid monitor and the revenue meter of the ROM default program (R341): MCK0 and MCK1 at MDIV 10, MD0 to MD5 with sinc3 at OSR
32, PU0 on them with RATE 0 and reports to Q1, which it sets up; both meter instances. -/
def State.defaultProgram (s : State) : State :=
  if s.pdRun 3 && s.on R.SYSCTL_BOOT_DEF then
    let s := s.romQueue 1 0
    let s := s.each [0, 1] (fun k t => t.programSets (R.MOD_MCK_CFG k) [(5, 0, 10)] 0x80000000)
    let s := s.each (List.range 6) (fun k t => t.programSets (R.MOD_MD_CFG k) [(21, 21, 0), (20, 12, 32)] 0x80000000)
    let s := if s.pdRun 4 && !s.on (R.RAFTER_PU_CFG_EN 0) then s.regWrite .sc0 (R.RAFTER_PU_SRC 0) 0x0A418820 else s
    let s := s.programSets (R.RAFTER_PU_CFG 0) [(29, 26, 0), (22, 18, 1), (5, 0, 0x3F)] 0x81000000
    s.each [0, 1] (fun m t => t.defaultMeter m)
  else s

/-- The Underlay loader sets up Q30, from the host to SC0, and Q31, from SC0 to the host (R581); the rest of their set-up is open
(DESIGN CHOICE, log entry 140). -/
def State.underlayQueues (s : State) : State :=
  if s.underlay then
    (s.romQueue 30 0x00020001).romQueue 31 0x00010002
  else s

/-- An island is released (R572); what the ROM default program runs there starts, with PD3 the Underlay loader (R341, R581). -/
def execIslandRelease (pd : Fin 16) (s : State) : Answer :=
  .next (
    let t := s.islandRelease pd
    if t.pdRun pd && !s.pdRun pd then
      (if [4, 13, 15].contains pd.val then t.defaultProgram else if pd.val = 3 then t.underlayQueues else t)
    else t)

/-- An island's clock is not stable in time (R573). -/
def execCkf (pd : Fin 16) (s : State) : Answer := .next (s.ckf pd)

/-- PWR = 1 is written (R562). -/
def execPwrOn (pd : Fin 16) (s : State) : Answer := .next (s.pwrOn pd)

/-- PWR = 0 is written (R562). -/
def execPwrOff (pd : Fin 16) (s : State) : Answer := .next (s.pwrOff pd)

/-- RESTART is written (R563). -/
def execRestart (pd : Fin 16) (s : State) : Answer := .next (s.restart pd (s.clockStable pd))

/-- A transfer between islands (R34). -/
def execFabricTransfer (src dst : Fin 16) (parityError : Bool) (s : State) : Answer :=
  .next (s.fabricTransfer src dst parityError)

/-- An island is reported failed (R38). -/
def execIslandFailed (pd : Fin 16) (cause : FailCause) (s : State) : Answer := .next (s.islandFailed pd cause)

/-- The clock of an island stops (R650). -/
def execIslandClockStop (pd : Fin 16) (s : State) : Answer := .next (s.clockStop pd)

/-- The clock starts again (R650): accesses that have waited for it complete (R36). -/
def execIslandClockRestart (pd : Fin 16) (stopped : Word) (s : State) : Answer :=
  .next (((s.clockRestart pd stopped.toNat).settleHeld).retryAll)

/-- A failed island is recovered (R44, R651). -/
def execIslandRecovery (pd : Fin 16) (s : State) : Answer := .next (s.islandRecovery pd)

/-! ### Boot and Underlay -/

/-- The ROM loader runs (R578); the ROM default program sets its registers (R341). -/
def execRomLoader (s : State) : Answer :=
  .next (let t := s.romLoader; if s.sys.inLoader then t.defaultProgram else t)

/-- DONE is written (R580). -/
def execBootDone (s : State) : Answer := .next (s.bootDone)

/-- INFO (R582). -/
def execUlInfo (spi : Option (List Byte)) (s : State) : Answer := .next (s.ulInfo spi)

/-- ERASE (R582). -/
def execUlErase (spi : Option (List Byte)) (flashErr : Bool) (s : State) : Answer := .next (s.ulErase spi flashErr)

/-- WRITE (R582). -/
def execUlWrite (spi : Option (List Byte)) (flashErr : Bool) (s : State) : Answer := .next (s.ulWrite spi flashErr)

/-- VERIFY (R582). -/
def execUnderlayVerify (spi : Option (List Byte)) (s : State) : Answer := .next (s.ulVerify spi)

/-- LOGREAD (R582). -/
def execLogread (spi : Option (List Byte)) (s : State) : Answer := .next (s.ulLogread spi)

/-! ### Configuration sets and images -/

/-- SWAP is written (R588); the set is read from the shadow area, in which the codes of R41 may find an error. -/
def execCfgSwap (err : List (Nat × Bool)) (s : State) : Answer :=
  .next (s.inPd 3 fun s => let t := s.eccFound err; if t.pdRun 3 then t.cfgSwap else t)

/-- CHECK is written (R588). -/
def execCfgCheck (s : State) : Answer := .next (s.cfgCheck)

/-- LOAD is written (R591). -/
def execCfgLoad (s : State) : Answer := .next (s.inPd 3 fun s => s.cfgLoad)

/-- The swap period begins (R588). -/
def execSwapBoundary (s : State) : Answer := .next (s.swapBoundary)

/-- The swap period ends (R588). -/
def execSwapPeriodEnd (s : State) : Answer := .next (s.swapPeriodEnd)

/-- The swap completes (R588). -/
def execSwapDone (s : State) : Answer := .next (s.swapDone)

/-- The controller stores the set (R591). -/
def execStoredSetWrite (s : State) : Answer := .next (s.storeSetWrite)

/-- IMG.VERIFY is written (R593). -/
def execImgVerify (slot : Fin 2) (s : State) : Answer := .next (s.imgVerify slot)

/-- The load of an image completes (R593). -/
def execImageReady (flashErr : Bool) (s : State) : Answer := .next (s.imageReady flashErr)

end Sys2Proof.Machine
end

