-- ==== Sys2Proof/Machine/RowsGrid.lean ====
section
/-!
DEFINITION. The commands of the phasor units and of the connection sequencer (R309 to R345).
-/

namespace Sys2Proof.Machine

/-! ### Phasor units -/

/-- A report estimate becomes available (R311). -/
def execReportEstimate (n : Fin 8) (s : State) : Answer := .next (s.inPd (pdOfRc n) fun s => s.puReport n)

/-- A half-cycle estimate (R315). -/
def execInternalEstimate (n : Fin 8) (s : State) : Answer := .next (s.inPd (pdOfRc n) fun s => s.puInternal n)

/-- The results of a harmonic window become available (R316), and the sequencer compares them with the limits (R325). -/
def execHarmonicWindow (n : Fin 8) (s : State) : Answer :=
  .next (s.inPd (pdOfRc n) fun s => (s.puHarmonics n).harmSeen n)

/-- A perturbation window has been evaluated (R336). -/
def execPerturbationWindow (n : Fin 8) (s : State) : Answer := .next (s.inPd (pdOfRc n) fun s => s.puWindow n)

/-- The unit writes the perturbation word for the next window, from 1 ms after the end of a window (R337). -/
def execPerturbationWordWrite (n : Fin 8) (s : State) : Answer :=
  .next (s.inPd (pdOfRc n) fun s => if s.windowHeld n then s else s.puWord n)

/-- The unit restarts (R317). -/
def execPuRestart (n : Fin 8) (s : State) : Answer := .next (s.puRestart n)

/-! ### The connection sequencer -/

/-- START (R322). -/
def execSeqStart (s : State) : Answer := .next s.seqStart

/-- STOP (R322). -/
def execSeqStop (s : State) : Answer := .next s.seqStop

/-- PSET (R322). -/
def execSeqPset (s : State) : Answer := .next s.seqPset

/-- QSET (R322). -/
def execSeqQset (s : State) : Answer := .next s.seqQset

/-- MODE (R322). -/
def execSeqMode (s : State) : Answer := .next s.seqMode

/-- STATUS (R322). -/
def execSeqStatus (s : State) : Answer := .next s.seqStatus

/-- V+ has been invalid for 100 ms in a connected state (R320). -/
def execVplusInvalidTimeout (s : State) : Answer := .next (s.vplusLost)

/-- The sequencer reads the flags of the unit (R320). -/
def execGridFlagSeen (s : State) : Answer := .next (s.gridFlags)

/-- The grid has returned (R320). -/
def execGridReturn (s : State) : Answer := .next (s.gridReturn)

/-- The RECONT timer expires (R320). -/
def execRecontExpiry (s : State) : Answer := .next (s.recontEnd)

/-- The lock timer expires (R320). -/
def execLockTimerExpiry (s : State) : Answer := .next (s.lockEnd)

/-- V+ or FREQ leaves its window in WAIT (R320). -/
def execConnectionWindowExit (s : State) : Answer := .next (s.windowExit)

/-- The law reports its PLL locked (R323). -/
def execPllLocked (s : State) : Answer := .next (s.pllLocked)

/-- The chain reads back closed (R320). -/
def execRelayClosedReadback (s : State) : Answer := .next (s.relayClosed)

/-- The law reports RIDE entered (R327). -/
def execRideEntered (s : State) : Answer := .next (s.rideIn)

/-- The law reports RIDE left (R330). -/
def execRideLeft (s : State) : Answer := .next (s.rideOut)

/-- The law reports its envelope violated (R330). -/
def execEnvelopeViolated (s : State) : Answer := .next (s.envelope)

/-- The law reports its power ramp complete (R320). -/
def execRampComplete (s : State) : Answer := .next (s.rampDone)

/-- The channels are OFF and the chain is open (R320). -/
def execCeasedSettled (s : State) : Answer := .next (s.ceasedSettled)

/-- HTIME of exceedance, or ten without (R325). -/
def execHarmonicDerate (s : State) : Answer := .next (s.derate)

end Sys2Proof.Machine
end

