-- ==== Sys2Proof/Machine/RowsLog.lean ====
section
/-!
DEFINITION. The commands of PD0: the Eaves domain (R530 to R544) and the Thatch log (R547 to R557).
-/

namespace Sys2Proof.Machine

/-- The requester of a burst receives its status (R531, R539, R543); a software burst's stands in BSTAT already. -/
def State.burstTold (s : State) (r : Option (Burst × Nat)) : State :=
  match r with
  | none => s
  | some (b, code) =>
    match b.req with
    | .metering => if s.pdRun 15 then s.meterBurst b code else s
    | .warden => s.wardenBurst b code
    | .cfgset => if s.pdRun 3 then s.cfgBurst b code else s
    | .thatch | .final | .software => s

/-- PD0 turns off: what it holds of SYSCTL is lost too, its snapshot registers keep their mirrors, and the requesters of its
bursts receive GATED (R531, R560, R573, R603). -/
def State.pd0Lost (s : State) (done : Nat) : State :=
  if s.eaves.on then
    let s := s.keepMirror 0
    let x := s.pd0Off done
    let s := x.1
    let s := ((s.wr R.SYSCTL_RSTCAUSE 0).put R.SYSCTL_BOOT_FSC 0).clear R.SYSCTL_BOOT_UND
    x.2.foldl (fun t b => t.burstTold (some (b, 0x04))) (s.setPd 0 0)
  else s

/-- PD0 starts cold (R531), the first island of a release sequence that waits for it (R572, R573). -/
def State.pd0Cold (s : State) (vio33 : Bool) : State :=
  if s.eaves.on then s
  else
    let t := ((s.coldStart vio33).setPd 0 2).clear (R.SYSCTL_PD_CKH 0)
    if decide (s.pdState 1 = 1) && !s.sys.fuseDue then t.gapStarts else t

/-! ### Eaves -/

/-- The stores are measured (R530, R533). -/
def execStoreMeasure (vqs vls : BitVec 16) (refBad : Bool) (temp : Int) (s : State) : Answer :=
  let t := s.storeMeasure vqs.toNat vls.toNat refBad temp
  .next (t.r45Lost s (s.eaves.on && !t.storesOk))

/-- HQS falls below VOFF, `done` words of a burst written (R531). -/
def execPd0Off (done : Nat) (s : State) : Answer := .next ((s.pd0Lost done).r45Lost s s.eaves.on)

/-- HQS rises above VSTART (R531). -/
def execPd0ColdStart (vio33 : Bool) (s : State) : Answer := .next (s.pd0Cold vio33)

/-- The top of a second (R534). -/
def execTopOfSecond (s : State) : Answer := .next s.topOfSecond

/-- An hour has been counted for TRIM (R534). -/
def execAutotrim (ticks : Nat) (s : State) : Answer := .next (s.autoTrim ticks)

/-- A brown-out reaches PD0 (R535). -/
def execSupplyLoss (vcore vio33 : Bool) (s : State) : Answer := .next (s.supplyLoss vcore vio33)

/-- A final checkpoint in the dark (R535). -/
def execDarkCheckpoint (s : State) : Answer := .next s.darkCkpt

/-- VIO33 returns (R535). -/
def execSupplyReturn (s : State) : Answer := .next s.supplyReturn

/-- A tamper input is recognised (R537). -/
def execTamper (k : Fin 4) (act : Bool) (s : State) : Answer := .next (s.tamper k act)

/-- The wake alarm (R538). -/
def execWakeAlarm (s : State) : Answer := .next s.wakeAlarm

/-- EWAKE_N is released (R538). -/
def execEwakeRelease (s : State) : Answer := .next s.wakeRelease

/-- The writer takes the oldest request (R539, R540). -/
def execBurstRequest (vqs vls : BitVec 16) (s : State) : Answer :=
  .next (let x := s.burstTake vqs.toNat vls.toNat; x.1.burstTold x.2)

/-- The burst in progress ends (R542, R543). -/
def execBurstComplete (fail : Option Nat) (s : State) : Answer :=
  .next (s.inPd 0 fun s => let x := s.burstEnd fail; x.1.burstTold x.2)

/-- BCTL.GO is written (R544). -/
def execBurstGo (s : State) : Answer := .next (s.inPd 0 fun s => s.burstGo)

/-- DEFCNT.CLR is written (R540). -/
def execDefcntClr (s : State) : Answer := .next (s.inPd 0 fun s => s.clear R.EAVES_DEFCNT_CNT)

/-- The harvester starts or stops (R532). -/
def execHarvesterRunChange (hvin vmpp vqs vls : BitVec 16) (s : State) : Answer :=
  .next (s.harvest hvin.toNat vmpp.toNat vqs.toNat vls.toNat)

/-! ### Thatch -/

/-- A post enters the FIFO (R548). -/
def execThatchPost (event : BitVec 16) (source : BitVec 8) (payload : List Byte) (s : State) : Answer :=
  .next (s.post event.toNat source.toNat payload)

/-- The controller writes or merges the oldest post (R547, R551). -/
def execRecordWrite (vqs vls : BitVec 16) (fail : Option Nat) (s : State) : Answer :=
  .next (s.recordWrite vqs.toNat vls.toNat fail)

/-- POST3 is written (R555). -/
def execSoftwarePost (src : Master) (w : Word) (s : State) : Answer := .next (s.inPd 0 fun s => s.swPost (srcOfMaster src) w)

/-- CLRREQ is written (R555, R556). -/
def execClrreq (purp : Byte) (s : State) : Answer := .next (s.inPd 0 fun s => s.clrReq purp.toNat)

/-- RSP7 is written (R556). -/
def execClearResponse (w : Word) (s : State) : Answer := .next (s.inPd 0 fun s => s.clrResponse w)

/-- The clear completes (R557). -/
def execClearComplete (s : State) : Answer := .next (s.inPd 0 fun s => s.clrDone)

/-- The 600 s block ends (R556). -/
def execClearBlockExpiry (s : State) : Answer := .next (s.inPd 0 fun s => s.clrUnblock)

end Sys2Proof.Machine
end

