-- ==== Sys2Proof/Machine/RowsMeter.lean ====
section
/-!
DEFINITION. The commands of the metering engine (R376 to R401).
-/

namespace Sys2Proof.Machine

/-- The block in progress ends; meter values of a SWAP take effect as the next one starts (R379, R405, R588). -/
def State.blockTurn (s : State) (m : Nat) : State := (s.blockEnd m).swapAtBlock m

/-- The products of the sample that is due, after the end of its predecessor's block where it starts a new one (R379, R382). -/
def State.meterForm (s : State) (m : Nat) : State :=
  match s.meterDue m with
  | some y => (if s.blockOver m y.t then s.blockTurn m else s).formProducts m y
  | none => s

/-- A new decimated sample of its inputs comes to an instance (R377, R384). -/
def State.meterSample (s : State) (m : Nat) (bnd : Bool) : State :=
  match s.decStamp m with
  | some st =>
    if s.pdRun 13 && s.on (R.METER_STAT_RUN m) && decide ((s.meter m).taken ≠ some st) then (s.meterTake m st bnd).meterForm m else s
  | none => s

/-- A decimated sample is corrected, multiplied and accumulated (R384). -/
def execMeterSample (m : Fin 2) (bnd : Bool) (s : State) : Answer := .next (s.inPd 15 fun s => s.meterSample m bnd)

/-- A block ends, once the products of its last sample have been formed, 8 ms after its end (R379, R382). -/
def execBlockEnd (m : Fin 2) (s : State) : Answer :=
  .next (s.inPd 15 fun s => if s.nowNs < 8000000 ∨ !s.blockOver m (s.nowNs - 8000000) then s else s.blockTurn m)

/-- An interval closes (R390). -/
def execIntervalClose (m : Fin 2) (s : State) : Answer := .next (s.inPd 15 fun s => s.ivClose m)

/-- A pulse starts (R392). -/
def execPulseStart (p : Fin 4) (s : State) : Answer := .next (s.inPd 15 fun s => s.pulseStart p)

/-- A pulse ends (R392). -/
def execPulseEnd (p : Fin 4) (s : State) : Answer := .next (s.inPd 15 fun s => s.pulseEnd p)

/-- The checkpoint at the top of a second (R396). -/
def execMeterCheckpoint (s : State) : Answer := .next (s.checkpoint)

/-- The checkpoint of the early warning (R397). -/
def execEwmCheckpoint (s : State) : Answer := .next (s.ewmCheckpoint)

/-- The restore at the release of PD15 (R400). -/
def execMeterRestore (s : State) : Answer := .next (s.meterRestore)

/-- EN = 1 is written (R376). -/
def execMeterEnable (m : Fin 2) (s : State) : Answer := .next (s.meterEnable m)

/-- CLR is written (R387). -/
def execMeterClr (m : Fin 2) (s : State) : Answer := .next (s.meterClr m)

end Sys2Proof.Machine
end

