-- ==== Sys2Proof/Machine/Ptp.lean ====
section
/-!
DEFINITION. The PTP ordinary clock of the ROM default program on E0 (R341, R483): what it does with the messages that the MAC hands
it. The layout of the messages is that of IEEE 1588-2019, which the spec names (PRESUMED, log entry 122).
-/

namespace Sys2Proof.Machine

/-- The header of a PTP message of domain 254 over IEEE 802.3 transport in a frame (R483). -/
def ptpOf (f : List Byte) : Option (List Byte) :=
  let e := etherOf f
  if e.1 = 0x88F7 ∧ 34 ≤ e.2.length ∧ natLE ((e.2.drop 4).take 1) = 254 then some e.2 else none

/-- Type of a message. -/
def ptpType (m : List Byte) : Nat := natLE (m.take 1) % 16

/-- Its sequence number. -/
def ptpSeq (m : List Byte) : Nat := natBE ((m.drop 30).take 2)

/-- Its two-step flag. -/
def ptpTwoStep (m : List Byte) : Bool := (natBE ((m.drop 6).take 1)).testBit 1

/-- Its correction, 2^-16 ns. -/
def ptpCorr (m : List Byte) : Int := sextNat 64 (natBE ((m.drop 8).take 8))

/-- The port that sent it. -/
def ptpPort (m : List Byte) : List Byte := (m.drop 20).take 10

/-- The time stamp that it carries, 2^-16 ns. -/
def ptpTime (m : List Byte) : Int := (natBE ((m.drop 34).take 6) * 1000000000 + natBE ((m.drop 40).take 4)) * 65536

/-- What an Announce says of the clock, in the order in which clocks are compared. -/
def ptpClock (m : List Byte) : List Byte := (m.drop 47).take 14

/-- The first of two clocks is better. -/
def clockBefore (a b : List Byte) : Bool := decide (natBE a < natBE b)

/-- The time of a frame at the port, 2^-16 ns, with the port's correction in 1/64 ns (R480, R481). -/
def State.ptpNow (s : State) (corr : Int) : Int := ((s.nowNs * 64 + s.time.frac / 2 ^ 26 : Nat) + corr) * 1024

/-- Change the clock. -/
def State.setPtp (s : State) (f : PtpSt → PtpSt) : State := { s with ptp := f s.ptp }

/-- The default program runs its clock. -/
def State.ptpRuns (s : State) : Bool := s.pdRun 3 && s.on R.SYSCTL_BOOT_DEF

/-- A servo update with an offset from the master: while the time base is FREE it is stepped by the offset, with what was stamped
before discarded (R475, R481); else ADJ takes an open value; SYNC = 1 is written within 1 µs (R476, R483). -/
def State.servo (s : State) (ofs : Int) : State :=
  if !s.on R.TIME_STAT_TSTATE then
    let w := natOfInt 64 (-(ofs / 65536))
    let s := s.regWrite .sc0 R.TIME_STEPL (BitVec.ofNat 32 w)
    let s := s.regWrite .sc0 R.TIME_STEPH (BitVec.ofNat 32 (w / 2 ^ 32))
    let s := s.regWrite .sc0 R.TIME_CTRL (BitVec.ofNat 32 (s.get R.TIME_CTRL_HOLD) ||| 0x20000000)
    s.setPtp (fun p => { p with sync := none, req := none, resp := none })
  else
    let s := (s.regWrite .sc0 R.TIME_ADJ s.openWord).drawn
    if ofs.natAbs ≤ 1000 * 65536 then s.regWrite .sc0 R.TIME_CTRL (BitVec.ofNat 32 (s.get R.TIME_CTRL_HOLD) ||| 0x80000000) else s

/-- The master's time at a Sync is known: an update follows once the path delay is. -/
def State.ptpUpdate (s : State) (t2 t1 corr : Int) : State :=
  match s.ptp.delay with
  | some d => s.servo (t2 - t1 - corr - d)
  | none => s

/-- An Announce: the best clock heard is the master; one not heard for three intervals of 1 s is given up (R483). -/
def State.ptpAnnounce (s : State) (m : List Byte) : State :=
  let take := s.setPtp (fun p => { p with master := some (ptpClock m, ptpPort m), heard := s.upNs })
  match s.ptp.master with
  | none => take
  | some (c, port) =>
    if port = ptpPort m ∨ s.ptp.heard + 3000000000 ≤ s.upNs ∨ clockBefore (ptpClock m) c then take else s

/-- A message of the selected master, heard within three intervals. -/
def State.ptpFrom (s : State) (m : List Byte) : Bool :=
  match s.ptp.master with
  | some (_, port) => decide (port = ptpPort m ∧ s.upNs < s.ptp.heard + 3000000000)
  | none => false

/-- The clock takes a message that came in at a time: Sync, Follow_Up, Pdelay_Resp, Pdelay_Resp_Follow_Up and Announce. -/
def State.ptpMessage (s : State) (m : List Byte) (t : Int) : State :=
  match ptpType m with
  | 0x0 =>
    if !s.ptpFrom m then s
    else if ptpTwoStep m then s.setPtp (fun p => { p with sync := some (ptpSeq m, t, ptpCorr m) })
    else s.ptpUpdate t (ptpTime m) (ptpCorr m)
  | 0x8 =>
    match s.ptp.sync with
    | some (q, t2, c) =>
      if s.ptpFrom m ∧ q = ptpSeq m then
        (s.setPtp (fun p => { p with sync := none })).ptpUpdate t2 (ptpTime m) (c + ptpCorr m)
      else s
    | none => s
  | 0x3 =>
    match s.ptp.req with
    | some (q, t1) =>
      if q ≠ ptpSeq m then s
      else if ptpTwoStep m then s.setPtp (fun p => { p with resp := some (t, ptpTime m, ptpCorr m) })
      else s.setPtp (fun p => { p with delay := some ((t - t1 - ptpCorr m) / 2), req := none })
    | none => s
  | 0xA =>
    match s.ptp.req, s.ptp.resp with
    | some (q, t1), some (t4, t2, c) =>
      if q = ptpSeq m then
        s.setPtp (fun p => { p with
          delay := some ((t4 - t1 - (ptpTime m - t2) - c - ptpCorr m) / 2), req := none, resp := none })
      else s
    | _, _ => s
  | 0xB => s.ptpAnnounce m
  | _ => s

/-- The MAC E0 has put a frame into a receive descriptor: `t` is the state after it. -/
def State.ptpReceived (t s : State) (f : List Byte) : State :=
  let a := s.get (R.ENET_RXBASE_BASE 0) * 16 + 16 * s.get (R.ENET_RXIDX_NEXT 0)
  match ptpOf f with
  | some m =>
    if t.ptpRuns && bitAt (s.memWord a) 31 && !bitAt (t.memWord a) 31 then
      t.ptpMessage m (s.ptpNow (s.getS (R.TIME_PT_INC_CORR 0)))
    else t
  | none => t

/-- A frame has left E0: a Pdelay_Req of the clock is noted. -/
def State.ptpSent (t s : State) : State :=
  let a := s.get (R.ENET_TXBASE_BASE 0) * 16 + 16 * s.get (R.ENET_TXIDX_NEXT 0)
  match ptpOf (t.enet 0).out with
  | some m =>
    if t.ptpRuns && s.on (R.ENET_CFG_EN 0) && (s.enet 0).kick && bitAt (s.memWord a) 31 && decide (ptpType m = 2) then
      t.setPtp (fun p => { p with req := some (ptpSeq m, s.ptpNow (s.getS (R.TIME_PT_EGC_CORR 0))), resp := none })
    else t
  | none => t

end Sys2Proof.Machine
end

