-- ==== Sys2Proof/Machine/RowsNet.lean ====
section
/-!
DEFINITION. The commands of the Purlin lanes, the MACs and the Ridge bus (R491 to R526).
-/

namespace Sys2Proof.Machine

/-! ### Lanes -/

/-- A lane burst error that begins is a fault of R44, covered where R45 is met (R45, R513). -/
def State.burstCheck (t s : State) (n : Nat) : State := t.coveredFault s (!(s.lane n).burst && (t.lane n).burst).toNat

/-- EN = 1 is written to a lane (R489). -/
def execLaneEnable (n : Fin 32) (s : State) : Answer := .next (s.inPd 14 fun s => s.laneEnable n)

/-- The CDR locks (R495). -/
def execCdrLock (n : Fin 32) (s : State) : Answer := .next (s.inPd 14 fun s => s.cdrLock n)

/-- RXLOCK falls (R497). -/
def execRxlockFall (n : Fin 32) (s : State) : Answer :=
  .next (s.inPd 14 fun s => (s.rxlockFall n).burstCheck s n)

/-- A window of headers ends (R495). -/
def execHbadWindow (n : Fin 32) (bad : Nat) (s : State) : Answer :=
  .next (s.inPd 14 fun s => (s.hbadWindow n bad).burstCheck s n)

/-- The receiver slips one bit (R495). -/
def execSlip (n : Fin 32) (s : State) : Answer := .next (s.inPd 14 fun s => s.slip n)

/-- The block boundary is found (R496). -/
def execAlign (n : Fin 32) (s : State) : Answer := .next (s.inPd 14 fun s => s.align n)

/-- The lane leaves alignment (R497). -/
def execUnalign (n : Fin 32) (s : State) : Answer := .next (s.inPd 14 fun s => s.unalign n)

/-- ESGO is written (R498). -/
def execEsgo (n : Fin 32) (s : State) : Answer := .next (s.inPd 14 fun s => s.esgo n)

/-- An eye-scan point ends (R498). -/
def execEyeScanDone (n : Fin 32) (errs : Nat) (s : State) : Answer := .next (s.inPd 14 fun s => s.eyeDone n errs)

/-- CNTCLR is written (R524). -/
def execPurlinCntclr (n : Fin 32) (s : State) : Answer := .next (s.inPd 14 fun s => s.wr (R.PURLIN_LANE_CNT n) 0)

/-- A driver frame with times (R501). -/
def execDtim (g : Fin 24) (x : Nat) (s : State) : Answer := .next (s.inPd 14 fun s => s.dtim g x)

/-- A driver frame in mid period (R502). -/
def execDmid (g : Fin 24) (busy : Bool) (s : State) : Answer := .next (s.inPd 14 fun s => s.dmid g busy)

/-- An inhibit frame (R503). -/
def execDinh (g : Fin 24) (s : State) : Answer := .next (s.inPd 14 fun s => s.dinh g)

/-- An inhibit frame is repeated (R503). -/
def execDinhRepeat (g : Fin 24) (s : State) : Answer := .next (s.inPd 14 fun s => s.dinhAgain g)

/-- A frame of a tile arrives, as line blocks with the line bits before them (R492, R493, R504 to R514). -/
def execUps (g : Fin 24) (prev : BitVec 58) (line : List (BitVec 66)) (rtt : Nat) (s : State) : Answer :=
  .next (s.inPd 14 fun s => ((s.tileFrame g prev line rtt).burstCheck s g).retryAll)

/-- A message lane sends (R515). -/
def execMsgSend (n : Fin 32) (s : State) : Answer := .next (s.inPd 14 fun s => s.msgSend n)

/-- A MSG frame arrives (R515). -/
def execLaneMsg (n : Fin 32) (prev : BitVec 58) (line : List (BitVec 66)) (s : State) : Answer :=
  .next (s.inPd 14 fun s => s.laneFrame n prev line)

/-- A MACK frame arrives (R515). -/
def execLaneMack (n : Fin 32) (prev : BitVec 58) (line : List (BitVec 66)) (s : State) : Answer :=
  .next (s.inPd 14 fun s => s.laneFrame n prev line)

/-- A MCFG frame arrives (R515). -/
def execLaneMcfg (n : Fin 32) (prev : BitVec 58) (line : List (BitVec 66)) (s : State) : Answer :=
  .next (s.inPd 14 fun s => s.laneFrame n prev line)

/-! ### MACs -/

/-- A frame arrives at a MAC (R517, R518); the clock of the default program takes it from E0 (R483). -/
def execEnetReceive (e : Fin 4) (frame : List Byte) (fcs : Bool) (s : State) : Answer :=
  .next (s.inPd 14 fun s => let t := s.enetReceive e frame fcs; if e = 0 then t.ptpReceived s frame else t)

/-- KICK is written (R517). -/
def execKick (e : Fin 4) (s : State) : Answer := .next (s.inPd 14 fun s => s.kick e)

/-- A frame has left (R518, R519); the clock of the default program notes its Pdelay_Req on E0 (R483). -/
def execEnetTransmitDone (e : Fin 4) (s : State) : Answer :=
  .next (s.inPd 14 fun s =>
    let t := s.enetSent e
    if e = 0 then t.ptpSent s else t)

/-- The link of a MAC changes (R516). -/
def execEnetLinkChange (e : Fin 4) (up done : Bool) (s : State) : Answer :=
  .next (s.inPd 14 fun s => s.enetLink e up done)

/-! ### Ridge -/

/-- RTRIP_N is seen low: its way to the enables is hard-wired, and neither a stopped nor an isolated island blocks it (R27,
R521). -/
def execRidgeTrip (s : State) : Answer := .next (if s.pdLive 14 then s.ridgeTrip else s)

/-- RIDGE_CMD.TRIP is written (R520). -/
def execRidgeTripCmd (s : State) : Answer := .next (s.inPd 14 fun s => s.ridgeDrive)

/-- RIDGE_CMD.CLR is written, with the level of RTRIP_N (R522). -/
def execRidgeClr (high : Bool) (s : State) : Answer := .next (s.inPd 14 fun s => s.ridgeClr high)

/-- RTRIP_N has stayed low (R522). -/
def execRstk (s : State) : Answer := .next (s.inPd 14 fun s => s.ridgeStuck)

/-- The drive of RTRIP_N ends (R520). -/
def execRtripDriveEnd (others : Bool) (s : State) : Answer := .next (s.inPd 14 fun s => s.ridgeEnd others)

/-- An edge of RSYNC, with a contention or without (R523). -/
def execRsyncEdge (contend : Bool) (s : State) : Answer := .next (s.inPd 14 fun s => s.rsyncEdge contend)

end Sys2Proof.Machine
end

