-- ==== Sys2Proof/Machine/RowsPwm.lean ====
section
/-!
DEFINITION. The commands of the Batten generators and of the leg interface (R190 to R266).
-/

namespace Sys2Proof.Machine

/-! ### Batten -/

/-- The start-up calibration, which runs once after a release, ends (R194). -/
def execCalibrationDone (lock : Bool) (taps : BitVec 7) (s : State) : Answer :=
  .next (s.inPd 12 fun s =>
    if s.on R.BATTEN_CAL_CALDONE then s else (s.calibrated lock taps.toNat).raise R.BATTEN_CAL_CALDONE)

/-- A background measurement of the replica line, while BGCAL is 1 (R195). -/
def execBackgroundCalibration (lock : Bool) (taps : BitVec 7) (s : State) : Answer :=
  .next (s.inPd 12 fun s => if s.on R.BATTEN_CFG_BGCAL then s.calibrated lock taps.toNat else s)

/-- The oldest epoch of a source lands in the shadow registers of its channels, whole (R204). -/
def execEpochVisible (src : Fin 9) (late : List Byte) (s : State) : Answer :=
  .next (s.inPd 12 fun s =>
    match s.epochsOf src with
    | [] => s
    | ep :: l => (s.setEpochs src l).landEpoch ep (late.map BitVec.toNat))

/-- A period of a direct channel starts (R203): a SWAP reaches B or the end of its period and the configuration values of its
owner change first (R588), then the channel, its
leg and the converter that it leads act, and the ramps that it starts are marked (R285). -/
def execReload (n : Fin 48) (s : State) : Answer :=
  .next (s.inPd 12 fun s =>
    let s := (s.rampsDue.swapAtReload n).swapAtOwner (.dir n)
    let s := s.each ((List.range 8).filter (fun k => decide (s.bcState k ≠ 0) && decide (s.bcLead k = n))) (fun k t => t.swapAtLead k)
    (((((s.chReload n).protReload n).strengthReload n).bcOnReload n)).rampMarks n)

/-- The sampling trigger of an output (R208). -/
def execSamplingTrigger (ch : Chan) (s : State) : Answer := .next (s.inPd 12 fun s => s.sampleTrigger ch)

/-- A remote scheduler freezes the times of its coming period (R216, R237, R244). -/
def execReleaseCycle (m : Fin 144) (s : State) : Answer :=
  .next (s.inPd 12 fun s =>
    let s := ((s.swapAtOwner (.rem m)).refreshLup (m / 6)).dtimDue m
    ((s.rlRelease m).rlStrength m).interlockRl m)

/-- The next change of a channel's pins in its edge sequences; with the fall of LEN its leg arms the measurement of the edge (R200,
R240). -/
def execEdgeSequence (n : Fin 48) (s : State) : Answer :=
  .next (s.inPd 12 fun s =>
    let t := s.edgeSequence n
    match (s.bch n).edge, (t.bch n).edge with
    | none, some e => t.armEdge n e.lv
    | _, _ => t)

/-- The comparator ends the active pulse of a PCM channel (R209). -/
def execPcmTermination (n : Fin 48) (off : Nat) (s : State) : Answer := .next (s.inPd 12 fun s => s.pcmTermination n off)

/-- A blanking window ends, unless the clock of PD12 stands still, be the island isolated or not (R27, R210, R222). -/
def execBlankingEnd (n : Fin 48) (straddle : Bool) (s : State) : Answer :=
  .next (if s.pdClocked 12 then s.blankingEnd n straddle else s)

/-- A synchronisation edge arrives, at an instant of the time base of PD12 in fine units (R213). -/
def execSyncEdge (n : Fin 48) (edge : Nat) (s : State) : Answer := .next (s.inPd 12 fun s => s.syncEdge n edge)

/-- 256 periods have passed without a synchronisation edge (R213); the converter that the channel leads is told (R359). -/
def execSlost (n : Fin 48) (s : State) : Answer :=
  .next (s.inPd 12 fun s => if s.syncGone n then (s.syncLost n).bcSyncLost n else s)

/-- EN = 1 is written to an output (R219). -/
def execChannelEnable (ch : Chan) (s : State) : Answer := .next (s.inPd 12 fun s => s.enWritten ch true)

/-- EN = 0 is written to an output (R219). -/
def execChannelDisable (ch : Chan) (s : State) : Answer := .next (s.inPd 12 fun s => s.enWritten ch false)

/-- LEN and LPULSE are both low: STOPPING ends (R221), and a converter whose legs are all OFF is OFF (R353). -/
def execStopComplete (ch : Chan) (s : State) : Answer :=
  .next (s.inPd 12 fun s => (s.chStopDone ch).each (List.range 8) (fun k t => t.bcSettle k))

/-- The reset controller asserts INH for an island that does not run (R47, R219). -/
def execPulseInhibit (pd : Fin 16) (s : State) : Answer := .next (s.inPd 12 fun s => s.pulseInhibitCmd pd)

/-- INH of an output is marked for release (R219). -/
def execInhReleaseMark (ch : Chan) (s : State) : Answer := .next (s.inPd 12 fun s => s.markRelease ch)

/-- BATTEN_DISALL.GO (R219, R234). -/
def execBattenDisall (s : State) : Answer := .next (s.inPd 12 fun s => s.disableAll)

/-- A direct write of a value register (R207). -/
def execBattenValueWrite (ch : Chan) (reg : BattenVal) (v : Word) (s : State) : Answer :=
  .next (s.inPd 12 fun s => s.valueWritten ch reg v)

/-- Flashing finds that the clock of PD12 stands still: it removes every enable until PD12 has been reset, and reports
the island (R223). -/
def execBattenClockLoss (s : State) : Answer :=
  .next (if s.chUp false && !s.bat.clkLoss then
    let s := ({ s with bat := { s.bat with clkLoss := true } } : State).safeEval
    (s.postPlain 11 1 12 (s.rd R.SAFE_CLKMON)).observedStop 12
  else s)

/-! ### Leg interface and protection -/

/-- The edge comparator crosses `off` TDC units after the window opened (R240). -/
def execEdgeCrossing (n : Fin 48) (off : Nat) (s : State) : Answer := .next (s.inPd 12 fun s => s.edgeCrossing n off)

/-- No crossing within TSWMAX (R240). -/
def execNoedge (n : Fin 48) (s : State) : Answer := .next (s.inPd 12 fun s => s.noEdge n)

/-- A strength-line cycle starts (R245). -/
def execNormalFrame (j : Fin 6) (s : State) : Answer := .next (s.inPd 12 fun s => s.normalCycle j)

/-- The acknowledge window ends (R245, R250); a leg that NAKACT disables leaves its converter (R362). -/
def execAckWindowEnd (j : Fin 6) (slots : BitVec 16) (s : State) : Answer :=
  .next (s.inPd 12 fun s => State.bcLeft s (s.ackWindow j slots.toNat))

/-- An urgent frame for the legs in HOLDING (R251). -/
def execUrgentFrame (j : Fin 6) (s : State) : Answer := .next (s.inPd 12 fun s => s.urgent j)

/-- The soft turn-off of a leg (R257). -/
def execSoftTurnOff (n : Fin 48) (s : State) : Answer := .next (s.inPd 12 fun s => s.softOff n)

/-- SOFTHOLD has passed (R257). -/
def execSoftholdExpiry (n : Fin 48) (s : State) : Answer := .next (s.inPd 12 fun s => s.softHoldEnd n)

/-- The trip latches of a cycle of PD12 are taken in, with group turn-off; a group that GSRC names drives RTRIP_N. An isolated
island does not block it (R27, R253, R258, R520). -/
def execTripLatch (s : State) : Answer :=
  .next (if s.pdClocked 12 then
    let r := s.tripCycle
    if r.1.pdLive 14 && r.2.any (fun g => (r.1.get R.RIDGE_CFG_GSRC).testBit g) then r.1.ridgeDrive else r.1
  else s)

/-- A re-enable command for one leg (R257, R260). -/
def execGateRe (n : Fin 48) (s : State) : Answer := .next (s.inPd 12 fun s => s.reEnable n)

/-- A re-enable command for a group (R266). -/
def execGroupRe (g : Fin 16) (s : State) : Answer := .next (s.inPd 12 fun s => s.groupRe g)

/-- Self-test of the normal stage of the shunt comparator (R261). -/
def execSelftestShuntNormal (n : Fin 48) (s : State) : Answer := .next (s.inPd 12 fun s => s.legTest n 1)

/-- Self-test of the hard stage (R261). -/
def execSelftestShuntHard (n : Fin 48) (s : State) : Answer := .next (s.inPd 12 fun s => s.legTest n 2)

/-- Self-test of the edge comparator (R261). -/
def execSelftestEdge (n : Fin 48) (s : State) : Answer := .next (s.inPd 12 fun s => s.legTest n 3)

/-- Self-test of a window comparator (R263). -/
def execWinSelftest (k : Fin 16) (s : State) : Answer := .next (s.inPd 12 fun s => s.winTest k)

/-- A self-test ends with its two codes (R262, R263); one that the Warden's timer started counts for it (R440). -/
def execSelftestDone (u : TestUnit) (upc dnc : BitVec 10) (s : State) : Answer :=
  .next (s.inPd 12 fun s =>
    let t := State.noteWindows s (s.testDone u upc.toNat dnc.toNat)
    match u with
    | .leg _ => t
    | .win k => if (s.win k).test.isSome then t.winDone k ((s.win k).test.getD false) (testPass false upc.toNat dnc.toNat) else t)

end Sys2Proof.Machine
end

