-- ==== Sys2Proof/Machine/Law.lean ====
section
/-!
DEFINITION. The grid law of the grid library: what one dispatch of it decides (R319, R323, R324, R326 to R330, R332, R333,
R338). Its measures of the grid come from sample arithmetic that no rule writes out; they are open values.
-/

namespace Sys2Proof.Machine

/-- What a dispatch of the law measures: |V+| and |V-| in 2^-16 pu, vq of the positive sequence normalised by |V+| in Q1.31, the
powers P and Q and the disagreement D of a hand-over in 2^-16 pu; and what its coefficients or the spec leave open: AMAX and JMAX
of the active ramp, and where it stands when RIDE is left. -/
structure LawMeas where
  vp : Nat
  vn : Nat
  vq : Word
  p : Int
  q : Int
  d : Nat
  amax : Nat
  jmax : Nat
  left : Nat
  /-- one bit for each rounding -/
  bits : Nat
  deriving DecidableEq, Repr

/-- A rounding: 0 or 1. -/
def LawMeas.bit (m : LawMeas) (k : Nat) : Int := (m.bits.testBit k).toNat

/-- The measures of this dispatch: open values. -/
def State.lawMeas (s : State) : LawMeas :=
  let f := fun k => Config.freeNat (s.freeCtr + k)
  ⟨f 0, f 1, Config.freeWord (s.freeCtr + 2), (f 3 : Int) - f 4, (f 5 : Int) - f 6, f 7, f 8, f 9, f 10, f 11⟩

/-- The words of the record that the law uses, and what is fixed for one dispatch. -/
structure LawPar where
  /-- the word at an offset of the grid parameter record -/
  word : Nat → Word
  /-- the instant of the dispatch, ns -/
  now : Nat
  /-- the state of the sequencer, the targets in force and the ceiling on Id+ in 2^-16 pu -/
  seqSt : Nat
  pset : Int
  qset : Int
  ceil : Int
  /-- the bias of the perturbation word (R338) -/
  bias : Int
  f0 : Nat

/-- An unsigned word of the record. -/
def LawPar.u (c : LawPar) (off : Nat) : Nat := (c.word off).toNat

/-- Product of two U16.16 numbers, rounded down or up. -/
def lawMul (a b : Int) (r : Int) : Int := a * b / 65536 + r

/-- x clamped to the magnitude m. -/
def clampMag (m : Int) (x : Int) : Int := max (-m) (min m x)

/-- sqrt(m² - x²), 0 where x exceeds m, rounded down or up. -/
def restOf (m x : Int) (r : Int) : Int := if m ≤ x.natAbs then 0 else (isqrt (m * m - x * x).toNat : Int) + r

/-- A value moved toward a target by at most a step. -/
def moveTo (x target : Int) (step : Nat) : Int := x + clampMag step (target - x)

/-! ### Lock and targets (R323, R324, R326) -/

/-- vq feeds PLLSTEP; consecutive dispatches within LOCKTOL, and the lock. -/
def lawLock (c : LawPar) (m : LawMeas) (l : LawSt) : LawSt :=
  let r := pllVal l.theta l.int (Config.lawPll 0) (Config.lawPll 1) (Config.lawPll 2) (Config.lawPll 3) (Config.lawPll 4) m.vq
  let n := if m.vq.toInt.natAbs ≤ c.u 0x28 * 32768 then l.lockRun + 1 else 0
  { l with theta := r.theta, int := r.int, omega := r.omega, lockRun := n, locked := decide (c.u 0x2C ≤ n) }

/-- V+ is not evaluated: the first quarter period after a restore (R327). -/
def lawQuiet (c : LawPar) (l : LawSt) : Bool := decide (c.now < l.quiet)

/-- The time since the last dispatch, ns. -/
def lawPeriod (c : LawPar) (l : LawSt) : Nat := match l.last with | none => 0 | some t => c.now - t

/-- The PLL frequency, 2^-16 Hz: OMEGA counts 2^-32 turns per dispatch; f0 at the first dispatch. -/
def lawFreq (c : LawPar) (l : LawSt) : Int :=
  if lawPeriod c l = 0 then c.f0 * 65536 else l.omega.toInt * 1000000000 / (65536 * lawPeriod c l)

/-- The reactive target of the power-factor mode (R326). -/
def pfTarget (c : LawPar) (m : LawMeas) (p : Int) : Int :=
  let pf := max 6554 (min 65536 (c.qset.natAbs : Int))
  let v := p * restOf 65536 pf (m.bit 0) / pf + m.bit 1
  if c.qset < 0 then -v else v

/-- A point of the Q(V) curve between two voltages. -/
def qvLine (v a b : Nat) (ya yb : Int) (r : Int) : Int := ya + (yb - ya) * ((v : Int) - a) / ((b : Int) - a) + r

/-- The Q(V) curve (R326). -/
def qvTarget (c : LawPar) (m : LawMeas) : Int :=
  let mx : Int := c.u 0x58
  if m.vp ≤ c.u 0x48 then mx
  else if c.u 0x54 ≤ m.vp then -mx
  else if c.u 0x4C ≤ m.vp ∧ m.vp ≤ c.u 0x50 then 0
  else if m.vp < c.u 0x4C then qvLine m.vp (c.u 0x48) (c.u 0x4C) mx 0 (m.bit 2)
  else qvLine m.vp (c.u 0x50) (c.u 0x54) 0 (-mx) (m.bit 2)

/-- Q* (R326). -/
def lawQStar (c : LawPar) (m : LawMeas) (p : Int) : Int :=
  match fieldOf (c.word 0x04) 6 4 with
  | 0 => c.qset
  | 1 => pfTarget c m p
  | _ => qvTarget c m

/-- VMAX of the active ramp over the time since the last dispatch, in 2^-32 pu. -/
def lawVmax (c : LawPar) (l : LawSt) : Nat := (if l.recover then c.u 0x34 else c.u 0x30) * 65536 * lawPeriod c l / 1000000000

/-- The active target moves by PROF; its AMAX is no more than VMAX (R324; the coefficients are open, log entry 76). -/
def lawActive (c : LawPar) (m : LawMeas) (l : LawSt) : LawSt :=
  let v := lawVmax c l
  let t := c.pset * 65536
  if v = 0 then l
  else
    let r := profVal l.p l.vel l.acc v (m.amax % v + 1 : Nat) (m.jmax + 1 : Nat) t
    { l with p := r.pos, vel := r.vel, acc := r.acc, recover := l.recover && decide (r.pos ≠ t) }

/-- The reactive target moves by a first-order response of time constant QTAU (R324). -/
def lawReactive (c : LawPar) (m : LawMeas) (l : LawSt) : LawSt :=
  let qt := lawQStar c m (l.p / 65536) * 65536
  let k := min (2 ^ 32) (Config.lawLag (lawPeriod c l) (c.u 0x44))
  { l with q := l.q + (qt - l.q) * k / 2 ^ 32 }

/-- The sequencer is in a connected state. -/
def seqConnected (st : Nat) : Bool := [3, 4, 5, 7].contains st

/-- The targets move (R324): not in RIDE, where they stay, and the active one starts from 0 at the connection (DEDUCED, log entry
76). The reactive one of Q(V) stays while V+ is not evaluated. -/
def lawTargets (c : LawPar) (m : LawMeas) (l : LawSt) : LawSt :=
  if l.ride then l
  else
    let l := if seqConnected c.seqSt then lawActive c m l else { l with p := 0, vel := 0, acc := 0, recover := false }
    if lawQuiet c l && decide (2 ≤ fieldOf (c.word 0x04) 6 4) then l else lawReactive c m l

/-- The references outside RIDE (R324): in RUN the current limit takes Iq+ back, or Id+ with QPRIO. -/
def lawRefs (c : LawPar) (m : LawMeas) (l : LawSt) : LawSt :=
  let id := min c.ceil (Config.lawCurrent (l.p / 65536) m.vp)
  let iq := Config.lawCurrent (l.q / 65536) m.vp
  let mx : Int := c.u 0x38
  if c.seqSt = 4 then
    let prio := bitAt (c.word 0x04) 3
    let id' := if prio then clampMag (restOf mx iq (m.bit 3)) id else id
    let iq' := if prio then iq else clampMag (restOf mx id (m.bit 3)) iq
    { l with idRef := id', iqRef := iq', iqNeg := 0, idPre := id', iqPre := iq' }
  else { l with idRef := id, iqRef := iq, iqNeg := 0 }

/-! ### Ride-through (R327, R328, R330) -/

/-- |V+| is outside the entry thresholds. -/
def lawOutside (c : LawPar) (m : LawMeas) : Bool := decide (m.vp < c.u 0x5C ∨ c.u 0x60 < m.vp)

/-- The entry: the second consecutive dispatch outside (R327). -/
def lawEnter (c : LawPar) (m : LawMeas) (l : LawSt) : LawSt :=
  if l.ride then l
  else if lawQuiet c l ∨ !lawOutside c m then { l with outRun := 0 }
  else if l.outRun = 0 then { l with outRun := 1 }
  else { l with outRun := 2, ride := true, rideAt := c.now, inSince := none, violated := false }

/-- The references of RIDE (R328). -/
def rideRefs (c : LawPar) (m : LawMeas) (l : LawSt) : LawSt :=
  let mx : Int := c.u 0x38
  let iqp := l.iqPre + lawMul (c.u 0x6C) (65536 - m.vp) (m.bit 4)
  let iqn := lawMul (c.u 0x70) m.vn (m.bit 5)
  let sum := (iqp.natAbs : Int) + iqn
  let cut := fun (x : Int) r => if mx < sum then x * mx / sum + r else x
  let iqp := cut iqp (m.bit 6)
  let iqn := cut iqn (m.bit 7)
  let rest := restOf mx ((iqp.natAbs : Int) + iqn) (m.bit 8)
  { l with idRef := min l.idPre rest, iqRef := iqp, iqNeg := -iqn }

/-- The points of a curve in ms and 2^-14 pu; one whose time is not greater than that of the point before it ends it
(R318, R330). -/
def curveFrom (c : LawPar) (off : Nat) : Nat → List (Nat × Nat)
  | 0 => []
  | k + 1 =>
    let w := c.word off
    let x := (fieldOf w 31 16, fieldOf w 15 0)
    if k ≠ 0 ∧ x.1 < fieldOf (c.word (off + 4)) 31 16 then x :: curveFrom c (off + 4) k else [x]

/-- The sign of v minus the curve at t: v in 2^-16 pu, t in ns; `none` before the first point, where there is no curve. -/
def aboveCurve (v t : Nat) : List (Nat × Nat) → Option Int
  | [] => none
  | [a] => if t < a.1 * 1000000 then none else some ((v : Int) - 4 * a.2)
  | a :: b :: l =>
    if t < a.1 * 1000000 then none
    else if b.1 * 1000000 ≤ t then aboveCurve v t (b :: l)
    else
      let dt : Int := (b.1 * 1000000 : Nat) - (a.1 * 1000000 : Nat)
      some (((v : Int) - 4 * a.2) * dt - 4 * ((b.2 : Int) - a.2) * ((t : Int) - (a.1 * 1000000 : Nat)))

/-- The envelope is violated (R330); before the first point of a curve no rule says, and the answer is open. -/
def lawViolates (c : LawPar) (m : LawMeas) (l : LawSt) : Bool :=
  let t := c.now - l.rideAt
  let low := match aboveCurve m.vp t (curveFrom c 0x74 8) with | some x => decide (x < 0) | none => m.bits.testBit 9
  let high := match aboveCurve m.vp t (curveFrom c 0x94 8) with | some x => decide (0 < x) | none => m.bits.testBit 10
  low || high

/-- |V+| lies in the exit band. -/
def lawInBand (c : LawPar) (m : LawMeas) : Bool := decide (c.u 0x5C + c.u 0x64 ≤ m.vp ∧ m.vp + c.u 0x64 ≤ c.u 0x60)

/-- A dispatch in RIDE: envelope, references, and the exit after RTEXIT in the band (R330); the active target then
starts from an open value. -/
def lawRide (c : LawPar) (m : LawMeas) (l : LawSt) : LawSt :=
  let l := rideRefs c m { l with violated := l.violated || lawViolates c m l }
  if lawInBand c m then
    let t0 := l.inSince.getD c.now
    if t0 + c.u 0x68 * 1000000 ≤ c.now then
      { l with ride := false, outRun := 0, inSince := none, recover := true, leftAt := some c.now,
               p := clampMag (m.left % (l.p.natAbs + 1)) l.p, vel := 0, acc := 0 }
    else { l with inSince := some t0 }
  else { l with inSince := none }

/-! ### Modes and hand-over (R332, R333) -/

/-- One step of the blend: its target is the incoming mode, or 0 after a command for the outgoing one; RIDE freezes it. -/
def handStep (c : LawPar) (l : LawSt) (h : HandSt) : LawSt :=
  if l.ride then l
  else
    let k : Int := (2 ^ 31 / c.u 0xB8 : Nat)
    let inc := decide (l.want = h.toGfm)
    let r := profVal h.pos h.vel h.acc k k k (if inc then 0x7FFFFFFF else 0)
    if r.done then { l with gfm := if inc then h.toGfm else !h.toGfm, hand := none }
    else { l with hand := some { h with pos := r.pos, vel := r.vel, acc := r.acc } }

/-- The hand-over starts: the incoming mode takes over the angle of the outgoing one (R332). -/
def lawPreload (l : LawSt) : LawSt := if l.want then { l with angle := l.theta } else { l with theta := l.angle }

/-- The mode of this dispatch: MODE0 until the connection (R318, R333), then the one commanded last. -/
def lawMode (c : LawPar) (m : LawMeas) (l : LawSt) : LawSt :=
  if !seqConnected c.seqSt then
    let g := bitAt (c.word 0x04) 1
    { l with gfm := g, want := g, hand := none }
  else match l.hand with
    | some h => handStep c l h
    | none =>
      if l.gfm = l.want then l
      else if m.d ≤ c.u 0xB4 then { lawPreload l with gfm := l.want }
      else { lawPreload l with hand := some ⟨l.want, 0, 0, 0⟩ }

/-- The angle advances at the PLL frequency in grid-following mode, by the droop in grid-forming mode, with the bias of
the perturbation word added; the PLL record is left unchanged (R338). -/
def lawOutput (c : LawPar) (m : LawMeas) (l : LawSt) : LawSt :=
  let droop := (c.f0 : Int) * 65536 - lawMul (c.u 0xBC) (m.p - c.pset) (m.bit 11) * c.f0
  let mag := 65536 - lawMul (c.u 0xC0) (m.q - c.qset) (m.bit 12)
  { l with
    bias := c.bias, freq := (if l.gfm then droop else lawFreq c l) + c.bias, mag := if l.gfm then mag else l.mag,
    angle := if l.gfm || l.hand.isSome then l.angle + wordOfInt ((droop + c.bias) * lawPeriod c l * 65536 / 1000000000) else l.angle }

/-- What one dispatch of the law does to it; while V+ is not evaluated the references, the envelope and the exit band stand still
(R327). -/
def lawStep (c : LawPar) (m : LawMeas) (l : LawSt) : LawSt :=
  let l := lawEnter c m (if lawQuiet c l then l else lawLock c m l)
  let l := if l.ride then (if lawQuiet c l then l else lawRide c m l)
    else
      let l := lawTargets c m l
      if lawQuiet c l then l else lawRefs c m l
  { lawOutput c m (lawMode c m l) with last := some c.now }

/-- What the law has to report after a dispatch that took it from `l` to `u`: the lock in SYNC, the end of the ramp in RAMP, RIDE
entered and left, the envelope violated (R320, R323, R329, R330). -/
def lawNews (c : LawPar) (l u : LawSt) : List LawEvent :=
  (if c.seqSt = 2 ∧ u.locked ∧ !l.toldLock then [.locked] else []) ++
  (if u.ride ∧ !l.ride then [.rideIn] else []) ++
  (if u.violated ∧ (l.ride ∨ u.ride) ∧ !(l.violated && l.ride) then [.violated] else []) ++
  (if l.ride ∧ !u.ride then [.rideOut] else []) ++
  (if c.seqSt = 3 ∧ !u.ride ∧ u.p = c.pset * 65536 ∧ !l.toldRamp then [.rampDone] else [])

/-- What has been reported. -/
def lawTold (c : LawPar) (u : LawSt) : LawSt :=
  { u with toldLock := decide (c.seqSt = 2) && (u.toldLock || u.locked),
           toldRamp := decide (c.seqSt = 3) && (u.toldRamp || (!u.ride && decide (u.p = c.pset * 65536))) }

/-- A command of the sequencer has been popped. -/
def lawTake (l : LawSt) (x : LawCmd) : LawSt :=
  match x with
  | .pset v => { l with pset := some v }
  | .qset v => { l with qset := some v }
  | .mode g => { l with want := g }

/-! ### The dispatch -/

/-- The bias of the perturbation word (R338): the word counts while G4 lies in its window. -/
def State.lawBias (s : State) (c : Nat) (g4 : Word) (f0 : Nat) : Int :=
  let n := coreOf c
  let a := rcData n + s.get (R.RAFTER_PU_PADDR_ADDR n) * 8
  let d := (g4 - s.memWord a).toInt
  if s.on (R.RAFTER_PU_PADDR_PWEN n) && decide (0 ≤ d ∧ d < (2 * 1000000000 / f0 : Nat)) then (s.memWord (a + 4)).toInt else 0

/-- The frequency that GPR_MODE selects. -/
def State.lawF0 (s : State) (c : Nat) : Nat := if bitAt (s.gpr c 4) 0 then 60 else 50

/-- The parameters of a dispatch. -/
def State.lawPar (s : State) (c : Nat) : LawPar :=
  { word := s.gpr c, now := s.upNs, seqSt := s.seq.st,
    pset := (s.law.pset.getD (s.gpr c 0x3C)).toInt, qset := (s.law.qset.getD (s.gpr c 0x40)).toInt,
    ceil := ((s.seq.ceil.getD ((s.gpr c 0x38).toNat * 10)) / 10 : Nat),
    bias := s.lawBias c (s.ctx c).dispStamp (s.lawF0 c), f0 := s.lawF0 c }

/-- The first dispatch after a close checks the record; with an invalid one the law opens its context again (R319). -/
def State.lawCheck (s : State) (c : Nat) : State :=
  if s.on (R.RAFTER_CTX_STAT_FIRST c) && !s.isOpen c then
    let ok := s.gprValid c
    let s := { s with law := { s.law with recOk := ok } }
    if ok then s else (s.ctxOpen (coreOf c) (BitVec.ofNat 32 c)).1
  else s

/-- After COMMIT the law pops its command queue (R322, R323). -/
def State.lawPops (s : State) (n : Fin 8) : Nat → State
  | 0 => s
  | k + 1 =>
    let q := fieldOf s.qsel 4 0
    match s.law.cmds.drop (s.law.cmds.length - (s.msgs q).length) with
    | x :: l =>
      let r := s.qPop (.rc n) q 256
      if r.2.code = 0 then ({ r.1 with law := { lawTake r.1.law x with cmds := l } } : State).lawPops n k else r.1
    | [] => s

/-- A dispatch of the law: it remembers its context, steps, reports what there is to report, and pops its command queue. -/
def State.lawDispatch (s : State) (c : Nat) : State :=
  let s := s.noteLaw.lawCheck c
  let p := s.lawPar c
  let u := lawStep p s.lawMeas s.law
  let news := lawNews p s.law u
  let n : Fin 8 := Fin.ofNat 8 (coreOf c)
  let s := { s with law := lawTold p u, freeCtr := s.freeCtr + 12 }
  let s := news.foldl (fun t e => t.lawTells n e) s
  s.lawPops n (s.msgs (fieldOf s.qsel 4 0)).length

/-- The scheduler starts the next ready context; the grid law's does what its program does. -/
def State.dispatchLaw (s : State) (n : Nat) : State :=
  let t := s.dispatch n
  match s.lawCtx with
  | some c => if decide (coreOf c = n) && s.coreIdle n && decide (s.nextReady n = some c) then t.lawDispatch c else t
  | none => t

/-- After a restore of the law's core V+ is not evaluated for a quarter period (R327). -/
def State.lawRestored (s : State) (n : Nat) : State :=
  match s.lawCtx with
  | some c => if coreOf c = n then { s with law := { s.law with quiet := s.upNs + 1000000000 / (4 * s.lawF0 c) } } else s
  | none => s

end Sys2Proof.Machine
end

