-- ==== Sys2Proof/Machine/RowsRafter.lean ====
section
/-!
DEFINITION. The commands of the Rafter islands beside their instructions (R153 to R189).
-/

namespace Sys2Proof.Machine

/-- An event of a channel reaches a core (R153). -/
def execDispatchEvent (n : Fin 8) (ch : Chan) (evt : BattenEvent) (s : State) : Answer :=
  .next (s.dispatchEvent n ch evt)

/-- The scheduler starts the next ready context (R154), the grid law with what its program does (R323 to R338); it reads the
descriptor and the block, in which the codes of R41 may find an error. -/
def execDispatch (n : Fin 8) (err : List (Nat × Bool)) (s : State) : Answer :=
  .next (s.inPd (pdOfRc n) fun s => let t := s.eccFound err; if t.pdRun (pdOfRc n) then t.dispatchLaw n else t)

/-- A sample vector completes (R156). -/
def execSampleVectorArrival (c : Fin 256) (s : State) : Answer := .next ((s.vectorArrival c).retry (coreOf c))

/-- A re-execution has exceeded its limit (R161). -/
def execReexecLimit (n : Fin 8) (s : State) : Answer := .next (s.inPd (pdOfRc n) fun s => s.reexecLimit n)

/-- The vector has not arrived in time (R168). -/
def execVectorTimeout (c : Fin 256) (s : State) : Answer := .next ((s.vectorTimeout c).retry (coreOf c))

/-- A report of a bound input reaches the context (R168, R279). -/
def execFeedbackLost (c : Fin 256) (s : State) : Answer :=
  .next (s.inPd (pdOfRc (coreOf c)) fun s => (s.fbReport c).retry (coreOf c))

/-- The eighth good vector in a row (R168). -/
def execFeedbackClear (c : Fin 256) (s : State) : Answer := .next ((s.feedbackClear c).retry (coreOf c))

/-- HOLDN events under the flag (R170). -/
def execHoldnExpiry (c : Fin 256) (s : State) : Answer := .next (s.inPd (pdOfRc (coreOf c)) fun s => s.holdnReached c)

/-- A yealm copy completes (R173). -/
def execYealmCopyDone (c : Fin 256) (s : State) : Answer := .next (s.inPd (pdOfRc (coreOf c)) fun s => s.yealmDone c)

/-- The island is released behind closed gates and takes its values of the stored set (R586); the restore sequencer runs
(R174); values of a SWAP in the island are exchanged (R590); its phasor unit restarts (R317). -/
def execRestore (n : Fin 8) (bad : List (Fin 256 × Bool)) (s : State) : Answer :=
  let u := if s.sys.restoreDue.contains (pdOfRc n) && decide (s.heldTill (pdOfRc n) ≤ s.upNs) then s.applyStored (pdOfRc n) else s
  .next (let t := u.restore n bad; if t.pdRun (pdOfRc n) && !s.pdRun (pdOfRc n) then (((t.swapIsland (pdOfRc n)).swapCore n).lawRestored n).puRestart n else t)

/-- SVY = 1 is written (R178). -/
def execSurveyRequest (n : Fin 8) (s : State) : Answer := .next (s.surveyRequest n)

/-- The core enters Survey mode (R178). -/
def execSurveyEntry (n : Fin 8) (s : State) : Answer := .next (s.surveyEntry n)

/-- SVY = 0 is written (R178). -/
def execSurveyEnd (n : Fin 8) (s : State) : Answer := .next (s.surveyEnd n)

/-- OPEN through CTXCMD (R189). -/
def execCtxcmdOpen (n : Fin 8) (src : Master) (c : Byte) (s : State) : Answer := .next (s.ctxCmd n src c true)

/-- CLOSE through CTXCMD (R189). -/
def execCtxcmdClose (n : Fin 8) (src : Master) (c : Byte) (s : State) : Answer := .next (s.ctxCmd n src c false)

/-- A window of UTIL ends (R188). -/
def execUtilWindow (n : Fin 8) (busy : Nat) (s : State) : Answer := .next (s.utilWindow n busy)

end Sys2Proof.Machine
end

