-- ==== Sys2Proof/Machine/RowsSafe.lean ====
section
/-!
DEFINITION. The commands of the safety channels (R411 to R456).
-/

namespace Sys2Proof.Machine

/-! ### Inputs, pairs and test pulses -/

/-- An input has been low for FILT in a channel (R423). -/
def execInputDemand (warden : Bool) (i : Fin 16) (s : State) : Answer := .next (s.inputDemand warden i)

/-- An input has been high for FILT (R423). -/
def execInputHealthy (warden : Bool) (i : Fin 16) (s : State) : Answer := .next (s.inputHealthy warden i)

/-- CHDLY runs out (R426). -/
def execChdlyExpiry (warden : Bool) (f : Fin 8) (s : State) : Answer := .next (s.chdlyEnd warden f)

/-- A test pulse source drives its low pulse (R421). -/
def execTestPulse (k : Fin 4) (follows : Bool) (s : State) : Answer := .next (s.testPulse k follows)

/-- A test window ends (R422). -/
def execTestWindowEnd (k : Fin 4) (low around : BitVec 16) (s : State) : Answer :=
  .next (s.testWindow k low.toNat around.toNat)

/-- A pair has been inconsistent for DISC ms (R424). -/
def execDisc (warden : Bool) (p : Fin 8) (s : State) : Answer := .next (s.pairDisc warden p)

/-- The channels have disagreed for 20 ms (R412). -/
def execDisag (s : State) : Answer := .next s.disagree

/-- The lock record burst is retried (R442). -/
def execLockRecordRetry (s : State) : Answer := .next s.lockRetry

/-- A dynamic permit stops toggling (R411). -/
def execPermitLoss (warden : Bool) (s : State) : Answer := .next (s.permitLoss warden)

/-! ### Relay chains -/

/-- SAFE_RCREQ is written (R416). -/
def execSafeRcreqWrite (v : BitVec 4) (s : State) : Answer := .next (s.rcreq v.toNat)

/-- A channel opens its switch for DARK µs (R417). -/
def execDarkTest (c : Fin 4) (high : Bool) (s : State) : Answer := .next (s.darkTest c high)

/-- RBT has passed since a command (R417). -/
def execReadbackCheck (c : Fin 4) (rbh rbl : Bool) (s : State) : Answer := .next (s.readback c rbh rbl)

/-- 250 ms have passed since a chain command (R417). -/
def execEdmCheck (c : Fin 4) (s : State) : Answer := .next (s.edmCheck c)

/-! ### Black-channel messages -/

/-- A publication's PERIOD (R432): the PDU goes out on both ports unless it is suppressed. -/
def execSafeFramePublish (t : Fin 4) (s : State) : Answer := .next (s.publishFrames t)

/-- A copy of a PDU arrives on network A or B (R433 to R435). -/
def execSafeFrameReceive (net : Bool) (pdu : List Byte) (s : State) : Answer := .next (s.safeReceive net pdu)

/-- DUPWIN ends without a second copy (R435). -/
def execDupwinExpiry (k : Fin 4) (s : State) : Answer := .next (s.dupwinEnd k)

/-- WDT ms without a new SEQ (R436). -/
def execSubscriptionWatchdog (warden : Bool) (k : Fin 4) (s : State) : Answer := .next (s.rxWatchdog warden k)

/-- SAFE_CMD.CNTCLR (R456). -/
def execSafeCntclr (s : State) : Answer := .next (s.inPd 2 fun s => s.cntclr)

/-! ### Supervision -/

/-- The Warden writes its heartbeat (R437). -/
def execWardenHeartbeat (v : Word) (s : State) : Answer := .next (s.heartbeat v)

/-- No heartbeat within WMAX: Flashing finds WHB (R437). -/
def execWhb (s : State) : Answer := .next (if s.chUp false && s.hbLate then s.safeFault 1 1 else s)

/-- An observer finds an island's clock stopped or fast: SAFE_CLKMON, and a report under R38 (R438); the oscillators of PD0
are observed by PD0 (R31). -/
def execClockObserverFailure (warden : Bool) (pd : Fin 16) (s : State) : Answer :=
  .next (if pd.val = 0 then s.pd0ClockBad else if s.chUp warden then (s.clockBad warden pd).observedStop pd else s)

/-- Flashing finds the Warden's oscillator failed (R438). -/
def execWclk (s : State) : Answer := .next (if s.chUp false then s.safeFault 2 1 else s)

/-- The Warden finds Flashing's oscillator failed (R438). -/
def execFclk (s : State) : Answer := .next (if s.chUp true then s.safeFault 3 2 else s)

/-- A duplicated-state compare in Flashing fails (R441). -/
def execFpd (s : State) : Answer := .next (if s.chUp false then s.safeFault 11 1 else s)

/-- The clock of PD12 has run for 1024 cycles of Flashing's (R439). -/
def execPfRestore (s : State) : Answer := .next s.pfRestore

/-- The Warden tests a safety window (R440). -/
def execWindowTestTimer (k : Fin 16) (upper : Bool) (s : State) : Answer := .next (s.winTimer k upper)

/-! ### Functions and deliberate reset -/

/-- SAFE_CMD.STOP (R425). -/
def execSafeStop (s : State) : Answer := .next (s.inPd 2 fun s => s.safeStop)

/-- SAFE_CMD.RST (R427). -/
def execSafeRestart (m : BitVec 8) (s : State) : Answer := .next (s.inPd 2 fun s => s.safeRestart m.toNat)

/-- SAFE_CMD.EDIT (R451). -/
def execSafeEdit (s : State) : Answer := .next (s.inPd 2 fun s => s.safeEdit)

/-- Purpose 0x01 is written to SAFE_UNLREQ (R444). -/
def execUnlockRequest (s : State) : Answer := .next (s.inPd 2 fun s => s.unlRequest 1)

/-- Purpose 0x02 is written to SAFE_UNLREQ (R444). -/
def execEditRequest (s : State) : Answer := .next (s.inPd 2 fun s => s.unlRequest 2)

/-- SAFE_UNLRSP7 is written (R444). -/
def execUnlockResponse (w : Word) (s : State) : Answer := .next (s.inPd 2 fun s => s.unlResponse w)

/-- 60 s of PEND have passed (R444). -/
def execUnlockPendExpiry (s : State) : Answer :=
  .next (s.inPd 2 fun s => s.pendEnd)

/-- The 600 s block ends (R444). -/
def execUnlockBlockExpiry (s : State) : Answer :=
  .next (s.inPd 2 fun s => s.blockedEnd)

/-- SRST_N rises after a low time (R445, R446). -/
def execSrstPulse (warden flashing : Nat) (fault : Bool) (s : State) : Answer := .next (s.srstPulse warden flashing fault)

/-! ### Commissioning -/

/-- SAFE_PAR is written (R451). -/
def execSafeParWrite (k : Fin 128) (v : Word) (s : State) : Answer := .next (s.sprWrite k v)

/-- SAFE_CONFIRM is written (R452). -/
def execSafeConfirm (v : Word) (s : State) : Answer := .next (s.inPd 2 fun s => s.sprConfirm v)

/-- The second's recomputation of the record's CRC (R449). -/
def execParamCrcCheck (warden differs : Bool) (s : State) : Answer := .next (s.sprCheck warden differs)

/-- The channels' CRCs differ 100 ms after a write (R452). -/
def execPcf (s : State) : Answer := .next s.pcf

/-- PD1 and PD2 are released (R451). -/
def execSafetyInit (s : State) : Answer := .next s.safetyInit

end Sys2Proof.Machine
end

