-- ==== Sys2Proof/Machine/RowsSense.lean ====
section
/-!
DEFINITION. The commands of the analog front PD13 (R267 to R300) and of the regulator control and MPP engines (R346 to
R369).
-/

namespace Sys2Proof.Machine

/-! ### Modulator inputs -/

/-- The read-back of periods of a modulator clock, as levels at the end of the high and of the low phase: four failed ones make
it dead (R269). -/
def execDeadClock (k : Fin 8) (backs : List (Bool × Bool)) (s : State) : Answer :=
  .next (s.inPd 13 fun s => State.noteReports s (s.mckPeriods k backs))

/-- The same read-back: four good periods end a dead clock (R269). -/
def execDeadClockEnd (k : Fin 8) (backs : List (Bool × Bool)) (s : State) : Answer :=
  .next (s.inPd 13 fun s => State.noteReports s (s.mckPeriods k backs))

/-- Bits that an input captures after a rise of its clock, with the reports that they cause (R270, R279). -/
def State.captured (s : State) (n : Nat) (rise : Word) (bits : List Bool) : State :=
  State.noteReports s (s.capture n rise bits)

/-- The bits at which filter 0 settles (R274). -/
def execFilterSettled (n : Fin 24) (rise : Word) (bits : List Bool) (s : State) : Answer :=
  .next (s.inPd 13 fun s => s.captured n rise bits)

/-- The bits at which filter 1 forms an output (R273). -/
def execMonitorOutput (n : Fin 24) (rise : Word) (bits : List Bool) (s : State) : Answer :=
  .next (s.inPd 13 fun s => s.captured n rise bits)

/-- The components of a context that come from modulator inputs: component and input (R151). -/
def State.mdComps (s : State) (c : Nat) : List (Nat × Nat) :=
  ((List.range (s.ncomp c)).filter (fun k => fieldOf (s.samp c k) 31 30 = 0)).map (fun k => (k, fieldOf (s.samp c k) 29 24))

/-- PD13 selects the output of each requested component, or waits for its capture edge; an input that is disabled or not settled
gives 0 and reports a dead clock (R275 to R277). -/
def State.sampleRequest (s : State) (c : Nat) : State :=
  let cs := s.mdComps c
  let ev := ((s.ctx c).waits.getLast?.map (·.stamp)).getD 0
  let r := cs.foldl (fun (t : State × List (Nat × Nat × Option Word)) x =>
    let y := t.1.component x.2 ev
    (y.1, t.2 ++ [(x.1, x.2, y.2)])) (s, [])
  let s := r.1.setSense (coreOf c) (r.1.senseOf (coreOf c) ++ [⟨c, ev, r.2⟩])
  if cs.all (fun x => s.inputReady x.2) then s else s.fbRaise c

/-- A request of a context's scheduler reaches PD13 (R276). -/
def execSampleRequest (c : Fin 256) (s : State) : Answer :=
  .next (s.inPd 13 fun s => if s.isCfg c then (s.sampleRequest c).retry (coreOf c) else s)

/-- PD13 presents the oldest request of a core to the fabric once all its components are selected (R276, R277). -/
def execVectorPartPresent (core : Fin 8) (s : State) : Answer :=
  .next (s.inPd 13 fun s =>
    match s.senseOf core with
    | [] => s
    | r :: l =>
      if r.parts.any (fun x => x.2.2.isNone) then s
      else
        let s := s.setSense core l
        if s.pdOpen (pdOfRc core) then
          s.takeParts r.ctx (fun a _ => decide (a.stamp = r.stamp)) (r.parts.map (fun x => (x.1, x.2.2.getD 0)))
        else s)

/-- The bits with which the last STUCKN repeat (R278). -/
def execStuckPattern (n : Fin 32) (rise : Word) (bits : List Bool) (s : State) : Answer :=
  .next (s.inPd 13 fun s => s.captured n rise bits)

/-- The bits that break the repetition (R278). -/
def execStuckPatternEnd (n : Fin 32) (rise : Word) (bits : List Bool) (s : State) : Answer :=
  .next (s.inPd 13 fun s => s.captured n rise bits)

/-- The bits with which FRZK outputs differ by at most FRZBAND (R278). -/
def execFrozenValue (n : Fin 24) (rise : Word) (bits : List Bool) (s : State) : Answer :=
  .next (s.inPd 13 fun s => s.captured n rise bits)

/-- The bits with which an output differs by more (R278). -/
def execFrozenValueEnd (n : Fin 24) (rise : Word) (bits : List Bool) (s : State) : Answer :=
  .next (s.inPd 13 fun s => s.captured n rise bits)

/-! ### Comparators and windows -/

/-- The pin of a comparator stage comes to hold `nv` nanovolts and its output follows, on paths that no stopped or isolated island
blocks (R27, R252, R280, R283, R286). -/
def execComparatorOutputChange (c : Cmp) (nv : Nat) (s : State) : Answer :=
  .next (if s.pdLive 13 then State.noteWindows s (s.cmpChange c nv) else s)

/-- Every comparator stage. -/
def allCmps : List Cmp :=
  (List.finRange 96).map .leg ++ (List.finRange 48).map .hard ++ (List.finRange 16).map .winLo ++ (List.finRange 16).map .winHi

/-- No enabled stage settles. -/
def State.cmpsSettled (s : State) : Bool := allCmps.all (fun c => !s.cmpEnabled c || decide ((s.cmp c).settling = 0))

/-- The settling of a stage ends with `nv` nanovolts at its pin (R282, R283); PD13's reason for INH ends with the last of them
(R47). -/
def execComparatorSettled (c : Cmp) (nv : Nat) (s : State) : Answer :=
  .next (s.inPd 13 fun s =>
    let s := State.noteWindows s (s.cmpSettled c nv)
    if s.cmpsSettled then s.uninhibitAll 13 else s)

/-- A threshold code is written (R284). -/
def execDacCodeWrite (c : Cmp) (code : BitVec 10) (late : Bool) (s : State) : Answer :=
  .next (s.inPd 13 fun s => State.noteWindows s (s.codeWrite c code.toNat late))

/-- A reload marker starts a comparator's ramp (R285). -/
def execRampStart (c : Fin 96) (s : State) : Answer := .next (s.inPd 13 fun s => s.rampStart c)

/-- A window output has been active for QUAL cycles (R289). -/
def execWindowFltQual (w : Fin 16) (s : State) : Answer :=
  .next (s.inPd 13 fun s => State.noteWindows s (s.winQualified w))

/-- No swing of the thresholds within SWTO (R289). -/
def execSwingTimeout (w : Fin 16) (s : State) : Answer :=
  .next (s.inPd 13 fun s => State.noteWindows s (s.swingTimeout w))

/-! ### Housekeeping ADC -/

/-- HADC_CMD.GO (R299). -/
def execHadcGo (s : State) : Answer := .next (s.inPd 13 fun s => s.hadcGo)

/-- HADC_CMD.STOP (R299). -/
def execHadcStop (s : State) : Answer := .next (s.inPd 13 fun s => s.hadcOff)

/-- The start-up delay ends (R295). -/
def execHadcStartupEnd (s : State) : Answer := .next (s.inPd 13 fun s => s.hadcStarted)

/-- A conversion completes (R295, R297). -/
def execHadcResult (nv : Nat) (s : State) : Answer := .next (s.inPd 13 fun s => s.hadcResult nv)

/-- HADC_DATA is read (R297). -/
def execHadcDataRead (s : State) : Answer := .next (s.inPd 13 fun s => s.hadcRead.1)

/-! ### Converters -/

/-- EN = 1 is written to a converter (R353). -/
def execBoostEnable (k : Fin 8) (s : State) : Answer := .next (s.inPd 12 fun s => s.bcEnable k)

/-- EN = 0 is written (R353). -/
def execBoostDisable (k : Fin 8) (s : State) : Answer := .next (s.inPd 12 fun s => s.bcDisable k)

/-- ICMD is written (R351). -/
def execIcmdWrite (k : Fin 8) (v : Word) (late : Bool) (s : State) : Answer := .next (s.inPd 12 fun s => s.icmdWrite k v late)

/-- A shed starts (R354). -/
def execShedStart (k : Fin 8) (s : State) : Answer := .next (s.inPd 12 fun s => s.shedStart k)

/-- A shed completes (R354). -/
def execShedComplete (k : Fin 8) (s : State) : Answer := .next (s.inPd 12 fun s => s.shedComplete k)

/-- A phase is added (R356). -/
def execAddStart (k : Fin 8) (s : State) : Answer := .next (s.inPd 12 fun s => s.addStart k)

/-- The added phase runs (R356). -/
def execAddComplete (k : Fin 8) (s : State) : Answer := .next (s.inPd 12 fun s => s.addComplete k)

/-- A phase has failed open (R360). -/
def execPhaseOpenFailure (k : Fin 8) (i : Fin 6) (s : State) : Answer := .next (s.inPd 12 fun s => s.phaseOpen k i)

/-- A cross-check window ends (R361). -/
def execCrossCheckWindow (k : Fin 8) (s : State) : Answer := .next (s.inPd 12 fun s => s.crossCheck k)

/-- FAIL bits are cleared (R364). -/
def execFailClear (k : Fin 8) (mask : BitVec 6) (s : State) : Answer := .next (s.inPd 12 fun s => s.failClear k mask.toNat)

/-- MEN = 1 is written (R365). -/
def execMppEnable (k : Fin 8) (s : State) : Answer := .next (s.inPd 12 fun s => s.mppEnable k)

/-- An interval of an engine ends (R366). -/
def execMppIntervalEnd (k : Fin 8) (s : State) : Answer := .next (s.inPd 12 fun s => s.mppInterval k)

/-- A scan is requested (R368). -/
def execMppScanGo (k : Fin 8) (s : State) : Answer := .next (s.inPd 12 fun s => s.scanGo k)

/-- SCMIN has passed (R368). -/
def execScminExpiry (k : Fin 8) (s : State) : Answer := .next (s.inPd 12 fun s => s.scminEnd k)

end Sys2Proof.Machine
end

