-- ==== Sys2Proof/Machine/RowsTop.lean ====
section
/-!
DEFINITION. The commands of the clocks and the time base (R457 to R478) and of the host interface and the queues (R16, R600
to R618).
-/

namespace Sys2Proof.Machine

/-! ### Clocks -/

/-- A reference is lost (R464). -/
def execLossOfReference (lref : Bool) (s : State) : Answer :=
  .next ((s.refLoss lref).coveredFault s ((s.refUsers lref).any (fun n => !s.bypassed n)).toNat)

/-- A synthesizer loses lock (R464). -/
def execLossOfLock (n : Fin 4) (s : State) : Answer := .next ((s.lockLoss n).coveredFault s (!s.bypassed n).toNat)

/-- A synthesizer locks (R462). -/
def execSynthLock (n : Fin 4) (s : State) : Answer := .next (s.synLock n)

/-- A synthesizer is stable (R462, R466). -/
def execSynthStable (n : Fin 4) (s : State) : Answer := .next (s.synStable n)

/-- UPD is written (R469). -/
def execUpd (n : Fin 4) (s : State) : Answer := .next (s.inPd 3 fun s => s.update n)

/-- FBYP is written (R467). -/
def execFbyp (n : Fin 4) (s : State) : Answer := .next (s.inPd 3 fun s => s.forceBypass n)

/-- RESUME is written (R467). -/
def execResume (n : Fin 4) (s : State) : Answer := .next (s.inPd 3 fun s => s.resume n)

/-- 5 ms have passed since an update (R470). -/
def execUpdateTimeout (n : Fin 4) (s : State) : Answer := .next (s.updateTimeout n)

/-- BYPCLK and REFCLK are measured against each other; a REFCLK more than 2 % off its nominal value is lost (R459, R464). -/
def execBypclkMeasure (byp ref : BitVec 16) (s : State) : Answer :=
  if s.refOff ref.toNat && !s.refLost then execLossOfReference false (s.bypMeasure byp.toNat ref.toNat)
  else .next (s.bypMeasure byp.toNat ref.toNat)

/-- A reference has returned (R466). -/
def execReferenceReturn (lref : Bool) (s : State) : Answer := .next (s.refReturn lref)

/-- STEP is written (R475). -/
def execTimeStep (s : State) : Answer := .next (s.inPd 3 fun s => s.timeStep)

/-- UNACQ is written (R475). -/
def execUnacq (s : State) : Answer := .next (s.inPd 3 fun s => s.unacquire)

/-- SYNC = 1 is written (R476). -/
def execTimeSync (s : State) : Answer := .next (s.inPd 3 fun s => s.syncTime)

/-- HOLD seconds have passed without SYNC (R476). -/
def execTsynHoldExpiry (s : State) : Answer := .next (s.inPd 3 fun s => s.holdOver)

/-- PD3 refreshes the followers (R478). -/
def execFollowerRefresh (s : State) : Answer := .next (s.inPd 3 fun s => s.refreshFollowers)

/-! ### Host interface -/

/-- A write access of a master (R16 to R20, R598 to R602). -/
def execRegisterWrite (m : Master) (addr v : Word) (be : BitVec 4) (slow left : Bool) (s : State) : Answer :=
  .next (s.masterWrite m (addr.toNat / 4 * 4) v be.toNat slow left)

/-- A held access is not repeated in time (R600). -/
def execHeldAccessTimeout (s : State) : Answer := .next s.heldTimeout

/-- SPI WRITE (R607). -/
def execSpiWrite (addr : Word) (words : List (Word × Bool)) (s : State) : Answer :=
  .next (s.spiWrite (addr.toNat / 4 * 4) words)

/-- SPI READ (R607). -/
def execSpiRead (addr : Word) (waits : List Nat) (err : List (Nat × Bool)) (s : State) : Answer :=
  .next (s.spiRead (addr.toNat / 4 * 4) waits err)

/-- SPI STATUS, or a byte that is no command (R607). -/
def execSpiStatus (cmd : Byte) (busy : Bool) (s : State) : Answer := .next (s.spiStatus cmd busy)

/-- A latch word is read (R605). -/
def execSnapshotLatchRead (m : Master) (addr : Word) (s : State) : Answer := .next (s.latchRead m (addr.toNat / 4 * 4))

/-- Doorbells are set (R612). -/
def execDbset (set : BitVec 4) (s : State) : Answer :=
  .next (s.inPd 3 fun s => s.put R.HOST_DBELL_DB (s.get R.HOST_DBELL_DB ||| set.toNat))

/-! ### Queues -/

/-- The host pushes QUEUE_HBUF (R616). -/
def execHcmdPush (q : Fin 32) (len : BitVec 9) (s : State) : Answer := .next (s.inPd 3 fun s => s.hcmdPush q len.toNat)

/-- The host pops into QUEUE_HBUF (R616). -/
def execHcmdPop (q : Fin 32) (cap : BitVec 9) (s : State) : Answer := .next (s.inPd 3 fun s => s.hcmdPop q cap.toNat)

/-- The host reads the counts (R616). -/
def execHcmdStat (q : Fin 32) (s : State) : Answer := .next (s.inPd 3 fun s => s.hcmdStat q)

/-- EN = 1 is written to a queue (R613). -/
def execQueueEnable (q : Fin 32) (s : State) : Answer := .next (s.inPd 3 fun s => s.qEnable q)

/-- EN = 0 is written to a queue (R618). -/
def execQueueDisable (q : Fin 32) (s : State) : Answer := .next (s.inPd 3 fun s => s.qDisable q)

end Sys2Proof.Machine
end

