-- ==== Sys2Proof/Machine/Dispatch.lean ====
section
/-!
DEFINITION. What each command does to everything but the queue: one direct call per constructor.
-/
namespace Sys2Proof.Machine
open Sys2Proof

def exec (i : Instr) (s : State) : Host.Outcome State Fault Refusal :=
  match i with
  | .add x f => Sys2Proof.Machine.execAdd x f s
  | .sub x f => Sys2Proof.Machine.execSub x f s
  | .and x f => Sys2Proof.Machine.execAnd x f s
  | .or x f => Sys2Proof.Machine.execOr x f s
  | .xor x f => Sys2Proof.Machine.execXor x f s
  | .andn x f => Sys2Proof.Machine.execAndn x f s
  | .sll x f => Sys2Proof.Machine.execSll x f s
  | .srl x f => Sys2Proof.Machine.execSrl x f s
  | .sra x f => Sys2Proof.Machine.execSra x f s
  | .ror x f => Sys2Proof.Machine.execRor x f s
  | .slt x f => Sys2Proof.Machine.execSlt x f s
  | .sltu x f => Sys2Proof.Machine.execSltu x f s
  | .min x f => Sys2Proof.Machine.execMin x f s
  | .max x f => Sys2Proof.Machine.execMax x f s
  | .minu x f => Sys2Proof.Machine.execMinu x f s
  | .maxu x f => Sys2Proof.Machine.execMaxu x f s
  | .adds x f => Sys2Proof.Machine.execAdds x f s
  | .subs x f => Sys2Proof.Machine.execSubs x f s
  | .abs x f => Sys2Proof.Machine.execAbs x f s
  | .clz x f => Sys2Proof.Machine.execClz x f s
  | .popc x f => Sys2Proof.Machine.execPopc x f s
  | .addi x f => Sys2Proof.Machine.execAddi x f s
  | .andi x f => Sys2Proof.Machine.execAndi x f s
  | .ori x f => Sys2Proof.Machine.execOri x f s
  | .xori x f => Sys2Proof.Machine.execXori x f s
  | .slti x f => Sys2Proof.Machine.execSlti x f s
  | .sltiu x f => Sys2Proof.Machine.execSltiu x f s
  | .lui x f => Sys2Proof.Machine.execLui x f s
  | .shi x f => Sys2Proof.Machine.execShi x f s
  | .cmpi x f => Sys2Proof.Machine.execCmpi x f s
  | .ceq x f => Sys2Proof.Machine.execCeq x f s
  | .cne x f => Sys2Proof.Machine.execCne x f s
  | .clt x f => Sys2Proof.Machine.execClt x f s
  | .cge x f => Sys2Proof.Machine.execCge x f s
  | .cltu x f => Sys2Proof.Machine.execCltu x f s
  | .cgeu x f => Sys2Proof.Machine.execCgeu x f s
  | .pand x f => Sys2Proof.Machine.execPand x f s
  | .por x f => Sys2Proof.Machine.execPor x f s
  | .pxor x f => Sys2Proof.Machine.execPxor x f s
  | .pandn x f => Sys2Proof.Machine.execPandn x f s
  | .prd x f => Sys2Proof.Machine.execPrd x f s
  | .pwr x f => Sys2Proof.Machine.execPwr x f s
  | .mul x f => Sys2Proof.Machine.execMul x f s
  | .muld x f => Sys2Proof.Machine.execMuld x f s
  | .muldu x f => Sys2Proof.Machine.execMuldu x f s
  | .muldm x f => Sys2Proof.Machine.execMuldm x f s
  | .div x f => Sys2Proof.Machine.execDiv x f s
  | .divu x f => Sys2Proof.Machine.execDivu x f s
  | .rem x f => Sys2Proof.Machine.execRem x f s
  | .remu x f => Sys2Proof.Machine.execRemu x f s
  | .qmul x f => Sys2Proof.Machine.execQmul x f s
  | .qmul2 x f => Sys2Proof.Machine.execQmul2 x f s
  | .ldb x f => Sys2Proof.Machine.execLdb x f s
  | .ldbu x f => Sys2Proof.Machine.execLdbu x f s
  | .ldh x f => Sys2Proof.Machine.execLdh x f s
  | .ldhu x f => Sys2Proof.Machine.execLdhu x f s
  | .ldw x f => Sys2Proof.Machine.execLdw x f s
  | .ldd x f => Sys2Proof.Machine.execLdd x f s
  | .ldf x f => Sys2Proof.Machine.execLdf x f s
  | .stb x f => Sys2Proof.Machine.execStb x f s
  | .sth x f => Sys2Proof.Machine.execSth x f s
  | .stw x f => Sys2Proof.Machine.execStw x f s
  | .std x f => Sys2Proof.Machine.execStd x f s
  | .stf x f => Sys2Proof.Machine.execStf x f s
  | .atxch x f => Sys2Proof.Machine.execAtxch x f s
  | .atadd x f => Sys2Proof.Machine.execAtadd x f s
  | .atand x f => Sys2Proof.Machine.execAtand x f s
  | .ator x f => Sys2Proof.Machine.execAtor x f s
  | .atxor x f => Sys2Proof.Machine.execAtxor x f s
  | .atmax x f => Sys2Proof.Machine.execAtmax x f s
  | .atmin x f => Sys2Proof.Machine.execAtmin x f s
  | .atcas x f => Sys2Proof.Machine.execAtcas x f s
  | .atadds x f => Sys2Proof.Machine.execAtadds x f s
  | .atring x f => Sys2Proof.Machine.execAtring x f s
  | .mac x f => Sys2Proof.Machine.execMac x f s
  | .msu x f => Sys2Proof.Machine.execMsu x f s
  | .macz x f => Sys2Proof.Machine.execMacz x f s
  | .mac2 x f => Sys2Proof.Machine.execMac2 x f s
  | .msu2 x f => Sys2Proof.Machine.execMsu2 x f s
  | .accld x f => Sys2Proof.Machine.execAccld x f s
  | .accr x f => Sys2Proof.Machine.execAccr x f s
  | .accrl x f => Sys2Proof.Machine.execAccrl x f s
  | .accrh x f => Sys2Proof.Machine.execAccrh x f s
  | .accrg x f => Sys2Proof.Machine.execAccrg x f s
  | .accwl x f => Sys2Proof.Machine.execAccwl x f s
  | .accwh x f => Sys2Proof.Machine.execAccwh x f s
  | .accwg x f => Sys2Proof.Machine.execAccwg x f s
  | .accadd x f => Sys2Proof.Machine.execAccadd x f s
  | .accsub x f => Sys2Proof.Machine.execAccsub x f s
  | .accmv x f => Sys2Proof.Machine.execAccmv x f s
  | .accsh x f => Sys2Proof.Machine.execAccsh x f s
  | .accclr x f => Sys2Proof.Machine.execAccclr x f s
  | .fadd x f => Sys2Proof.Machine.execFadd x f s
  | .fsub x f => Sys2Proof.Machine.execFsub x f s
  | .fmul x f => Sys2Proof.Machine.execFmul x f s
  | .fdiv x f => Sys2Proof.Machine.execFdiv x f s
  | .fsqrt x f => Sys2Proof.Machine.execFsqrt x f s
  | .fma x f => Sys2Proof.Machine.execFma x f s
  | .fms x f => Sys2Proof.Machine.execFms x f s
  | .fmin x f => Sys2Proof.Machine.execFmin x f s
  | .fmax x f => Sys2Proof.Machine.execFmax x f s
  | .fabs x f => Sys2Proof.Machine.execFabs x f s
  | .fneg x f => Sys2Proof.Machine.execFneg x f s
  | .fmov x f => Sys2Proof.Machine.execFmov x f s
  | .fcvtsw x f => Sys2Proof.Machine.execFcvtsw x f s
  | .fcvtws x f => Sys2Proof.Machine.execFcvtws x f s
  | .fcvtqs x f => Sys2Proof.Machine.execFcvtqs x f s
  | .fcvtsq x f => Sys2Proof.Machine.execFcvtsq x f s
  | .fmvgf x f => Sys2Proof.Machine.execFmvgf x f s
  | .fmvfg x f => Sys2Proof.Machine.execFmvfg x f s
  | .feq x f => Sys2Proof.Machine.execFeq x f s
  | .flt x f => Sys2Proof.Machine.execFlt x f s
  | .fle x f => Sys2Proof.Machine.execFle x f s
  | .fun x f => Sys2Proof.Machine.execFun x f s
  | .br x f => Sys2Proof.Machine.execBr x f s
  | .call x f => Sys2Proof.Machine.execCall x f s
  | .jr x f => Sys2Proof.Machine.execJr x f s
  | .jalr x f => Sys2Proof.Machine.execJalr x f s
  | .qpush x f => Sys2Proof.Machine.execQpush x f s
  | .qpop x f => Sys2Proof.Machine.execQpop x f s
  | .qstat x f => Sys2Proof.Machine.execQstat x f s
  | .nop x f => Sys2Proof.Machine.execNop x f s
  | .fence x f => Sys2Proof.Machine.execFence x f s
  | .waitInt x f => Sys2Proof.Machine.execWaitInt x f s
  | .syscall x f => Sys2Proof.Machine.execSyscall x f s
  | .hret x f => Sys2Proof.Machine.execHret x f s
  | .csrr x f => Sys2Proof.Machine.execCsrr x f s
  | .csrwWrite x f => Sys2Proof.Machine.execCsrwWrite x f s
  | .csrwSet x f => Sys2Proof.Machine.execCsrwSet x f s
  | .csrwClear x f => Sys2Proof.Machine.execCsrwClear x f s
  | .xlq x f => Sys2Proof.Machine.execXlq x f s
  | .xlinv x f => Sys2Proof.Machine.execXlinv x f s
  | .xlinva x f => Sys2Proof.Machine.execXlinva x f s
  | .takeInt core => Sys2Proof.Machine.execTakeInt core s
  | .samp x f => Sys2Proof.Machine.execSamp x f s
  | .pred x f => Sys2Proof.Machine.execPred x f s
  | .spec x f => Sys2Proof.Machine.execSpec x f s
  | .commit x f => Sys2Proof.Machine.execCommit x f s
  | .squash x f => Sys2Proof.Machine.execSquash x f s
  | .yield x f => Sys2Proof.Machine.execYield x f s
  | .pwmw x f => Sys2Proof.Machine.execPwmw x f s
  | .trace x f => Sys2Proof.Machine.execTrace x f s
  | .traced x f => Sys2Proof.Machine.execTraced x f s
  | .openCtx x f => Sys2Proof.Machine.execOpenCtx x f s
  | .closeCtx x f => Sys2Proof.Machine.execCloseCtx x f s
  | .ctxq x f => Sys2Proof.Machine.execCtxq x f s
  | .clarke x f => Sys2Proof.Machine.execClarke x f s
  | .clarke3 x f => Sys2Proof.Machine.execClarke3 x f s
  | .park x f => Sys2Proof.Machine.execPark x f s
  | .ipark x f => Sys2Proof.Machine.execIpark x f s
  | .sincos x f => Sys2Proof.Machine.execSincos x f s
  | .symcomp x f => Sys2Proof.Machine.execSymcomp x f s
  | .pllstep x f => Sys2Proof.Machine.execPllstep x f s
  | .prof x f => Sys2Proof.Machine.execProf x f s
  | .sat x f => Sys2Proof.Machine.execSat x f s
  | .limit x f => Sys2Proof.Machine.execLimit x f s
  | .rsqrt x f => Sys2Proof.Machine.execRsqrt x f s
  | .fabricTransfer src dst parityError => Sys2Proof.Machine.execFabricTransfer src dst parityError s
  | .islandFailed pd cause => Sys2Proof.Machine.execIslandFailed pd cause s
  | .islandClockStop pd => Sys2Proof.Machine.execIslandClockStop pd s
  | .islandClockRestart pd stopped => Sys2Proof.Machine.execIslandClockRestart pd stopped s
  | .islandRecovery pd => Sys2Proof.Machine.execIslandRecovery pd s
  | .dispatchEvent n ch evt => Sys2Proof.Machine.execDispatchEvent n ch evt s
  | .dispatch n err => Sys2Proof.Machine.execDispatch n err s
  | .sampleVectorArrival c => Sys2Proof.Machine.execSampleVectorArrival c s
  | .reexecLimit n => Sys2Proof.Machine.execReexecLimit n s
  | .vectorTimeout c => Sys2Proof.Machine.execVectorTimeout c s
  | .feedbackLost c => Sys2Proof.Machine.execFeedbackLost c s
  | .feedbackClear c => Sys2Proof.Machine.execFeedbackClear c s
  | .holdnExpiry c => Sys2Proof.Machine.execHoldnExpiry c s
  | .yealmCopyDone c => Sys2Proof.Machine.execYealmCopyDone c s
  | .restore n bad => Sys2Proof.Machine.execRestore n bad s
  | .surveyRequest n => Sys2Proof.Machine.execSurveyRequest n s
  | .surveyEntry n => Sys2Proof.Machine.execSurveyEntry n s
  | .surveyEnd n => Sys2Proof.Machine.execSurveyEnd n s
  | .ctxcmdOpen n src c => Sys2Proof.Machine.execCtxcmdOpen n src c s
  | .ctxcmdClose n src c => Sys2Proof.Machine.execCtxcmdClose n src c s
  | .utilWindow n busy => Sys2Proof.Machine.execUtilWindow n busy s
  | .calibrationDone lock taps => Sys2Proof.Machine.execCalibrationDone lock taps s
  | .backgroundCalibration lock taps => Sys2Proof.Machine.execBackgroundCalibration lock taps s
  | .epochVisible src late => Sys2Proof.Machine.execEpochVisible src late s
  | .reload n => Sys2Proof.Machine.execReload n s
  | .samplingTrigger ch => Sys2Proof.Machine.execSamplingTrigger ch s
  | .releaseCycle m => Sys2Proof.Machine.execReleaseCycle m s
  | .edgeSequence n => Sys2Proof.Machine.execEdgeSequence n s
  | .pcmTermination n off => Sys2Proof.Machine.execPcmTermination n off s
  | .blankingEnd n straddle => Sys2Proof.Machine.execBlankingEnd n straddle s
  | .syncEdge n edge => Sys2Proof.Machine.execSyncEdge n edge s
  | .slost n => Sys2Proof.Machine.execSlost n s
  | .channelEnable ch => Sys2Proof.Machine.execChannelEnable ch s
  | .channelDisable ch => Sys2Proof.Machine.execChannelDisable ch s
  | .stopComplete ch => Sys2Proof.Machine.execStopComplete ch s
  | .pulseInhibit pd => Sys2Proof.Machine.execPulseInhibit pd s
  | .inhReleaseMark ch => Sys2Proof.Machine.execInhReleaseMark ch s
  | .battenDisall => Sys2Proof.Machine.execBattenDisall s
  | .battenValueWrite ch reg v => Sys2Proof.Machine.execBattenValueWrite ch reg v s
  | .battenClockLoss => Sys2Proof.Machine.execBattenClockLoss s
  | .edgeCrossing n off => Sys2Proof.Machine.execEdgeCrossing n off s
  | .noedge n => Sys2Proof.Machine.execNoedge n s
  | .normalFrame j => Sys2Proof.Machine.execNormalFrame j s
  | .ackWindowEnd j slots => Sys2Proof.Machine.execAckWindowEnd j slots s
  | .urgentFrame j => Sys2Proof.Machine.execUrgentFrame j s
  | .softTurnOff n => Sys2Proof.Machine.execSoftTurnOff n s
  | .softholdExpiry n => Sys2Proof.Machine.execSoftholdExpiry n s
  | .tripLatch => Sys2Proof.Machine.execTripLatch s
  | .gateRe n => Sys2Proof.Machine.execGateRe n s
  | .groupRe g => Sys2Proof.Machine.execGroupRe g s
  | .selftestShuntNormal n => Sys2Proof.Machine.execSelftestShuntNormal n s
  | .selftestShuntHard n => Sys2Proof.Machine.execSelftestShuntHard n s
  | .selftestEdge n => Sys2Proof.Machine.execSelftestEdge n s
  | .winSelftest k => Sys2Proof.Machine.execWinSelftest k s
  | .selftestDone u upc dnc => Sys2Proof.Machine.execSelftestDone u upc dnc s
  | .deadClock k backs => Sys2Proof.Machine.execDeadClock k backs s
  | .deadClockEnd k backs => Sys2Proof.Machine.execDeadClockEnd k backs s
  | .filterSettled n rise bits => Sys2Proof.Machine.execFilterSettled n rise bits s
  | .monitorOutput n rise bits => Sys2Proof.Machine.execMonitorOutput n rise bits s
  | .sampleRequest c => Sys2Proof.Machine.execSampleRequest c s
  | .vectorPartPresent core => Sys2Proof.Machine.execVectorPartPresent core s
  | .stuckPattern n rise bits => Sys2Proof.Machine.execStuckPattern n rise bits s
  | .stuckPatternEnd n rise bits => Sys2Proof.Machine.execStuckPatternEnd n rise bits s
  | .frozenValue n rise bits => Sys2Proof.Machine.execFrozenValue n rise bits s
  | .frozenValueEnd n rise bits => Sys2Proof.Machine.execFrozenValueEnd n rise bits s
  | .comparatorOutputChange c nv => Sys2Proof.Machine.execComparatorOutputChange c nv s
  | .comparatorSettled c nv => Sys2Proof.Machine.execComparatorSettled c nv s
  | .dacCodeWrite c code late => Sys2Proof.Machine.execDacCodeWrite c code late s
  | .rampStart c => Sys2Proof.Machine.execRampStart c s
  | .windowFltQual w => Sys2Proof.Machine.execWindowFltQual w s
  | .swingTimeout w => Sys2Proof.Machine.execSwingTimeout w s
  | .hadcGo => Sys2Proof.Machine.execHadcGo s
  | .hadcStop => Sys2Proof.Machine.execHadcStop s
  | .hadcStartupEnd => Sys2Proof.Machine.execHadcStartupEnd s
  | .hadcResult nv => Sys2Proof.Machine.execHadcResult nv s
  | .hadcDataRead => Sys2Proof.Machine.execHadcDataRead s
  | .reportEstimate n => Sys2Proof.Machine.execReportEstimate n s
  | .internalEstimate n => Sys2Proof.Machine.execInternalEstimate n s
  | .harmonicWindow n => Sys2Proof.Machine.execHarmonicWindow n s
  | .perturbationWindow n => Sys2Proof.Machine.execPerturbationWindow n s
  | .perturbationWordWrite n => Sys2Proof.Machine.execPerturbationWordWrite n s
  | .puRestart n => Sys2Proof.Machine.execPuRestart n s
  | .seqStart => Sys2Proof.Machine.execSeqStart s
  | .seqStop => Sys2Proof.Machine.execSeqStop s
  | .seqPset => Sys2Proof.Machine.execSeqPset s
  | .seqQset => Sys2Proof.Machine.execSeqQset s
  | .seqMode => Sys2Proof.Machine.execSeqMode s
  | .seqStatus => Sys2Proof.Machine.execSeqStatus s
  | .vplusInvalidTimeout => Sys2Proof.Machine.execVplusInvalidTimeout s
  | .gridFlagSeen => Sys2Proof.Machine.execGridFlagSeen s
  | .gridReturn => Sys2Proof.Machine.execGridReturn s
  | .recontExpiry => Sys2Proof.Machine.execRecontExpiry s
  | .lockTimerExpiry => Sys2Proof.Machine.execLockTimerExpiry s
  | .connectionWindowExit => Sys2Proof.Machine.execConnectionWindowExit s
  | .pllLocked => Sys2Proof.Machine.execPllLocked s
  | .relayClosedReadback => Sys2Proof.Machine.execRelayClosedReadback s
  | .rideEntered => Sys2Proof.Machine.execRideEntered s
  | .rideLeft => Sys2Proof.Machine.execRideLeft s
  | .envelopeViolated => Sys2Proof.Machine.execEnvelopeViolated s
  | .rampComplete => Sys2Proof.Machine.execRampComplete s
  | .ceasedSettled => Sys2Proof.Machine.execCeasedSettled s
  | .harmonicDerate => Sys2Proof.Machine.execHarmonicDerate s
  | .boostEnable k => Sys2Proof.Machine.execBoostEnable k s
  | .boostDisable k => Sys2Proof.Machine.execBoostDisable k s
  | .icmdWrite k v late => Sys2Proof.Machine.execIcmdWrite k v late s
  | .shedStart k => Sys2Proof.Machine.execShedStart k s
  | .shedComplete k => Sys2Proof.Machine.execShedComplete k s
  | .addStart k => Sys2Proof.Machine.execAddStart k s
  | .addComplete k => Sys2Proof.Machine.execAddComplete k s
  | .phaseOpenFailure k i1 => Sys2Proof.Machine.execPhaseOpenFailure k i1 s
  | .crossCheckWindow k => Sys2Proof.Machine.execCrossCheckWindow k s
  | .failClear k mask => Sys2Proof.Machine.execFailClear k mask s
  | .mppEnable k => Sys2Proof.Machine.execMppEnable k s
  | .mppIntervalEnd k => Sys2Proof.Machine.execMppIntervalEnd k s
  | .mppScanGo k => Sys2Proof.Machine.execMppScanGo k s
  | .scminExpiry k => Sys2Proof.Machine.execScminExpiry k s
  | .meterSample m bnd => Sys2Proof.Machine.execMeterSample m bnd s
  | .blockEnd m => Sys2Proof.Machine.execBlockEnd m s
  | .intervalClose m => Sys2Proof.Machine.execIntervalClose m s
  | .pulseStart p => Sys2Proof.Machine.execPulseStart p s
  | .pulseEnd p => Sys2Proof.Machine.execPulseEnd p s
  | .meterCheckpoint => Sys2Proof.Machine.execMeterCheckpoint s
  | .ewmCheckpoint => Sys2Proof.Machine.execEwmCheckpoint s
  | .meterRestore => Sys2Proof.Machine.execMeterRestore s
  | .meterEnable m => Sys2Proof.Machine.execMeterEnable m s
  | .meterClr m => Sys2Proof.Machine.execMeterClr m s
  | .inputDemand warden i1 => Sys2Proof.Machine.execInputDemand warden i1 s
  | .inputHealthy warden i1 => Sys2Proof.Machine.execInputHealthy warden i1 s
  | .chdlyExpiry warden f => Sys2Proof.Machine.execChdlyExpiry warden f s
  | .testPulse k follows => Sys2Proof.Machine.execTestPulse k follows s
  | .testWindowEnd k low around => Sys2Proof.Machine.execTestWindowEnd k low around s
  | .disc warden p => Sys2Proof.Machine.execDisc warden p s
  | .disag => Sys2Proof.Machine.execDisag s
  | .lockRecordRetry => Sys2Proof.Machine.execLockRecordRetry s
  | .permitLoss warden => Sys2Proof.Machine.execPermitLoss warden s
  | .safeRcreqWrite v => Sys2Proof.Machine.execSafeRcreqWrite v s
  | .darkTest c high => Sys2Proof.Machine.execDarkTest c high s
  | .readbackCheck c rbh rbl => Sys2Proof.Machine.execReadbackCheck c rbh rbl s
  | .edmCheck c => Sys2Proof.Machine.execEdmCheck c s
  | .safeFramePublish t => Sys2Proof.Machine.execSafeFramePublish t s
  | .safeFrameReceive net pdu => Sys2Proof.Machine.execSafeFrameReceive net pdu s
  | .dupwinExpiry k => Sys2Proof.Machine.execDupwinExpiry k s
  | .subscriptionWatchdog warden k => Sys2Proof.Machine.execSubscriptionWatchdog warden k s
  | .wardenHeartbeat v => Sys2Proof.Machine.execWardenHeartbeat v s
  | .whb => Sys2Proof.Machine.execWhb s
  | .clockObserverFailure warden pd => Sys2Proof.Machine.execClockObserverFailure warden pd s
  | .wclk => Sys2Proof.Machine.execWclk s
  | .fclk => Sys2Proof.Machine.execFclk s
  | .pfRestore => Sys2Proof.Machine.execPfRestore s
  | .windowTestTimer k upper => Sys2Proof.Machine.execWindowTestTimer k upper s
  | .safeStop => Sys2Proof.Machine.execSafeStop s
  | .safeRestart m => Sys2Proof.Machine.execSafeRestart m s
  | .safeCntclr => Sys2Proof.Machine.execSafeCntclr s
  | .safeEdit => Sys2Proof.Machine.execSafeEdit s
  | .unlockRequest => Sys2Proof.Machine.execUnlockRequest s
  | .editRequest => Sys2Proof.Machine.execEditRequest s
  | .unlockResponse w => Sys2Proof.Machine.execUnlockResponse w s
  | .unlockPendExpiry => Sys2Proof.Machine.execUnlockPendExpiry s
  | .unlockBlockExpiry => Sys2Proof.Machine.execUnlockBlockExpiry s
  | .srstPulse warden flashing fault => Sys2Proof.Machine.execSrstPulse warden flashing fault s
  | .safeParWrite k v => Sys2Proof.Machine.execSafeParWrite k v s
  | .safeConfirm v => Sys2Proof.Machine.execSafeConfirm v s
  | .paramCrcCheck warden differs => Sys2Proof.Machine.execParamCrcCheck warden differs s
  | .pcf => Sys2Proof.Machine.execPcf s
  | .safetyInit => Sys2Proof.Machine.execSafetyInit s
  | .lossOfReference lref => Sys2Proof.Machine.execLossOfReference lref s
  | .lossOfLock n => Sys2Proof.Machine.execLossOfLock n s
  | .synthLock n => Sys2Proof.Machine.execSynthLock n s
  | .synthStable n => Sys2Proof.Machine.execSynthStable n s
  | .upd n => Sys2Proof.Machine.execUpd n s
  | .fbyp n => Sys2Proof.Machine.execFbyp n s
  | .resume n => Sys2Proof.Machine.execResume n s
  | .updateTimeout n => Sys2Proof.Machine.execUpdateTimeout n s
  | .bypclkMeasure byp ref => Sys2Proof.Machine.execBypclkMeasure byp ref s
  | .timeStep => Sys2Proof.Machine.execTimeStep s
  | .unacq => Sys2Proof.Machine.execUnacq s
  | .timeSync => Sys2Proof.Machine.execTimeSync s
  | .tsynHoldExpiry => Sys2Proof.Machine.execTsynHoldExpiry s
  | .followerRefresh => Sys2Proof.Machine.execFollowerRefresh s
  | .laneEnable n => Sys2Proof.Machine.execLaneEnable n s
  | .cdrLock n => Sys2Proof.Machine.execCdrLock n s
  | .hbadWindow n bad => Sys2Proof.Machine.execHbadWindow n bad s
  | .slip n => Sys2Proof.Machine.execSlip n s
  | .align n => Sys2Proof.Machine.execAlign n s
  | .unalign n => Sys2Proof.Machine.execUnalign n s
  | .esgo n => Sys2Proof.Machine.execEsgo n s
  | .eyeScanDone n errs => Sys2Proof.Machine.execEyeScanDone n errs s
  | .purlinCntclr n => Sys2Proof.Machine.execPurlinCntclr n s
  | .dtim g x => Sys2Proof.Machine.execDtim g x s
  | .dmid g busy => Sys2Proof.Machine.execDmid g busy s
  | .dinh g => Sys2Proof.Machine.execDinh g s
  | .dinhRepeat g => Sys2Proof.Machine.execDinhRepeat g s
  | .ups g prev line rtt => Sys2Proof.Machine.execUps g prev line rtt s
  | .msgSend n => Sys2Proof.Machine.execMsgSend n s
  | .laneMsg n prev line => Sys2Proof.Machine.execLaneMsg n prev line s
  | .laneMack n prev line => Sys2Proof.Machine.execLaneMack n prev line s
  | .laneMcfg n prev line => Sys2Proof.Machine.execLaneMcfg n prev line s
  | .enetReceive e frame fcs => Sys2Proof.Machine.execEnetReceive e frame fcs s
  | .kick e => Sys2Proof.Machine.execKick e s
  | .enetTransmitDone e => Sys2Proof.Machine.execEnetTransmitDone e s
  | .ridgeTrip => Sys2Proof.Machine.execRidgeTrip s
  | .ridgeTripCmd => Sys2Proof.Machine.execRidgeTripCmd s
  | .ridgeClr high => Sys2Proof.Machine.execRidgeClr high s
  | .rstk => Sys2Proof.Machine.execRstk s
  | .rsyncEdge contend => Sys2Proof.Machine.execRsyncEdge contend s
  | .storeMeasure vqs vls refBad temp => Sys2Proof.Machine.execStoreMeasure vqs vls refBad temp s
  | .pd0Off done => Sys2Proof.Machine.execPd0Off done s
  | .pd0ColdStart vio33 => Sys2Proof.Machine.execPd0ColdStart vio33 s
  | .topOfSecond => Sys2Proof.Machine.execTopOfSecond s
  | .autotrim ticks => Sys2Proof.Machine.execAutotrim ticks s
  | .supplyLoss vcore vio33 => Sys2Proof.Machine.execSupplyLoss vcore vio33 s
  | .darkCheckpoint => Sys2Proof.Machine.execDarkCheckpoint s
  | .supplyReturn => Sys2Proof.Machine.execSupplyReturn s
  | .tamper k act => Sys2Proof.Machine.execTamper k act s
  | .wakeAlarm => Sys2Proof.Machine.execWakeAlarm s
  | .ewakeRelease => Sys2Proof.Machine.execEwakeRelease s
  | .burstRequest vqs vls => Sys2Proof.Machine.execBurstRequest vqs vls s
  | .burstComplete fail => Sys2Proof.Machine.execBurstComplete fail s
  | .burstGo => Sys2Proof.Machine.execBurstGo s
  | .thatchPost event source payload => Sys2Proof.Machine.execThatchPost event source payload s
  | .recordWrite vqs vls fail => Sys2Proof.Machine.execRecordWrite vqs vls fail s
  | .softwarePost src w => Sys2Proof.Machine.execSoftwarePost src w s
  | .clrreq purp => Sys2Proof.Machine.execClrreq purp s
  | .clearResponse w => Sys2Proof.Machine.execClearResponse w s
  | .clearComplete => Sys2Proof.Machine.execClearComplete s
  | .clearBlockExpiry => Sys2Proof.Machine.execClearBlockExpiry s
  | .defcntClr => Sys2Proof.Machine.execDefcntClr s
  | .powerOnReset brownout => Sys2Proof.Machine.execPowerOnReset brownout s
  | .vio33BrownOut => Sys2Proof.Machine.execVio33BrownOut s
  | .vio18BrownOut => Sys2Proof.Machine.execVio18BrownOut s
  | .vanaBrownOut => Sys2Proof.Machine.execVanaBrownOut s
  | .vlaneBrownOut io => Sys2Proof.Machine.execVlaneBrownOut io s
  | .pinReset => Sys2Proof.Machine.execPinReset s
  | .softwareResetPd3 => Sys2Proof.Machine.execSoftwareResetPd3 s
  | .softwareResetPd1 => Sys2Proof.Machine.execSoftwareResetPd1 s
  | .supervisorWatchdog k => Sys2Proof.Machine.execSupervisorWatchdog k s
  | .wdtKick k key => Sys2Proof.Machine.execWdtKick k key s
  | .rafterWatchdog n => Sys2Proof.Machine.execRafterWatchdog n s
  | .bootWatchdog => Sys2Proof.Machine.execBootWatchdog s
  | .mrqResetRequest => Sys2Proof.Machine.execMrqResetRequest s
  | .mrqUnderlayRequest => Sys2Proof.Machine.execMrqUnderlayRequest s
  | .mrqResponse w => Sys2Proof.Machine.execMrqResponse w s
  | .mrqBlockExpiry => Sys2Proof.Machine.execMrqBlockExpiry s
  | .earlyWarning vio33 => Sys2Proof.Machine.execEarlyWarning vio33 s
  | .fuseLoad array => Sys2Proof.Machine.execFuseLoad array s
  | .islandRelease pd => Sys2Proof.Machine.execIslandRelease pd s
  | .ckf pd => Sys2Proof.Machine.execCkf pd s
  | .pwrOn pd => Sys2Proof.Machine.execPwrOn pd s
  | .pwrOff pd => Sys2Proof.Machine.execPwrOff pd s
  | .restart pd => Sys2Proof.Machine.execRestart pd s
  | .romLoader => Sys2Proof.Machine.execRomLoader s
  | .bootDone => Sys2Proof.Machine.execBootDone s
  | .ulInfo spi => Sys2Proof.Machine.execUlInfo spi s
  | .ulErase spi flashErr => Sys2Proof.Machine.execUlErase spi flashErr s
  | .ulWrite spi flashErr => Sys2Proof.Machine.execUlWrite spi flashErr s
  | .underlayVerify spi => Sys2Proof.Machine.execUnderlayVerify spi s
  | .logread spi => Sys2Proof.Machine.execLogread spi s
  | .cfgSwap err => Sys2Proof.Machine.execCfgSwap err s
  | .cfgCheck => Sys2Proof.Machine.execCfgCheck s
  | .cfgLoad => Sys2Proof.Machine.execCfgLoad s
  | .swapBoundary => Sys2Proof.Machine.execSwapBoundary s
  | .swapPeriodEnd => Sys2Proof.Machine.execSwapPeriodEnd s
  | .swapDone => Sys2Proof.Machine.execSwapDone s
  | .storedSetWrite => Sys2Proof.Machine.execStoredSetWrite s
  | .imgVerify slot => Sys2Proof.Machine.execImgVerify slot s
  | .imageReady flashErr => Sys2Proof.Machine.execImageReady flashErr s
  | .heldAccessTimeout => Sys2Proof.Machine.execHeldAccessTimeout s
  | .spiWrite addr words => Sys2Proof.Machine.execSpiWrite addr words s
  | .spiRead addr waits err => Sys2Proof.Machine.execSpiRead addr waits err s
  | .spiStatus cmd busy => Sys2Proof.Machine.execSpiStatus cmd busy s
  | .snapshotLatchRead m addr => Sys2Proof.Machine.execSnapshotLatchRead m addr s
  | .dbset set => Sys2Proof.Machine.execDbset set s
  | .hcmdPush q len => Sys2Proof.Machine.execHcmdPush q len s
  | .hcmdPop q cap => Sys2Proof.Machine.execHcmdPop q cap s
  | .hcmdStat q => Sys2Proof.Machine.execHcmdStat q s
  | .queueEnable q => Sys2Proof.Machine.execQueueEnable q s
  | .queueDisable q => Sys2Proof.Machine.execQueueDisable q s
  | .registerWrite m addr v be slow left => Sys2Proof.Machine.execRegisterWrite m addr v be slow left s
  | .rxlockFall n => Sys2Proof.Machine.execRxlockFall n s
  | .earlyWarningClear vio33 => Sys2Proof.Machine.execEarlyWarningClear vio33 s
  | .referenceReturn lref => Sys2Proof.Machine.execReferenceReturn lref s
  | .enetLinkChange e up done => Sys2Proof.Machine.execEnetLinkChange e up done s
  | .fpd => Sys2Proof.Machine.execFpd s
  | .rtripDriveEnd others => Sys2Proof.Machine.execRtripDriveEnd others s
  | .harvesterRunChange hvin vmpp vqs vls => Sys2Proof.Machine.execHarvesterRunChange hvin vmpp vqs vls s

end Sys2Proof.Machine
end

