-- ==== Sys2Proof/Machine/Idle.lean ====
section
/-!
DEFINITION. What time alone does to the block (DESIGN CHOICE: a step on an empty queue is one cycle of the clock that runs).
-/

namespace Sys2Proof.Machine

/-- One cycle of the time base while PD3 runs (R472), in which the modulators of the synthesizers go on (R461), one tick of 32.768 kHz of PD0 while it does not (R534). -/
def State.idle (s : State) : State :=
  if s.pdRun 3 then { (s.timeTick.each (List.range 4) fun n t => t.synRuns s.cycleNs n) with upNs := s.upNs + s.cycleNs }
  else { s.slowTick with upNs := s.upNs + 30518 }

end Sys2Proof.Machine
end

