-- ==== Sys2Proof/WellFormed.lean ====
section
/-!
DEFINITION. The commands whose lists have the lengths that the spec gives them; every other operand is well-formed by its
type.
-/

namespace Sys2Proof

/-- A command is well-formed: a post has at most 12 payload bytes (R545), and an SPI access a word at least (R607). A command without a list always is. -/
def Instr.wellFormed (i : Instr) : Bool :=
  match i with
  | .thatchPost _ _ payload => decide (payload.length ≤ 12)
  | .spiWrite _ words => !words.isEmpty
  | .spiRead _ waits _ => !waits.isEmpty
  | _ => true

end Sys2Proof
end

