-- ==== Sys2Proof/Safety.lean ====
section
/-!
DEFINITION. What a claim calls a safe output and a legal state: no island names an unassigned state, no leg is enabled
without permits, and memory keeps its canonical form.
-/

namespace Sys2Proof.Safety

open Sys2Proof.Machine

/-- Memory in its one canonical form: addresses strictly rise, and no byte equals what an unlisted one reads as. -/
abbrev Memory.wf (s : State) : Prop := tblWf memDefault s.mem = true

/-- The mapped registers in their canonical form. -/
abbrev Registers.wf (s : State) : Prop := tblWf resetWord s.regs = true

/-- The queue holds well-formed commands. -/
def Queue.wf (s : State) : Bool := s.pending.all Instr.wellFormed

/-- What every run keeps: the mapped registers and the memories in canonical form, and a configuration set that names
contexts of the device. -/
structure Sound (s : State) : Prop where
  regs : Registers.wf s
  mem : Memory.wf s
  sets : ∀ c ∈ s.cfg.changed ++ s.cfg.reclose, c < 256

/-- A step answers a next state: nothing in the spec stops the device. -/
def Runs (s : State) : Prop := ∃ t, step s = .next t

/-! ### What an instruction of a core leaves behind -/

/-- Saturation to 32 bits, two's complement (R65). -/
def sat32 (x : Int) : Word := BitVec.ofInt 32 (max (-2147483648) (min 2147483647 x))

/-- The exact result does not fit 32 bits, two's complement (R65). -/
def over32 (x : Int) : Bool := decide (x < -2147483648 ∨ 2147483647 < x)

/-- What a program sees of a core: the registers by number and the program counter. -/
structure Regs where
  g : Nat → Word
  a : Nat → BitVec 72
  f : Nat → Word
  k : Nat → Bool
  csr : Nat → Word
  pc : Word

/-- The registers of a core, the program counter at the next bundle. -/
def nextRegs (c : CoreSt) : Regs := ⟨gReg c, aReg c, fReg c, kReg c, csrOf c, c.pc + 8⟩

/-- A general register written; G0 discards (R62). -/
def Regs.setG (r : Regs) (d : Nat) (v : Word) : Regs := { r with g := fun j => if j = d ∧ d ≠ 0 then v else r.g j }

/-- An accumulator written. -/
def Regs.setA (r : Regs) (d : Nat) (v : BitVec 72) : Regs := { r with a := fun j => if j = d then v else r.a j }

/-- A float register written. -/
def Regs.setF (r : Regs) (d : Nat) (v : Word) : Regs := { r with f := fun j => if j = d then v else r.f j }

/-- A predicate written; K0 discards (R63). -/
def Regs.setK (r : Regs) (d : Nat) (b : Bool) : Regs := { r with k := fun j => if j = d ∧ d ≠ 0 then b else r.k j }

/-- Bits set in a CSR. -/
def Regs.orCsr (r : Regs) (n : Nat) (v : Word) : Regs := { r with csr := fun j => if j = n then r.csr n ||| v else r.csr j }

/-- A CSR written. -/
def Regs.setCsr (r : Regs) (n : Nat) (v : Word) : Regs := { r with csr := fun j => if j = n then v else r.csr j }

/-- Execution goes on elsewhere. -/
def Regs.jump (r : Regs) (a : Word) : Regs := { r with pc := a }

/-- From `u` to `t` the registers of core `n` become `r`; the rest of the core and every other core stay. -/
def CoreLeft (u t : State) (n : Nat) (r : Regs) : Prop :=
  (∀ m, m ≠ n → t.core m = u.core m) ∧
  t.core n = { u.core n with
    pc := r.pc, g := (t.core n).g, acc := (t.core n).acc, f := (t.core n).f, k := (t.core n).k, csr := (t.core n).csr } ∧
  (∀ j, gReg (t.core n) j = r.g j) ∧ (∀ j, aReg (t.core n) j = r.a j) ∧ (∀ j, fReg (t.core n) j = r.f j) ∧
  (∀ j, kReg (t.core n) j = r.k j) ∧ (∀ j, csrOf (t.core n) j = r.csr j)

/-- The same, and nothing outside the cores changes: no byte of memory, no mapped register, no other block. -/
def Leaves (u t : State) (n : Nat) (r : Regs) : Prop := t = { u with cores := t.cores } ∧ CoreLeft u t n r

/-- From `u` to `t` core `n` enters an exception (R96): CSR_ESTATUS, CSR_EPC, CSR_ECAUSE and CSR_EVAL are saved, CSR_STATUS
gets SUP = 1, HND = 1, IEN = 0 and XLT = 0, the core goes on at CSR_VBASE plus `off`, and a region ends with its commit
buffer kept (R121). Nothing else changes. -/
def Enters (u t : State) (n code slot : Nat) (eval epc off : Word) : Prop :=
  let c := u.core n
  let st := csrOf c 0
  t = { u with cores := t.cores } ∧ (∀ m, m ≠ n → t.core m = u.core m) ∧
  t.core n = { c with pc := csrOf c 5 + off, csr := (t.core n).csr, region := .none } ∧
  (∀ j, 4 < j → csrOf (t.core n) j = csrOf c j) ∧
  (∀ k < 32, (csrOf (t.core n) 0).getLsbD k =
    if k = 0 ∨ k = 7 then false else if k = 1 ∨ k = 6 then true else st.getLsbD k) ∧
  csrOf (t.core n) 1 = st ∧ csrOf (t.core n) 2 = epc ∧ csrOf (t.core n) 3 = BitVec.ofNat 32 (slot * 256 + code) ∧
  csrOf (t.core n) 4 = eval

/-- A handler can be entered: none runs and there is a vector base (R99). -/
def CanEnter (c : CoreSt) : Prop := (csrOf c 0).getLsbD 1 = false ∧ csrOf c 5 ≠ 0

/-- The word in the other slot has no effect and no bundle rule against it: its guard is false or it is NOP. -/
def MateIdle (c : CoreSt) (x : Issue) (i : Insn) : Prop :=
  ∃ j, decodeInsn x.mate = some j ∧ (guardOn c j.guard = false ∨ j.op = .nop) ∧
    (if x.slot then bundleBad j i else bundleBad i j) = false

/-- The instruction issues and no rule on bundles, guards, profiles or fields stands against it: the core can issue, from
state `u` on, which has what the errors in the words it reads have left; its fetch raises nothing; its guard is true; it is legal on the profile; the other slot is idle. -/
structure Executes (s u : State) (x : Issue) (i : Insn) : Prop where
  ready : s.issuable x = some u
  fetch : u.fetchCause x.core (u.core x.core) = none
  guard : guardOn (u.core x.core) i.guard = true
  legal : legalInsn (profileOf x.core) i = true
  mate : MateIdle (u.core x.core) x i

/-! ### What a command of the device leaves behind -/

/-- The command is carried out, and what stands then satisfies `P`. -/
def Does (c : Instr) (s : State) (P : State → Prop) : Prop := ∃ t, exec c s = .next t ∧ P t

/-- Every mapped register outside the named blocks reads as before. -/
def KeepsRegs (bs : List Block) (s t : State) : Prop := ∀ a b, blockOf a = some b → b ∉ bs → t.rd a = s.rd a

/-- Beside the registers of the named blocks and state of the command's own unit: no byte of a memory or of the flash, no
core and no context changes. -/
def KeepsRest (bs : List Block) (s t : State) : Prop :=
  KeepsRegs bs s t ∧ t.mem = s.mem ∧ t.flash = s.flash ∧ t.cores = s.cores ∧ t.ctxs = s.ctxs

/-- Registers alone change, and of them those of the named addresses. -/
def OnlyRegs (l : List Nat) (s t : State) : Prop := t = { s with regs := t.regs } ∧ ∀ a, a ∉ l → t.rd a = s.rd a

/-! ### What an evaluation of the safety functions leaves -/

/-- The safety outputs agree with the functions (R410, R413, R416, R425, R426): a triggered function is in demand, permits are
given only while every function with SPI is released, a switch conducts only by R416 or while CHDLY runs, and a chain that a
demand names is no longer requested. -/
structure Settled (t : State) : Prop where
  demand : ∀ w, ∀ f < 8, t.sfEn f = true → t.sfTrig w f = true → t.sfDem w f = true
  disabled : ∀ w, ∀ f < 8, t.sfEn f = false → t.sfDem w f = false
  permitW : t.on R.SAFE_STAT_PW = t.permit true
  permitF : t.on R.SAFE_STAT_PF = (t.permit false && !t.bat.clkLoss)
  inhibit : t.on R.SAFE_STAT_SPI = !(t.on R.SAFE_STAT_PW && t.on R.SAFE_STAT_PF)
  held : t.on R.SAFE_STAT_SPI = true → t.gate.spiHold = 2 ^ 48 - 1
  switch : ∀ w, ∀ c < 4, t.safe.drv.testBit (2 * c + (!w).toNat) = true →
    t.chUp w = true ∧ t.operate = true ∧ t.spr (64 + 4 * c) 0 0 = 1 ∧
    ∀ f < 8, t.sfEn f = true → (t.sfChain f).testBit c = true → t.sfDem w f = true → (t.sfRun w).testBit f = true
  request : ∀ c < 4, ∀ f < 8, t.sfEn f = true → (t.sfChain f).testBit c = true →
    t.sfDem true f = true ∨ t.sfDem false f = true → (t.get R.SAFE_RCREQ_CLOSE).testBit c = false

/-- A fault of R441 has come (R442): its bit is set and the state is LOCKOUT; if it was not, every function is in demand, no
permit is given, no switch conducts, no chain is requested, and the lock record is due. -/
def LocksOut (s t : State) (bit : Nat) : Prop :=
  (t.rd R.SAFE_LOCK).getLsbD bit = true ∧ t.locked = true ∧ KeepsRest [.SAFE, .EAVES, .THATCH] s t ∧
  (s.locked = false → (∀ w, ∀ f < 8, t.sfEn f = true → t.sfDem w f = true) ∧ t.on R.SAFE_STAT_PW = false ∧
    t.on R.SAFE_STAT_PF = false ∧ t.safe.drv = 0 ∧ t.get R.SAFE_RCREQ_CLOSE = 0 ∧ t.safe.lockDue = true)

/-! ### What resets and failures of islands leave -/

/-- What a register holds after a reset of its island: its reset value but for the bits that survive (R16, R18, R560). A field
marked F of a synthesizer takes the word of the fuse shadow (R18, R486). -/
def afterReset (s : State) (a : Nat) : Word :=
  let v := (resetWord a &&& ~~~keepBits false a) ||| (s.rd a &&& keepBits false a)
  match (List.range 4).find? (fun n => decide (a = R.CLK_SYN_DIV n ∨ a = R.CLK_SYN_DITH n)) with
  | none => v
  | some n => if a = R.CLK_SYN_DIV n then s.shadowWord (49 + 2 * n)
    else putField v (R.CLK_SYN_DITH_SEED n).hi (R.CLK_SYN_DITH_SEED n).lo ((s.shadowWord (50 + 2 * n)).toNat % 2 ^ 24)

/-- An address in the descriptor area of a core (R146). -/
def inDescriptors (n a : Nat) : Prop := n * 0x100000 + 0x7C000 ≤ a ∧ a < n * 0x100000 + 0x80000

/-- From `s` to `t` the islands from `lo` up are reset (R39, R147, R561, R562): those that were OFF stay OFF, the others are
held; registers and cores return to their reset values, contexts keep their yealms alone, memories of PD3 and descriptors
are lost, and everything else that the islands below hold stays. A sequence from PD1 up waits for PD0 anew (R573). -/
structure ResetFrom (s t : State) (lo : Nat) : Prop where
  states : ∀ k, lo ≤ k → k ≤ 15 → t.get (R.SYSCTL_PD_STATE k) = if s.get (R.SYSCTL_PD_STATE k) = 0 then 0 else 1
  below : ∀ k < lo, t.rd (R.SYSCTL_PD k) = if lo = 1 then (s.clear (R.SYSCTL_PD_CKH k)).rd (R.SYSCTL_PD k) else s.rd (R.SYSCTL_PD k)
  regs : ∀ a b, blockOf a = some b → b ∉ [Block.SYSCTL, .EAVES, .THATCH] →
    t.rd a = if lo ≤ pdOfReg a then afterReset s a else s.rd a
  cores : ∀ n < 11, t.core n = if lo ≤ pdOfCore n then coreReset else s.core n
  ctxs : ∀ c < 256, t.ctx c = keepYealms (s.ctx c)
  mem : ∀ a, ((memAt a).map pdOfMem = some 3 ∨ ∃ n < 8, inDescriptors n a) → t.byte a = 0
  memKept : ∀ a, (memAt a).map pdOfMem ≠ some 3 → (∀ n < 8, ¬inDescriptors n a) → t.byte a = s.byte a
  flash : t.flash = s.flash
  idle : t.sys.failed = [] ∧ t.sys.recovering = [] ∧ t.sys.restoreDue = []

/-- From `s` to `t` the one island `pd` of PD4 to PD15 is reset and held (R561): no other island, no byte of memory outside
its descriptors, and no register or core outside it changes. Its descriptors are lost unless it is recovered; whether a context
is configured is judged anew (R147), which the status of the contexts shows, and a recovered core shows RSTR. -/
structure HeldAlone (s t : State) (pd : Nat) (descriptors : Bool) : Prop where
  others : ∀ k < 16, k ≠ pd → t.rd (R.SYSCTL_PD k) = s.rd (R.SYSCTL_PD k)
  regs : ∀ a b, blockOf a = some b → b ∉ [Block.SYSCTL, .EAVES, .THATCH] → (∀ c < 256, a ≠ R.RAFTER_CTX_STAT c) →
    (∀ n < 8, a ≠ R.RAFTER_CORE_STAT n) → t.rd a = if pdOfReg a = pd then afterReset s a else s.rd a
  opened : ∀ c < 256, t.isOpen c = (decide (4 + c / 32 = pd) || s.isOpen c)
  cores : ∀ n < 11, t.core n = if pdOfCore n = pd then coreReset else s.core n
  ctxs : ∀ c < 256, t.ctx c = if 4 + c / 32 = pd then keepYealms (s.ctx c) else s.ctx c
  mem : ∀ a, t.byte a = if descriptors = true ∧ 4 ≤ pd ∧ pd ≤ 11 ∧ pd * 0x100000 + 0x7C000 ≤ a + 0x400000 ∧
    a + 0x400000 < pd * 0x100000 + 0x80000 then 0 else s.byte a
  gone : pd ∉ t.sys.failed

/-- From `s` to `t` a failure has isolated island `pd` (R38, R47): it is ISOLATED and counted, the outputs bound to it are
inhibited for it, and it awaits its recovery; no memory, core or context changes. -/
structure IsolatedNow (s t : State) (pd : Nat) : Prop where
  state : t.get (R.SYSCTL_PD_STATE pd) = 3
  count : t.get (R.SYSCTL_PD_FCNT pd) = min 255 (s.get (R.SYSCTL_PD_FCNT pd) + 1)
  outputs : ∀ c ∈ s.boundTo pd, (t.inhBy c).testBit pd = true ∧ t.on (chInh c) = true
  failed : t.sys.failed = s.sys.failed ++ [pd]
  others : ∀ k < 16, k ≠ pd → t.rd (R.SYSCTL_PD k) = s.rd (R.SYSCTL_PD k)
  rest : KeepsRest [.SYSCTL, .BATTEN, .EAVES, .THATCH] s t

end Sys2Proof.Safety
end

