-- ==== Sys2Proof/Certificates/Slice0/Obligations.lean ====
section
/-!
DEFINITION. The statements for the provers: every family of commands, with what each changes and what it leaves.
-/

open Sys2Proof Sys2Proof.Machine Sys2Proof.Safety

/-! ### Jenmel: base instructions -/

/-- ADD to POPC (R68, R65): the destination takes the result, ADDS, SUBS and ABS set QS when they saturate, and nothing else
changes. ADDI to SHI (R68): the immediate is sign-extended for ADDI, SLTI and SLTIU, zero-extended for the logic forms, and
SHI shifts or rotates by its low five bits. No flag is set. -/
def Obligations.IntegerResults : Prop :=
  (∀ (s u : State) (x : Issue) (f : Rrr),
     let c := u.core x.core
     let a := gReg c f.s1.toNat
     let b := gReg c f.s2.toNat
     let n := b.toNat % 32
     ∀ r ∈ ([(.add x f, .add, a + b, false), (.sub x f, .sub, a - b, false), (.and x f, .and, a &&& b, false),
         (.or x f, .or, a ||| b, false), (.xor x f, .xor, a ^^^ b, false), (.andn x f, .andn, a &&& ~~~b, false),
         (.sll x f, .sll, a <<< n, false), (.srl x f, .srl, a >>> n, false), (.sra x f, .sra, a.sshiftRight n, false),
         (.ror x f, .ror, a.rotateRight n, false), (.slt x f, .slt, if a.toInt < b.toInt then 1 else 0, false),
         (.sltu x f, .sltu, if a.toNat < b.toNat then 1 else 0, false),
         (.min x f, .min, if a.toInt ≤ b.toInt then a else b, false),
         (.max x f, .max, if a.toInt ≤ b.toInt then b else a, false),
         (.minu x f, .minu, if a.toNat ≤ b.toNat then a else b, false),
         (.maxu x f, .maxu, if a.toNat ≤ b.toNat then b else a, false),
         (.adds x f, .adds, sat32 (a.toInt + b.toInt), over32 (a.toInt + b.toInt)),
         (.subs x f, .subs, sat32 (a.toInt - b.toInt), over32 (a.toInt - b.toInt)),
         (.abs x f, .abs, sat32 (max a.toInt (-a.toInt)), over32 (max a.toInt (-a.toInt))),
         (.clz x f, .clz, BitVec.ofNat 32 (((List.range 32).reverse.takeWhile (fun k => !a.getLsbD k)).length), false),
         (.popc x f, .popc, BitVec.ofNat 32 ((List.range 32).countP (fun k => a.getLsbD k)), false)] :
         List (Instr × Op × Word × Bool)),
       Executes s u x (insnRrr r.2.1 f) →
         ∃ t, exec r.1 s = .next t ∧ Leaves u t x.core (((nextRegs c).setG f.d.toNat r.2.2.1).orCsr 0x011
           (if r.2.2.2 then 0x100 else 0))) ∧
  (∀ (s u : State) (x : Issue) (f : Ri),
     let c := u.core x.core
     let a := gReg c f.s1.toNat
     let si : Word := f.imm.signExtend 32
     let zi : Word := f.imm.zeroExtend 32
     let n := f.imm.toNat % 32
     let k := f.imm.toNat / 32
     ∀ r ∈ ([(.addi x f, .addi, a + si), (.andi x f, .andi, a &&& zi), (.ori x f, .ori, a ||| zi),
         (.xori x f, .xori, a ^^^ zi), (.slti x f, .slti, if a.toInt < si.toInt then 1 else 0),
         (.sltiu x f, .sltiu, if a.toNat < si.toNat then 1 else 0), (.lui x f, .lui, zi <<< 16),
         (.shi x f, .shi, if k = 0 then a <<< n else if k = 1 then a >>> n else if k = 2 then a.sshiftRight n
           else a.rotateRight n)] : List (Instr × Op × Word)),
       Executes s u x (insnRi r.2.1 f.d f.s1 f.imm) →
         ∃ t, exec r.1 s = .next t ∧ Leaves u t x.core ((nextRegs c).setG f.d.toNat r.2.2))

/-- The compares and the predicate logic (R70), CMPI (R68), PRD and PWR (R71). -/
def Obligations.PredicateResults : Prop :=
  ∀ (s u : State) (x : Issue) (f : Rrr) (h : Ri),
    let c := u.core x.core
    let a := gReg c f.s1.toNat
    let b := gReg c f.s2.toNat
    let p := kReg c f.s1.toNat
    let q := kReg c f.s2.toNat
    let ha := gReg c h.s1.toNat
    let hi : Word := h.imm.signExtend 32
    (∀ r ∈ ([(.ceq x f, .ceq, decide (a = b)), (.cne x f, .cne, decide (a ≠ b)),
        (.clt x f, .clt, decide (a.toInt < b.toInt)), (.cge x f, .cge, decide (b.toInt ≤ a.toInt)),
        (.cltu x f, .cltu, decide (a.toNat < b.toNat)), (.cgeu x f, .cgeu, decide (b.toNat ≤ a.toNat)),
        (.pand x f, .pand, p && q), (.por x f, .por, p || q), (.pxor x f, .pxor, p != q),
        (.pandn x f, .pandn, p && !q)] : List (Instr × Op × Bool)),
      Executes s u x (insnRrr r.2.1 f) →
        ∃ t, exec r.1 s = .next t ∧ Leaves u t x.core ((nextRegs c).setK f.d.toNat r.2.2)) ∧
    (Executes s u x (insnRrr .prd f) → ∃ t, exec (.prd x f) s = .next t ∧ ∃ v : Word,
      (∀ k, v.getLsbD k = (decide (k < 8) && kReg c k)) ∧ Leaves u t x.core ((nextRegs c).setG f.d.toNat v)) ∧
    (Executes s u x (insnRrr .pwr f) → ∃ t, exec (.pwr x f) s = .next t ∧
      Leaves u t x.core { nextRegs c with k := fun j => if 1 ≤ j ∧ j ≤ 7 then a.getLsbD j else kReg c j }) ∧
    (Executes s u x (insnRi .cmpi h.d h.s1 h.imm) → ∃ t, exec (.cmpi x h) s = .next t ∧
      Leaves u t x.core ((nextRegs c).setK (h.d.toNat % 8)
        (if h.d.toNat / 8 = 0 then decide (ha = hi) else if h.d.toNat / 8 = 1 then decide (ha ≠ hi)
         else if h.d.toNat / 8 = 2 then decide (ha.toInt < hi.toInt) else decide (ha.toNat < hi.toNat))))

/-- MUL, the doubling multiplies, DIV, DIVU, REM and REMU (R68, R72): the low word; the exact product in an even pair, low
word first; truncated quotients and their remainders, a zero divisor and the one quotient that does not fit giving the values
of the rule with QS. -/
def Obligations.MultiplyDivideResults : Prop :=
  ∀ (s u : State) (x : Issue) (f : Rrr),
    let c := u.core x.core
    let a := gReg c f.s1.toNat
    let b := gReg c f.s2.toNat
    let big := a = 0x80000000 ∧ b = 0xFFFFFFFF
    (Executes s u x (insnRrr .mul f) → ∃ t, exec (.mul x f) s = .next t ∧
      Leaves u t x.core ((nextRegs c).setG f.d.toNat (a * b))) ∧
    (∀ r ∈ ([(.muld x f, .muld, a.toInt * b.toInt), (.muldu x f, .muldu, (a.toNat : Int) * b.toNat),
        (.muldm x f, .muldm, a.toInt * b.toNat)] : List (Instr × Op × Int)),
      Executes s u x (insnRrr r.2.1 f) → f.d.toNat % 2 = 0 ∧ ∃ t, exec r.1 s = .next t ∧
        Leaves u t x.core (((nextRegs c).setG f.d.toNat (BitVec.ofInt 32 r.2.2)).setG (f.d.toNat + 1)
          (BitVec.ofInt 32 (r.2.2 / 4294967296)))) ∧
    (∀ r ∈ ([(.div x f, .div, if b = 0 then (if a.toInt < 0 then 0x80000000 else 0x7FFFFFFF)
          else if big then 0x7FFFFFFF else BitVec.ofInt 32 (a.toInt.tdiv b.toInt), decide (b = 0 ∨ big)),
        (.divu x f, .divu, if b = 0 then 0xFFFFFFFF else BitVec.ofNat 32 (a.toNat / b.toNat), decide (b = 0)),
        (.rem x f, .rem, if b = 0 ∨ big then 0 else BitVec.ofInt 32 (a.toInt.tmod b.toInt), decide (b = 0 ∨ big)),
        (.remu x f, .remu, if b = 0 then 0 else BitVec.ofNat 32 (a.toNat % b.toNat), decide (b = 0))] :
        List (Instr × Op × Word × Bool)),
      Executes s u x (insnRrr r.2.1 f) →
        ∃ t, exec r.1 s = .next t ∧ Leaves u t x.core (((nextRegs c).setG f.d.toNat r.2.2.1).orCsr 0x011
          (if r.2.2.2 then 0x100 else 0)))

/-- QMUL, QMUL2 (R65), SAT and LIMIT (R137): rounded products, clamps, and QS where they change the value. The transforms (R130
to R132) complete in every state in which they issue: they write their two destinations, SYMCOMP its four, QS at most, and
nothing else. -/
def Obligations.FractionResults : Prop :=
  (∀ (s u : State) (x : Issue) (f : Rrr),
     let c := u.core x.core
     ∀ r ∈ ([(.clarke x f, .clarke, 2), (.clarke3 x f, .clarke3, 2), (.park x f, .park, 2), (.ipark x f, .ipark, 2),
         (.sincos x f, .sincos, 2), (.symcomp x f, .symcomp, 4)] : List (Instr × Op × Nat)),
       Executes s u x (insnRrr r.2.1 f) → ∃ t, exec r.1 s = .next t ∧ ∃ g : Nat → Word,
         (∀ j, j < f.d.toNat ∨ f.d.toNat + r.2.2 ≤ j → g j = gReg c j) ∧
         ∃ q : Bool, Leaves u t x.core (({ nextRegs c with g := g }).orCsr 0x011 (if q then 0x100 else 0))) ∧
  ∀ (s u : State) (x : Issue) (f : Rrr),
    let c := u.core x.core
    let a := gReg c f.s1.toNat
    let b := gReg c f.s2.toNat
    let top := gReg c (f.s2.toNat + 1)
    let q := (a.toInt * b.toInt + 2 ^ 30) / 2 ^ 31
    let half := fun (lo : Nat) => ((a.extractLsb' lo 16).toInt * (b.extractLsb' lo 16).toInt + 2 ^ 14) / 2 ^ 15
    let clip := fun (v : Int) => BitVec.ofInt 16 (max (-32768) (min 32767 v))
    let big := fun (v : Int) => decide (v < -32768 ∨ 32767 < v)
    let e : Int := 2 ^ f.s2.toNat
    let w := max (-e) (min (e - 1) a.toInt)
    let m := max b.toInt (min top.toInt a.toInt)
    ∀ r ∈ ([(.qmul x f, .qmul, sat32 q, over32 q), (.qmul2 x f, .qmul2, clip (half 16) ++ clip (half 0),
          big (half 16) || big (half 0)), (.sat x f, .sat, BitVec.ofInt 32 w, decide (w ≠ a.toInt)),
        (.limit x f, .limit, BitVec.ofInt 32 m, decide (m ≠ a.toInt))] : List (Instr × Op × Word × Bool)),
      Executes s u x (insnRrr r.2.1 f) →
        ∃ t, exec r.1 s = .next t ∧ Leaves u t x.core (((nextRegs c).setG f.d.toNat r.2.2.1).orCsr 0x011
          (if r.2.2.2 then 0x100 else 0))

/-- The accumulator group (R65, R78): the products enter exactly, the sums wrap modulo 2^72 and set AVd when the exact result
does not fit; ACCR rounds and saturates with QS; the partial reads and writes reach the named bits alone. -/
def Obligations.AccumulatorResults : Prop :=
  ∀ (s u : State) (x : Issue) (f : Rrr),
    let c := u.core x.core
    let a := gReg c f.s1.toNat
    let b := gReg c f.s2.toNat
    let d := aReg c f.d.toNat
    let z := aReg c f.s1.toNat
    let p := a.toInt * b.toInt
    let dual := ((a.extractLsb' 0 16).toInt * (b.extractLsb' 0 16).toInt +
      (a.extractLsb' 16 16).toInt * (b.extractLsb' 16 16).toInt) * 2 ^ 32
    let out := fun (v : Int) => decide (v < -2 ^ 71 ∨ 2 ^ 71 ≤ v)
    let sh := f.s2.toInt
    let q := (z.toInt + (if f.s2 = 31 then 0 else 2 ^ (30 - f.s2.toNat))) / 2 ^ (31 - f.s2.toNat)
    (∀ r ∈ ([(.mac x f, .mac, d.toInt + p), (.msu x f, .msu, d.toInt - p), (.mac2 x f, .mac2, d.toInt + dual),
        (.msu2 x f, .msu2, d.toInt - dual), (.accadd x f, .accadd, d.toInt + z.toInt),
        (.accsub x f, .accsub, d.toInt - z.toInt), (.macz x f, .macz, p), (.accld x f, .accld, a.toInt * 2 ^ 31),
        (.accsh x f, .accsh, if 0 ≤ sh then d.toInt * 2 ^ sh.toNat else d.toInt / 2 ^ (-sh).toNat),
        (.accmv x f, .accmv, z.toInt), (.accclr x f, .accclr, 0)] : List (Instr × Op × Int)),
      Executes s u x (insnRrr r.2.1 f) → ∃ t, exec r.1 s = .next t ∧
        Leaves u t x.core (((nextRegs c).setA f.d.toNat (BitVec.ofInt 72 r.2.2)).orCsr 0x011
          (if out r.2.2 then BitVec.ofNat 32 (2 ^ f.d.toNat) else 0))) ∧
    (∀ r ∈ ([(.accwl x f, .accwl, d.extractLsb' 32 40 ++ a), (.accwh x f, .accwh, d.extractLsb' 64 8 ++ a ++ d.extractLsb' 0 32),
        (.accwg x f, .accwg, a.extractLsb' 0 8 ++ d.extractLsb' 0 64)] : List (Instr × Op × BitVec 72)),
      Executes s u x (insnRrr r.2.1 f) → ∃ t, exec r.1 s = .next t ∧
        Leaves u t x.core ((nextRegs c).setA f.d.toNat r.2.2)) ∧
    (∀ r ∈ ([(.accr x f, .accr, sat32 q, over32 q), (.accrl x f, .accrl, z.extractLsb' 0 32, false),
        (.accrh x f, .accrh, z.extractLsb' 32 32, false), (.accrg x f, .accrg, (z.extractLsb' 64 8).signExtend 32, false)] :
        List (Instr × Op × Word × Bool)),
      Executes s u x (insnRrr r.2.1 f) → ∃ t, exec r.1 s = .next t ∧
        Leaves u t x.core (((nextRegs c).setG f.d.toNat r.2.2.1).orCsr 0x011 (if r.2.2.2 then 0x100 else 0)))

/-- The float group (R80, R91): the results, and the flags of CSR_FCSR that they raise, which stay set. The sign operations
and the moves raise none; FUN says whether the operands are unordered. -/
def Obligations.FloatResults : Prop :=
  ∀ (s u : State) (x : Issue) (f : Rrr),
    let c := u.core x.core
    let d := fReg c f.d.toNat
    let a := fReg c f.s1.toNat
    let b := fReg c f.s2.toNat
    let g := gReg c f.s1.toNat
    let rnd := (csrOf c 0x010).toNat % 8
    let flags := fun (l : FFlags) => BitVec.ofNat 32 (l.iv.toNat * 4096 + l.dz.toNat * 2048 + l.ov.toNat * 1024 +
      l.un.toNat * 512 + l.ix.toNat * 256)
    (∀ r ∈ ([(.fadd x f, .fadd, faddVal rnd a b), (.fsub x f, .fsub, fsubVal rnd a b), (.fmul x f, .fmul, fmulVal rnd a b),
        (.fdiv x f, .fdiv, fdivVal rnd a b), (.fsqrt x f, .fsqrt, fsqrtVal rnd a), (.fma x f, .fma, fmaVal rnd false d a b),
        (.fms x f, .fms, fmaVal rnd true d a b), (.fmin x f, .fmin, fminmaxVal false a b),
        (.fmax x f, .fmax, fminmaxVal true a b), (.fabs x f, .fabs, ⟨a &&& 0x7FFFFFFF, ffNone⟩),
        (.fneg x f, .fneg, ⟨a ^^^ 0x80000000, ffNone⟩), (.fmov x f, .fmov, ⟨a, ffNone⟩), (.fmvfg x f, .fmvfg, ⟨g, ffNone⟩),
        (.fcvtsw x f, .fcvtsw, fFromInt rnd g.toInt 0), (.fcvtsq x f, .fcvtsq, fFromInt rnd g.toInt (-31)),
        (.rsqrt x f, .rsqrt, rsqrtVal a)] : List (Instr × Op × FRes)),
      Executes s u x (insnRrr r.2.1 f) → ∃ t, exec r.1 s = .next t ∧
        Leaves u t x.core (((nextRegs c).setF f.d.toNat r.2.2.val).orCsr 0x010 (flags r.2.2.fl))) ∧
    (∀ r ∈ ([(.fmvgf x f, .fmvgf, ⟨a, ffNone⟩), (.fcvtws x f, .fcvtws, fToInt rnd a 0),
        (.fcvtqs x f, .fcvtqs, fToInt rnd a 31)] : List (Instr × Op × FRes)),
      Executes s u x (insnRrr r.2.1 f) → ∃ t, exec r.1 s = .next t ∧
        Leaves u t x.core (((nextRegs c).setG f.d.toNat r.2.2.val).orCsr 0x010 (flags r.2.2.fl))) ∧
    (∀ r ∈ ([(.feq x f, .feq, fcmpVal .feq a b), (.flt x f, .flt, fcmpVal .flt a b), (.fle x f, .fle, fcmpVal .fle a b),
        (.fun x f, .fun, (fIsNan a || fIsNan b, ffNone))] : List (Instr × Op × Bool × FFlags)),
      Executes s u x (insnRrr r.2.1 f) → ∃ t, exec r.1 s = .next t ∧
        Leaves u t x.core (((nextRegs c).setK f.d.toNat r.2.2.1).orCsr 0x010 (flags r.2.2.2)))

/-- BR, CALL, JR and JALR (R81), NOP, FENCE and WAIT (R85): where the core goes on, and the link. WAIT stops the core after its
bundle, unless an interrupt is pending. -/
def Obligations.ControlResults : Prop :=
  ∀ (s u : State) (x : Issue) (f : Rrr) (b : Bf),
    let c := u.core x.core
    let dest := c.pc + b.off.signExtend 32 * 8
    let a := gReg c f.s1.toNat
    (Executes s u x (insnB .br b) → ∃ t, exec (.br x b) s = .next t ∧ Leaves u t x.core ((nextRegs c).jump dest)) ∧
    (Executes s u x (insnB .call b) → ∃ t, exec (.call x b) s = .next t ∧
      Leaves u t x.core (((nextRegs c).setG 31 (c.pc + 8)).jump dest)) ∧
    (Executes s u x (insnRrr .jr f) → a.toNat % 8 = 0 →
      ∃ t, exec (.jr x f) s = .next t ∧ Leaves u t x.core ((nextRegs c).jump a)) ∧
    (Executes s u x (insnRrr .jalr f) → a.toNat % 8 = 0 → ∃ t, exec (.jalr x f) s = .next t ∧
      Leaves u t x.core (((nextRegs c).setG f.d.toNat (c.pc + 8)).jump a)) ∧
    (Executes s u x (insnRrr .nop f) → ∃ t, exec (.nop x f) s = .next t ∧ Leaves u t x.core (nextRegs c)) ∧
    (Executes s u x (insnRrr .fence f) → c.region ≠ .spec →
      ∃ t, exec (.fence x f) s = .next t ∧ Leaves u t x.core (nextRegs c)) ∧
    (Executes s u x (insnRrr .waitInt f) → userMode x.core c = false → c.region ≠ .spec →
      (u.coreInt x.core = true → ∃ t, exec (.waitInt x f) s = .next t ∧ Leaves u t x.core (nextRegs c)) ∧
      (u.coreInt x.core = false → ∃ t, exec (.waitInt x f) s = .next t ∧
        t = { u with cores := t.cores, host := { u.host with woken := t.host.woken } } ∧ t.intSeen x.core = false ∧
        (∀ m, m ≠ x.core.val → t.core m = u.core m) ∧ t.core x.core = { c with pc := c.pc + 8, waiting := true }))

/-- LDB to LDF (R73) from on-chip memory that the core can reach and whose clock runs, at an aligned address that its translation allows: the
bytes, little-endian (R13), extended as the row says, with no other change. In the speculative part of a region the address
lies in the core's own memory (R69). -/
def Obligations.LoadResults : Prop :=
  ∀ (s u : State) (x : Issue) (f : Mf) (pa : Nat) (k : MemKind),
    let c := u.core x.core
    let va := (gReg c f.base.toNat + f.off.signExtend 32).toNat
    let b := fun j => u.byte (pa + j)
    let reach := fun (size : Nat) => x.core.val ≠ 10 ∧ va % size = 0 ∧ pa % size = 0 ∧ memAt pa = some k ∧
      memAt (pa + size - 1) = some k ∧ u.memShut (masterOf x.core) k = false ∧ u.marked pa = false ∧
      u.pdStill (pdOfMem k) = false ∧
      (0x00F00000 ≤ pa ∧ pa < 0x00F80000 → u.on R.THATCH_STAT_RDEN = true) ∧
      (c.region = .spec → ownLocal x.core va = true)
    xlate x.core c 0 va = (0, pa) →
    (∀ r ∈ ([(.ldb x f, .ldb, 1, (b 0).signExtend 32), (.ldbu x f, .ldbu, 1, (b 0).zeroExtend 32),
        (.ldh x f, .ldh, 2, (b 1 ++ b 0).signExtend 32), (.ldhu x f, .ldhu, 2, (b 1 ++ b 0).zeroExtend 32),
        (.ldw x f, .ldw, 4, b 3 ++ b 2 ++ b 1 ++ b 0)] : List (Instr × Op × Nat × Word)),
      Executes s u x (insnM r.2.1 f) → reach r.2.2.1 →
        ∃ t, exec r.1 s = .next t ∧ Leaves u t x.core ((nextRegs c).setG f.t.toNat r.2.2.2)) ∧
    (Executes s u x (insnM .ldf f) → reach 4 → ∃ t, exec (.ldf x f) s = .next t ∧
      Leaves u t x.core ((nextRegs c).setF f.t.toNat (b 3 ++ b 2 ++ b 1 ++ b 0))) ∧
    (Executes s u x (insnM .ldd f) → reach 8 → ∃ t, exec (.ldd x f) s = .next t ∧
      Leaves u t x.core (((nextRegs c).setG f.t.toNat (b 3 ++ b 2 ++ b 1 ++ b 0)).setG (f.t.toNat + 1)
        (b 7 ++ b 6 ++ b 5 ++ b 4)))

/-- STB to STF (R73) outside a speculative part, to a memory that the core can write: shared, supervisor or trace SRAM off
every enabled queue, its own instruction memory, or data memory outside descriptors and the areas of closed contexts other
than the block of the context that runs. The addressed bytes take the register's bytes, little-endian; every other byte, every
register and the rest of the state stay. STD clears the mark of R41 on its word, and only STD may store to a marked one. The
atomic instructions (R77) outside a region that runs ahead, on an unmarked word of the shared or supervisor SRAM off every
enabled queue: the destination takes the old word, memory the new one; ATADDS sets QS when it saturates. -/
def Obligations.StoreResults : Prop :=
  (∀ (s u : State) (x : Issue) (f : Mf) (pa : Nat) (k : MemKind),
     let c := u.core x.core
     let va := (gReg c f.base.toNat + f.off.signExtend 32).toNat
     let w := gReg c f.t.toNat
     let free := fun (size : Nat) => (k = .shared ∨ k = .superv ∨ k = .traceStore ∨ (∃ n : Fin 8, x.core.val = n.val ∧ k = .rcInstr n.val)) ∨
       ∃ n, k = .rcData n ∧ ∀ j, pa ≤ j + 3 → j < pa + size → j % 4 = 0 →
         descCtx j = none ∧ (u.ownedBy n (j % 0x100000) = none ∨
           (x.core.val = n ∧ ∃ m, u.ownedBy n (j % 0x100000) = some (m, true) ∧ u.isRunning m = true))
     let reach := fun (size : Nat) => x.core.val ≠ 10 ∧ va % size = 0 ∧ pa % size = 0 ∧ memAt pa = some k ∧
       memAt (pa + size - 1) = some k ∧ u.memShut (masterOf x.core) k = false ∧ (size ≠ 8 → u.marked pa = false) ∧
       u.pdStill (pdOfMem k) = false ∧
       (∀ j, pa ≤ j + 3 → j < pa + size → j % 4 = 0 → u.queueAt j = none) ∧ free size ∧ c.region ≠ .spec
     let stored := fun (t : State) (bytes : List Byte) =>
       t = { u with cores := t.cores, mem := t.mem, ecc := t.ecc } ∧ CoreLeft u t x.core (nextRegs c) ∧
       ∀ a, t.byte a = if pa ≤ a ∧ a < pa + bytes.length then bytes.getD (a - pa) 0 else u.byte a
     let word := fun (v : Word) => [v.extractLsb' 0 8, v.extractLsb' 8 8, v.extractLsb' 16 8, v.extractLsb' 24 8]
     xlate x.core c 1 va = (0, pa) →
     (∀ r ∈ ([(.stb x f, .stb, 1, (word w).take 1), (.sth x f, .sth, 2, (word w).take 2), (.stw x f, .stw, 4, word w),
         (.stf x f, .stf, 4, word (fReg c f.t.toNat))] : List (Instr × Op × Nat × List Byte)),
       Executes s u x (insnM r.2.1 f) → reach r.2.2.1 → ∃ t, exec r.1 s = .next t ∧ stored t r.2.2.2 ∧ t.ecc = u.ecc) ∧
     (Executes s u x (insnM .std f) → reach 8 → ∃ t, exec (.std x f) s = .next t ∧
       stored t (word w ++ word (gReg c (f.t.toNat + 1))) ∧ t.marked pa = false ∧
       ∀ a, a / 8 ≠ pa / 8 → t.marked a = u.marked a)) ∧
  (∀ (s u : State) (x : Issue) (f : Rrr) (pa : Nat),
     let c := u.core x.core
     let va := (gReg c f.s1.toNat).toNat
     let old := u.memWord pa
     let b := gReg c f.s2.toNat
     let sum := old.toInt + b.toInt
     x.core.val ≠ 10 → xlate x.core c 3 va = (0, pa) → va % 4 = 0 → pa % 4 = 0 → inSram pa 4 = true → u.pdRun 3 = true →
     u.marked pa = false → u.queueAt pa = none → c.region ≠ .spec →
     ∀ r ∈ ([(.atxch x f, .atxch, b), (.atadd x f, .atadd, old + b), (.atand x f, .atand, old &&& b),
         (.ator x f, .ator, old ||| b), (.atxor x f, .atxor, old ^^^ b),
         (.atmax x f, .atmax, if old.toInt < b.toInt then b else old),
         (.atmin x f, .atmin, if b.toInt < old.toInt then b else old),
         (.atcas x f, .atcas, if old = b then gReg c (f.s2.toNat + 1) else old), (.atadds x f, .atadds, sat32 sum),
         (.atring x f, .atring, if old.toNat + 1 < b.toNat then old + 1 else 0)] : List (Instr × Op × Word)),
       Executes s u x (insnRrr r.2.1 f) → ∃ t, exec r.1 s = .next t ∧
         t = { u with cores := t.cores, mem := t.mem } ∧ t.memWord pa = r.2.2 ∧
         (∀ a, a < pa ∨ pa + 4 ≤ a → t.byte a = u.byte a) ∧
         CoreLeft u t x.core (((nextRegs c).setG f.d.toNat old).orCsr 0x011
           (if r.2.1 = .atadds ∧ over32 sum then 0x100 else 0)))

/-- CSRR (R86, R88): a stored CSR is read as it stands; CSR_CORENUM names profile and core; a read of CSR_CYCLE and the
CSR_CYCLEH that goes with it are the halves of one count. How far the count has run is open (log entry 24). CSRW (R86): mode 0
writes, mode 1 sets and mode 2 clears the bits that the CSR lets software write; a W1C field is cleared by ones written in mode
0 and else untouched; every other bit stays. XLQ, XLINV and XLINVA in supervisor mode on a supervisor core (R103, R105): XLQ
reports the region of the highest number that matches, 0 where none does; XLINV clears V in every region that matches the
address, XLINVA in every region. Readings and choices of the model's own that it rests on: log entries 109 and 115. -/
def Obligations.CsrResults : Prop :=
  (∀ (s u : State) (x : Issue) (f : Ri),
     let c := u.core x.core
     let num := f.imm.toNat
     Executes s u x (insnRi .csrr f.d f.s1 f.imm) → (userMode x.core c = true → userCsr false num = true) →
     (num ≠ 0x20 → num ≠ 0x30 → num ≠ 0x100 → ∃ t, exec (.csrr x f) s = .next t ∧
       Leaves u t x.core ((nextRegs c).setG f.d.toNat (csrOf c num))) ∧
     (num = 0x30 → ∃ t, exec (.csrr x f) s = .next t ∧ Leaves u t x.core ((nextRegs c).setG f.d.toNat
       (if x.core.val < 8 then BitVec.ofNat 32 x.core.val else if x.core.val < 10 then BitVec.ofNat 32 (16 + x.core.val - 8)
        else 32))) ∧
     (num = 0x100 → ∃ t v, exec (.csrr x f) s = .next t ∧ Leaves u t x.core ((nextRegs c).setG f.d.toNat v) ∧
       (v.getLsbD 8 = c.ctx.isSome) ∧ (∀ k, c.ctx = some k → k < 256 → (v.toNat % 256 = k)) ∧
       v.getLsbD 9 = decide (c.region ≠ .none) ∧ v.getLsbD 10 = decide (c.region = .spec) ∧ v.getLsbD 11 = c.survey) ∧
     (num = 0x20 → ∃ t, exec (.csrr x f) s = .next t ∧ (f.d ≠ 0 → gReg (t.core x.core) f.d.toNat =
       (t.core x.core).cycle.extractLsb' 0 32) ∧ csrOf (t.core x.core) 0x21 = (t.core x.core).cycle.extractLsb' 32 32 ∧
       (t.core x.core).pc = c.pc + 8 ∧ t = { u with cores := t.cores, freeCtr := t.freeCtr })) ∧
  (∀ (s u : State) (x : Issue) (f : Rw),
     let c := u.core x.core
     let a := gReg c f.s1.toNat
     let num := f.imm.toNat
     let old := csrOf c num
     let m := csrFields (profileOf x.core) num
     c.region ≠ .spec → (userMode x.core c = true → userCsr true num = true) →
     ∀ r ∈ ([(.csrwWrite x f, 0, a), (.csrwSet x f, 1, old ||| a), (.csrwClear x f, 2, old &&& ~~~a)] :
         List (Instr × BitVec 5 × Word)),
       Executes s u x (insnRi .csrw r.2.1 f.s1 f.imm) → ∃ t v, exec r.1 s = .next t ∧
         Leaves u t x.core ((nextRegs c).setCsr num v) ∧
         ∀ k < 32, v.getLsbD k = if m.1.getLsbD k then r.2.2.getLsbD k
           else old.getLsbD k && !(decide (r.2.1 = 0) && m.2.getLsbD k && a.getLsbD k)) ∧
  (∀ (s u : State) (x : Issue) (f : Rrr),
     let c := u.core x.core
     let va := gReg c f.s1.toNat
     let kind := (gReg c f.s2.toNat).toNat % 4
     userMode x.core c = false → c.region ≠ .spec →
     (Executes s u x (insnRrr .xlq f) → ∃ t v, exec (.xlq x f) s = .next t ∧
       Leaves u t x.core ((nextRegs c).setG f.d.toNat v) ∧
       ((∀ k < 32, xlMatch c k va.toNat = false) → v = 0) ∧
       (∀ k < 32, xlMatch c k va.toNat = true → (∀ j < 32, k < j → xlMatch c j va.toNat = false) →
         v.getLsbD 0 = true ∧ v.getLsbD 1 = xlAllows x.core c k kind ∧ v.toNat / 32 % 32 = k ∧
         v.toNat / 4096 = xlAddr c k va.toNat / 4096)) ∧
     (∀ r ∈ ([(.xlinv x f, .xlinv, fun k => xlMatch c k va.toNat), (.xlinva x f, .xlinva, fun _ => true)] :
         List (Instr × Op × (Nat → Bool))),
       Executes s u x (insnRrr r.2.1 f) → ∃ t, exec r.1 s = .next t ∧ ∃ csr : Nat → Word,
         Leaves u t x.core { nextRegs c with csr := csr } ∧
         (∀ k < 32, csr (0x201 + 2 * k) = if r.2.2 k then csrOf c (0x201 + 2 * k) &&& ~~~0x20#32 else csrOf c (0x201 + 2 * k)) ∧
         (∀ n, (∀ k < 32, n ≠ 0x201 + 2 * k) → csr n = csrOf c n)))

/-! ### Jenmel: exceptions and encodings -/

/-- R96 for SYSCALL and R95: the bundle completes, the handler is entered with the 10-bit code, and CSR_EPC holds the next
bundle. HRET copies CSR_ESTATUS into CSR_STATUS and goes on at CSR_EPC. R95 and R96 for every exception but SYSCALL: when a
bundle raises cause `k` in slot `j` outside a speculative part, and the cause is not BUSERR, neither slot has any effect and
the handler is entered with CSR_EPC at the bundle. Which cores issue (R85, R99, R114, R648). A core whose island runs, that is
neither locked up nor stopped nor holding a bundle, and whose fetch no stopped clock delays, can issue; in a dispatch nothing
changes by that, and in background code only the mark that a dispatch has just ended goes. With a handler running or no vector
base, a synchronous exception writes no register but locks the core up and signals LKU to its island; a core in lock-up issues
nothing: its instructions change nothing. Readings and choices of the model's own that it rests on: log entries 28 and 44. -/
def Obligations.ExceptionResults : Prop :=
  (∀ (s u : State) (x : Issue) (f : Rrr),
     let c := u.core x.core
     c.region ≠ .spec →
     (Executes s u x (insnRrr .syscall f) → CanEnter c → ∃ t, exec (.syscall x f) s = .next t ∧
       Enters u t x.core 0x09 1 (BitVec.ofNat 32 (f.s1.toNat * 32 + f.s2.toNat)) (c.pc + 8) 0) ∧
     (Executes s u x (insnRrr .hret f) → userMode x.core c = false → ∃ t, exec (.hret x f) s = .next t ∧
       Leaves u t x.core (((nextRegs c).setCsr 0 (csrOf c 1)).jump (csrOf c 2)))) ∧
  (∀ (u : State) (n : Nat) (a b : SlotW) (k : Cause) (j : Nat),
     let c := u.core n
     u.bundleCause n c a b = some (k, j) → k.code ≠ 0x08 → k.code ≠ 0x10 → c.region ≠ .spec → CanEnter c →
       Enters u (u.runBundle n a b) n k.code j k.eval c.pc 0) ∧
  ((∀ (s : State) (n : Nat),
     let c := s.core n
     s.pdRun (pdOfCore n) = true → c.lockup = false → c.stalled = none → c.waiting = false → s.fetchStill n = false →
     (c.ctx.isSome = true → s.ready n = some s) ∧
     (c.ctx = none → c.bgWait = false → ∃ u, s.ready n = some u ∧ u = { s with cores := u.cores } ∧
       (∀ m, m ≠ n → u.core m = s.core m) ∧ u.core n = { c with between := false })) ∧
   (∀ (u : State) (n : Nat) (a b : SlotW) (k : Cause) (j : Nat),
     u.bundleCause n (u.core n) a b = some (k, j) → k.code ≠ 0x08 → (u.core n).region ≠ .spec → ¬ CanEnter (u.core n) →
     u.runBundle n a b = (u.onCore n (fun c => { c with lockup := true })).islandFailed (pdOfCore n) .lku) ∧
   (∀ (s : State) (x : Issue) (i : Insn), (s.core x.core).lockup = true → s.issue x i = s))

/-- R97: an interrupt is taken at a bundle boundary, at CSR_VBASE + 0x80, when IEN is 1, HND is 0 and there is a vector base;
CSR_EPC holds the bundle that would have issued next. Else TAKE_INT changes nothing. -/
def Obligations.InterruptTaken : Prop :=
  ∀ (s u : State) (n : Fin 11),
    let c := u.core n
    s.coreInt n = true → s.ready n = some u →
    ((csrOf c 0).getLsbD 0 = true → CanEnter c → c.region ≠ .spec →
      ∃ t, exec (.takeInt n) s = .next t ∧ Enters u t n 0x10 0 0 c.pc 0x80) ∧
    ((csrOf c 0).getLsbD 0 = false ∨ ¬ CanEnter c ∨ c.region = .spec → exec (.takeInt n) s = .next s)

/-- The causes found at decode (R55, R56, R61, R94, R102, R108): a BR- or XR-class instruction outside slot 1, two slots of one
class other than I, and two slots with one destination, but for opposite guards on one predicate, break the bundle; a false
guard raises nothing at all; else an instruction that the profile lacks or whose fields are wrong is ILLEGAL, and the
privileged ones raise PRIV in user mode. Readings and choices of the model's own that it rests on: log entries 27 and 45. -/
def Obligations.DecodeCauses : Prop :=
  (∀ i j : Insn, (opRow i.op).cls = .BR ∨ (opRow i.op).cls = .XR → bundleBad i j = true) ∧
  (∀ i j : Insn, (opRow i.op).cls = (opRow j.op).cls → (opRow i.op).cls ≠ .I → bundleBad i j = true) ∧
  (∀ f h : Rrr, f.d = h.d → f.d ≠ 0 → (bundleBad (insnRrr .add f) (insnRrr .sub h) = true ↔ (f.g ^^^ h.g) ≠ 8) ∧
    bundleBad (insnRrr .add f) (insnRi .addi h.d h.s1 0) = true) ∧
  (∀ f h : Rrr, f.d = 0 → h.d = 0 → bundleBad (insnRrr .add f) (insnRrr .sub h) = false) ∧
  ∀ (u : State) (n : Nat) (c : CoreSt) (w : Word) (i : Insn), decodeInsn w = some i →
    (guardOn c i.guard = false → u.slotCause n c (slotOf w) = none) ∧
    (guardOn c i.guard = true → legalInsn (profileOf n) i = false → u.slotCause n c (slotOf w) = some ⟨0x01, w⟩) ∧
    (guardOn c i.guard = true → legalInsn (profileOf n) i = true → userMode n c = true →
      i.op ∈ ([.hret, .waitInt, .xlq, .xlinv, .xlinva] : List Op) → u.slotCause n c (slotOf w) = some ⟨0x03, w⟩)

/-- The encodings of R57 and R106 (R67, R109): every operation of the opcode map decodes from the word that its format gives
it, with every field at every value. -/
def Obligations.JenmelRoundTrip : Prop :=
  (∀ (o : Op) (f : Rrr), (opRow o).fmt = .rrr → decodeInsn (wordRrr o f) = some (insnRrr o f)) ∧
  (∀ (o : Op) (d s1 : BitVec 5) (imm : BitVec 16), (opRow o).fmt = .ri → decodeInsn (wordRi o d s1 imm) = some (insnRi o d s1 imm)) ∧
  (∀ (o : Op) (f : Mf), (opRow o).fmt = .m → decodeInsn (wordM o f) = some (insnM o f)) ∧
  (∀ (o : Op) (f : Bf), (opRow o).fmt = .b → decodeInsn (wordB o f) = some (insnB o f))

/-! ### Jenmel: control extensions and queues -/

/-- SAMP and PRED (R113, R114, R169): in a dispatch whose feedback is not flagged SAMP gives the prediction while the region
runs ahead and else the component of the real vector that has arrived; under the flag it gives what the policy names. PRED
replaces one prediction. SPEC (R110 to R112): the region begins at the end of the bundle, whatever the status; the status is 2
(REFUSED) where run-ahead is off, in Survey mode or under the feedback flag, else 1 (PRESENT) where the vector is there or has
no component, else 0, and the region is speculative in that last case alone. The checkpoint holds the registers, the sticky
flags and the occupancy of the commit buffer as they stand then. SQUASH (R118, R112): in a speculative part the checkpoint
comes back, Gd of the SPEC reads 4, CSR_SQCNT counts, and the words of the undo log are restored, newest first; elsewhere
SQUASH has no effect. Readings and choices of the model's own that it rests on: log entry 37. -/
def Obligations.RunAheadResults : Prop :=
  (∀ (s u : State) (x : Issue) (f : Rrr) (n : Nat),
     let c := u.core x.core
     let k := f.s2.toNat
     c.ctx = some n → k < u.ncomp n →
     (Executes s u x (insnRrr .samp f) →
       (u.fbl n = false → c.region = .spec → ∃ t, exec (.samp x f) s = .next t ∧
         Leaves u t x.core ((nextRegs c).setG f.d.toNat (tblGet (fun _ => 0) (u.ctx n).pred k))) ∧
       (∀ v, u.fbl n = false → c.region ≠ .spec → c.real = some v → ∃ t, exec (.samp x f) s = .next t ∧
         Leaves u t x.core ((nextRegs c).setG f.d.toNat (v.getD k 0))) ∧
       (u.fbl n = true → ∃ t, exec (.samp x f) s = .next t ∧ Leaves u t x.core ((nextRegs c).setG f.d.toNat
         (tblGet (fun _ => 0) (if u.fbpol n = 2 then (u.ctx n).pred else (u.ctx n).last) k))) ∧
       (u.fbl n = false → c.region ≠ .spec → c.real = none → ∃ t, exec (.samp x f) s = .next t ∧
         (t.core x.core).stalled = some (if x.slot then (x.mate, wordRrr .samp f) else (wordRrr .samp f, x.mate)) ∧
         (t.core x.core).pc = c.pc)) ∧
     (Executes s u x (insnRrr .pred f) → c.region = .none → ∃ t, exec (.pred x f) s = .next t ∧
       CoreLeft u t x.core (nextRegs c) ∧ t = { u with cores := t.cores, ctxs := t.ctxs } ∧
       (∀ m, m ≠ n → t.ctx m = u.ctx m) ∧ t.ctx n = { u.ctx n with pred := (t.ctx n).pred } ∧
       ∀ j, tblGet (fun _ => 0) (t.ctx n).pred j = if j = k then gReg c f.s1.toNat else tblGet (fun _ => 0) (u.ctx n).pred j)) ∧
  (∀ (s u : State) (x : Issue) (f : Rrr) (n : Nat),
     let c := u.core x.core
     let st : Nat := if (csrOf c 0x103).getLsbD 0 = false ∨ c.survey = true ∨ u.fbl n = true then 2
       else if u.ncomp n = 0 ∨ c.real.isSome = true then 1 else 0
     Executes s u x (insnRrr .spec f) → c.ctx = some n → c.region = .none → ∃ t, exec (.spec x f) s = .next t ∧
       let e := t.core x.core
       t = { u with cores := t.cores } ∧ (∀ m, m ≠ x.core.val → t.core m = u.core m) ∧ e.pc = c.pc + 8 ∧
       (∀ j, gReg e j = if j = f.d.toNat ∧ j ≠ 0 then BitVec.ofNat 32 st else gReg c j) ∧
       e.region = (if st = 0 then .spec else .live) ∧ e.specDst = f.d.toNat ∧ e.undo = [] ∧
       e.ckpt = ⟨e.g, e.acc, e.f, e.k, csrOf c 0x011, csrOf c 0x010, c.cb.length, c.pc + 8⟩ ∧
       e.acc = c.acc ∧ e.f = c.f ∧ e.k = c.k ∧ e.csr = c.csr ∧ e.cb = c.cb ∧ e.ctx = c.ctx) ∧
  (∀ (s u : State) (x : Issue) (f : Rrr),
     let c := u.core x.core
     let k := c.ckpt
     Executes s u x (insnRrr .squash f) →
     (c.region ≠ .spec → ∃ t, exec (.squash x f) s = .next t ∧ Leaves u t x.core (nextRegs c)) ∧
     (c.region = .spec → ∃ t, exec (.squash x f) s = .next t ∧
       let e := t.core x.core
       e.pc = k.pc ∧ e.region = .live ∧ e.reexec = true ∧ e.undo = [] ∧ e.cb = c.cb.take k.cbLen ∧ e.acc = k.acc ∧ e.f = k.f ∧
       e.k = k.k ∧ e.stalled = none ∧ csrOf e 0x011 = k.accstat ∧ csrOf e 0x010 = k.fcsr ∧
       csrOf e 0x101 = csrOf c 0x101 + 1 ∧ csrOf e 0 = csrOf c 0 ∧
       (∀ j, gReg e j = if j = c.specDst ∧ j ≠ 0 then 4 else if j = 0 then 0 else tblGet (fun _ => 0) k.g j) ∧
       t.mem = (u.undoAll c.undo).mem))

/-- PWMW (R123, R124): one entry of select, channel code and value joins the end of the commit buffer; no register of Batten is
written. COMMIT and YIELD (R117, R119, R122, R125, R164): outside a speculative part COMMIT writes the number of entries,
empties the buffer and ends the region; the entries of a closed context go out as one epoch in program order while PD12 runs,
those of an open context are discarded. YIELD ends the dispatch; without a context it has no effect. Readings and choices of
the model's own that it rests on: log entries 36, 38 and 113. -/
def Obligations.CommitResults : Prop :=
  (∀ (s u : State) (x : Issue) (f : Rrr) (n : Nat) (ch : Chan),
     let c := u.core x.core
     let w := gReg c f.s2.toNat
     Executes s u x (insnRrr .pwmw f) → c.ctx = some n → w.toNat < 4096 → chanOfCode (w.toNat % 256) = some ch →
     (selOff ch (w.toNat / 256)).isSome = true → w.toNat % 256 ∈ u.pwmCodes n → c.cb.length < 64 →
       ∃ t, exec (.pwmw x f) s = .next t ∧ t = { u with cores := t.cores } ∧ (∀ m, m ≠ x.core.val → t.core m = u.core m) ∧
         t.core x.core = { c with pc := c.pc + 8, cb := c.cb ++ [⟨w.toNat / 256, w.toNat % 256, gReg c f.s1.toNat⟩] }) ∧
  (∀ (s u : State) (x : Issue) (f : Rrr) (n : Nat),
     let c := u.core x.core
     c.region ≠ .spec →
     (Executes s u x (insnRrr .commit f) → ∃ t, exec (.commit x f) s = .next t ∧
       (t.core x.core).cb = [] ∧ (t.core x.core).region = .none ∧ (t.core x.core).pc = c.pc + 8 ∧
       (∀ j, gReg (t.core x.core) j = if j = f.d.toNat ∧ j ≠ 0 then BitVec.ofNat 32 c.cb.length else gReg c j) ∧
       (c.ctx = some n → u.isOpen n = true → t.bat.epochs = u.bat.epochs ∧ t.regs = u.regs) ∧
       (c.ctx = some n → coreOf n = x.core → u.isOpen n = false → c.cb ≠ [] → u.pdRun 12 = true → (u.ctx n).restoring = false →
         t.epochsOf x.core = u.epochsOf x.core ++ [⟨x.core, c.epochSeq, c.cb, false, some n⟩] ∧ t.regs = u.regs)) ∧
     (Executes s u x (insnRrr .yield f) →
       (c.ctx = none → ∃ t, exec (.yield x f) s = .next t ∧ Leaves u t x.core (nextRegs c)) ∧
       (c.ctx = some n → coreOf n = x.core → c.cb = [] → (u.ctx n).pendOpen = false → u.swapping = false →
         ∃ t, exec (.yield x f) s = .next t ∧ (t.core x.core).ctx = none ∧ (t.core x.core).between = true ∧
         (t.core x.core).cb = [] ∧ (t.ctx n).copy.isSome = true ∧ t.bat = u.bat)))

/-- TRACE and TRACED (R122, R126, R179, R180), while the clock of the trace store does not stand still. Without a dispatched
context, to a node without a binding and, for TRACED, to one of 32-bit entries: the status, nothing written. A value that
starts a block of its node: the status names 4 or 8 bytes, and the block in the trace store begins with the dispatch stamp, a
header with context, node, one entry and the sequence number, and the value. Readings and choices of the model's own that it
rests on: log entries 99 and 113. -/
def Obligations.TraceResults : Prop :=
  ∀ (s u : State) (x : Issue) (f : Rrr) (i : Instr) (o : Op), (i, o) ∈ [(Instr.trace x f, Op.trace), (.traced x f, .traced)] →
    let c := u.core x.core
    let k := f.s2.toNat
    let node := fun (n : Nat) => u.desc n (0x100 + 4 * k)
    c.region ≠ .spec → Executes s u x (insnRrr o f) → u.pdStill 3 = false →
    (c.ctx = none → ∃ t, exec i s = .next t ∧ Leaves u t x.core ((nextRegs c).setG f.d.toNat 0x0A)) ∧
    (∀ n, c.ctx = some n → (node n).getLsbD 31 = false →
      ∃ t, exec i s = .next t ∧ Leaves u t x.core ((nextRegs c).setG f.d.toNat 0x08)) ∧
    (∀ n, c.ctx = some n → (node n).getLsbD 31 = true → (node n).getLsbD 30 = false → o = .traced →
      ∃ t, exec i s = .next t ∧ Leaves u t x.core ((nextRegs c).setG f.d.toNat 0x03)) ∧
    (∀ n, let d := u.node n k
      let a := 0x00E00000 + 1024 * ((node n).toNat / 512 % 1024) + 64 * d.pos
      c.ctx = some n → n < 256 → (node n).getLsbD 31 = true → (node n).getLsbD 30 = true ∨ o = .trace →
      u.pdRun 3 = true → d.live = false → d.pos = 0 → d.seq < 2048 → (∀ j < 64, u.marked (a + j) = false) →
      ∃ t, exec i s = .next t ∧
        (∀ j, gReg (t.core x.core) j = if j = f.d.toNat ∧ j ≠ 0 then (if o = .traced then 0x800 else 0x400) else gReg c j) ∧
        t.memWord a = (u.ctx n).dispStamp ∧
        (t.memWord (a + 4)).toNat / 2 ^ 20 = n * 16 + k ∧ (t.memWord (a + 4)).toNat / 2 ^ 13 % 32 = 1 ∧
        (t.memWord (a + 4)).toNat % 2048 = d.seq ∧
        t.memWord (a + 12) = gReg c f.s1.toNat ∧ (o = .traced → t.memWord (a + 16) = gReg c (f.s1.toNat + 1)) ∧
        (t.node n k).live = true ∧ (t.node n k).count = 1 ∧ t.regs = u.regs)

/-- OPEN, CLOSE and CTXQ (R127 to R129): the first code that applies, in the order of the rule, and what an accepted command
does: CLOSE waits for the next dispatch, an OPEN of the running context for the end of its dispatch. CTXQ shows number, OPN,
CFG, FBL, SWP and PEND of a context of the core, and 0 for another. -/
def Obligations.ContextCommands : Prop :=
  ∀ (s u : State) (x : Issue) (f : Rrr),
    let c := u.core x.core
    let w := gReg c f.s1.toNat
    let n := w.toNat
    let busy := u.cfg.changed.contains n || u.on (R.RAFTER_CTX_STAT_PEND n)
    let code := fun (opn : Bool) => if 256 ≤ n then 0x06 else if n / 32 ≠ x.core.val then 0x11 else if busy then 0x12
      else if u.isOpen n = opn then 0x10 else if opn then 0 else if u.isCfg n = false then 0x14
      else if u.fbl n then 0x13 else 0
    c.region ≠ .spec →
    (∀ r ∈ [(Instr.openCtx x f, Op.openCtx, true), (.closeCtx x f, .closeCtx, false)], Executes s u x (insnRrr r.2.1 f) →
      code r.2.2 ≠ 0 → ∃ t, exec r.1 s = .next t ∧
        Leaves u t x.core ((nextRegs c).setG f.d.toNat (BitVec.ofNat 32 (code r.2.2)))) ∧
    (Executes s u x (insnRrr .closeCtx f) → code false = 0 → ∃ t, exec (.closeCtx x f) s = .next t ∧
      gReg (t.core x.core) f.d.toNat = 0 ∧ (t.ctx n).pendClose = true ∧ t.isOpen n = false ∧
      t.on (R.RAFTER_CTX_STAT_PEND n) = true ∧ t.on (R.RAFTER_CTX_STAT_FIRST n) = true ∧ t.mem = u.mem) ∧
    (Executes s u x (insnRrr .openCtx f) → code true = 0 → u.isRunning n = true → ∃ t, exec (.openCtx x f) s = .next t ∧
      gReg (t.core x.core) f.d.toNat = 0 ∧ (t.ctx n).pendOpen = true ∧ t.isOpen n = false ∧
      t.on (R.RAFTER_CTX_STAT_PEND n) = true ∧ t.mem = u.mem) ∧
    (Executes s u x (insnRrr .openCtx f) → code true = 0 → u.isRunning n = false → ∃ t, exec (.openCtx x f) s = .next t ∧
      (f.d ≠ 0 → gReg (t.core x.core) f.d.toNat = 0) ∧ t.isOpen n = true ∧ (t.ctx n).pendOpen = false) ∧
    (Executes s u x (insnRrr .ctxq f) → ∃ t v, exec (.ctxq x f) s = .next t ∧
      Leaves u t x.core ((nextRegs c).setG f.d.toNat v) ∧ (n % 256 / 32 ≠ x.core.val → v = 0) ∧
      (n % 256 / 32 = x.core.val → v.toNat / 256 = n % 256 ∧ v.getLsbD 0 = u.isOpen (n % 256) ∧
        v.getLsbD 1 = u.isCfg (n % 256) ∧ v.getLsbD 2 = u.fbl (n % 256) ∧ v.getLsbD 3 = u.on (R.RAFTER_CTX_STAT_SWP (n % 256)) ∧
        v.getLsbD 4 = u.on (R.RAFTER_CTX_STAT_PEND (n % 256))))

/-- The transforms (R130 to R132), results by results with their QS. SINCOS sets none. The open part of SINCOS, PARK and IPARK
within their bounds is `Config.sincosError` (log entry 20). The accuracy of CLARKE and CLARKE3 (R130): each unsaturated result
times √3, or times 3, lies within half a unit of the exact value, stated in integers; and the values of R131 at the four
quarter turns. Readings and choices of the model's own that it rests on: log entry 23. -/
def Obligations.TransformResults : Prop :=
  (∀ (s u : State) (x : Issue) (f : Rrr),
     let c := u.core x.core
     let a := gReg c f.s1.toNat
     let a1 := gReg c (f.s1.toNat + 1)
     let b := gReg c f.s2.toNat
     let d := f.d.toNat
     let two := fun (r : QRes × QRes) => (((nextRegs c).setG d r.1.val).setG (d + 1) r.2.val).orCsr 0x011
       (if r.1.qs || r.2.qs then 0x100 else 0)
     (∀ r ∈ ([(.clarke x f, .clarke, clarkeVal a b), (.clarke3 x f, .clarke3, clarke3Val a a1 b), (.park x f, .park, parkVal a a1 b),
         (.ipark x f, .ipark, iparkVal a a1 b), (.sincos x f, .sincos, (⟨(sincosVal a).1, false⟩, ⟨(sincosVal a).2, false⟩))] :
         List (Instr × Op × QRes × QRes)),
       Executes s u x (insnRrr r.2.1 f) → ∃ t, exec r.1 s = .next t ∧ Leaves u t x.core (two r.2.2)) ∧
     (Executes s u x (insnRrr .symcomp f) → ∃ t, exec (.symcomp x f) s = .next t ∧
       let q := gReg c (f.s1.toNat + 2)
       let q1 := gReg c (f.s1.toNat + 3)
       let half := fun (v : Int) => (v + 1) / 2
       let l := [half (a.toInt - q1.toInt), half (q.toInt + a1.toInt), half (a.toInt + q1.toInt), half (a1.toInt - q.toInt)]
       Leaves u t x.core ((((((nextRegs c).setG d (sat32 (l.getD 0 0))).setG (d + 1) (sat32 (l.getD 1 0))).setG (d + 2)
         (sat32 (l.getD 2 0))).setG (d + 3) (sat32 (l.getD 3 0))).orCsr 0x011 (if l.any over32 then 0x100 else 0)))) ∧
  ((∀ a b : Word, (clarkeVal a b).1.val = a ∧ (clarkeVal a b).1.qs = false ∧
     ((clarkeVal a b).2.qs = false → let v := (clarkeVal a b).2.val.toInt
       let e := a.toInt + 2 * b.toInt
       (0 ≤ e → 0 ≤ v ∧ 3 * (2 * v - 1) ^ 2 * (if v = 0 then 0 else 1) ≤ 4 * e ^ 2 ∧ 4 * e ^ 2 < 3 * (2 * v + 1) ^ 2) ∧
       (e ≤ 0 → v ≤ 0 ∧ 3 * (2 * v + 1) ^ 2 * (if v = 0 then 0 else 1) ≤ 4 * e ^ 2 ∧ 4 * e ^ 2 < 3 * (2 * v - 1) ^ 2))) ∧
   (∀ a b c : Word, (clarke3Val a b c).1.qs = false → let v := (clarke3Val a b c).1.val.toInt
     let e := 2 * a.toInt - b.toInt - c.toInt
     2 * e - 3 < 6 * v ∧ 6 * v ≤ 2 * e + 3) ∧
   sincosVal 0 = (0, 0x7FFFFFFF) ∧ sincosVal 0x40000000 = (0x7FFFFFFF, 0) ∧ sincosVal 0x80000000 = (0, 0x80000000) ∧
   sincosVal 0xC0000000 = (0x80000000, 0))

/-- R136: after a step of PROF without FREEZE the speed keeps its limit, the position does not pass the target, and unless the
step arrives the acceleration keeps its limit and its change keeps JMAX. The limits held before the step are premises. Readings
and choices of the model's own that it rests on: log entry 46. -/
def Obligations.ProfLimits : Prop :=
  ∀ (pos vel acc vmax amax jmax t : Int), 0 < vmax → 0 < amax → 0 < jmax → vel.natAbs ≤ vmax.toNat → acc.natAbs ≤ amax.toNat →
    let r := profVal pos vel acc vmax amax jmax t
    r.vel.natAbs ≤ vmax.toNat ∧ 0 ≤ (t - pos).sign * (t - r.pos).sign ∧
    (r.done = true → r.pos = t ∧ r.vel = 0 ∧ r.acc = 0) ∧
    (r.done = false → r.acc.natAbs ≤ amax.toNat ∧ (r.acc - acc).natAbs ≤ jmax.toNat ∧ r.pos = pos + r.vel)

/-- PLLSTEP and PROF (R133 to R135) on a record in the core's own data memory, outside a speculative part, descriptors and the
areas of closed contexts other than the running one's block: the words of the record that the pseudocode changes, and the
results. Readings and choices of the model's own that it rests on: log entries 46 and 114. -/
def Obligations.RecordResults : Prop :=
  ∀ (s u : State) (x : Issue) (f : Rrr) (n : Fin 8),
    let c := u.core x.core
    let a := (gReg c f.s2.toNat).toNat
    let e := gReg c f.s1.toNat
    let w := fun k => u.memWord (a + 4 * k)
    let p := pllVal (w 0) (w 2) (w 3) (w 4) (w 5) (w 6) (w 7) e
    let r := profVal (w 0).toInt (w 1).toInt (w 2).toInt (w 3).toInt (w 4).toInt (w 5).toInt e.toInt
    let rest := fun (t : State) => t = { u with cores := t.cores, mem := t.mem } ∧ ∀ j, j < a ∨ a + 32 ≤ j → t.byte j = u.byte j
    x.core.val = n.val → memAt a = some (.rcData n) → a % 32 = 0 → u.marked a = false → u.marked (a + 8) = false →
    u.marked (a + 16) = false → u.marked (a + 24) = false → c.region ≠ .spec →
    (∀ k < 8, u.queueAt (a + 4 * k) = none ∧ descCtx (a + 4 * k) = none ∧ (u.ownedBy n ((a + 4 * k) % 0x100000) = none ∨
      ∃ m, u.ownedBy n ((a + 4 * k) % 0x100000) = some (m, true) ∧ u.isRunning m = true)) →
    (Executes s u x (insnRrr .pllstep f) → (w 6).toInt ≤ (w 7).toInt → ∃ t, exec (.pllstep x f) s = .next t ∧ rest t ∧
      t.memWord a = p.theta ∧ t.memWord (a + 4) = p.omega ∧ t.memWord (a + 8) = p.int ∧
      (∀ k, 3 ≤ k → k < 8 → t.memWord (a + 4 * k) = w k) ∧
      CoreLeft u t x.core ((((nextRegs c).setG f.d.toNat p.theta).setG (f.d.toNat + 1) p.omega).orCsr 0x011
        (if p.qs then 0x100 else 0))) ∧
    (Executes s u x (insnRrr .prof f) → 0 < (w 3).toInt → 0 < (w 4).toInt → 0 < (w 5).toInt → (w 6).toNat < 4 → w 7 = 0 →
      ((w 6).getLsbD 1 = true → ∃ t, exec (.prof x f) s = .next t ∧ Leaves u t x.core ((nextRegs c).setG f.d.toNat (w 0))) ∧
      ((w 6).getLsbD 1 = false → ∃ t, exec (.prof x f) s = .next t ∧ rest t ∧ t.memWord a = BitVec.ofInt 32 r.pos ∧
        t.memWord (a + 4) = BitVec.ofInt 32 r.vel ∧ t.memWord (a + 8) = BitVec.ofInt 32 r.acc ∧
        (∀ k, 3 ≤ k → k < 6 → t.memWord (a + 4 * k) = w k) ∧ t.memWord (a + 24) = BitVec.ofNat 32 r.done.toNat ∧
        t.memWord (a + 28) = 0 ∧ CoreLeft u t x.core ((nextRegs c).setG f.d.toNat (BitVec.ofInt 32 r.pos))))

/-- The queue instructions (R83, R84, R615), while the clock of the queues does not stand still: QSTAT's counts; the codes that
are returned before the buffer is looked at, with the queue unchanged; a push that is accepted puts the message, taken from
on-chip memory, at the tail; and a pop of a message that fits takes it from the head into on-chip memory. Readings and choices
of the model's own that it rests on: log entries 40, 41 and 111. -/
def Obligations.QueueResults : Prop :=
  ∀ (s u : State) (x : Issue) (f : Rrr),
    let c := u.core x.core
    let w := gReg c f.s2.toNat
    let q := w.toNat % 32
    let len := w.toNat / 256 % 512
    let m := masterOf x.core
    x.core.val ≠ 10 → c.region ≠ .spec → u.pdStill 3 = false →
    (Executes s u x (insnRrr .qstat f) → ∃ t v, exec (.qstat x f) s = .next t ∧
      Leaves u t x.core ((nextRegs c).setG f.d.toNat v) ∧
      (u.mayPush m q = false → u.mayPop m q = false → v = 0) ∧
      (u.pdRun 3 = true → u.qOn q = true → u.mayPush m q = true ∨ u.mayPop m q = true → (u.msgs q).length ≤ 256 →
        u.get (R.QUEUE_CFG_DEPTH q) ≤ 256 →
        v.toNat % 512 = (u.msgs q).length ∧ v.toNat / 65536 = u.get (R.QUEUE_CFG_DEPTH q) - (u.msgs q).length)) ∧
    (∀ r ∈ [(Instr.qpush x f, Op.qpush, 0), (.qpop x f, .qpop, 1)], Executes s u x (insnRrr r.2.1 f) →
      (gReg c f.s1.toNat).toNat % 4 = 0 → (xlate x.core c r.2.2 (gReg c f.s1.toNat).toNat).1 = 0 →
      (w &&& 0xFFFE00E0 ≠ 0 ∨ len = 0 ∨ 256 < len →
        ∃ t, exec r.1 s = .next t ∧ Leaves u t x.core ((nextRegs c).setG f.d.toNat 0x06)) ∧
      (w &&& 0xFFFE00E0 = 0 → 0 < len → len ≤ 256 → u.pdRun 3 = true →
        (if r.2.2 = 0 then u.mayPush m q else u.mayPop m q) = false →
        ∃ t, exec r.1 s = .next t ∧ Leaves u t x.core ((nextRegs c).setG f.d.toNat
          (BitVec.ofNat 32 (0x05 + 256 * (if r.2.2 = 0 then len else 0)))))) ∧
    (Executes s u x (insnRrr .qpush f) → bitAt (csrOf c 0) 7 = false → (gReg c f.s1.toNat).toNat % 4 = 0 →
      w &&& 0xFFFE00E0 = 0 → 0 < len → len ≤ u.esize q → len ≤ 256 → u.pdRun 3 = true → u.qOn q = true →
      u.mayPush m q = true → (u.msgs q).length < u.get (R.QUEUE_CFG_DEPTH q) →
      (∀ j < len, memAt ((gReg c f.s1.toNat).toNat + j) = some .shared ∧ u.marked ((gReg c f.s1.toNat).toNat + j) = false) →
      ∃ t, exec (.qpush x f) s = .next t ∧ (t.core x.core).pc = c.pc + 8 ∧
        (∀ j, gReg (t.core x.core) j = if j = f.d.toNat ∧ j ≠ 0 then BitVec.ofNat 32 (256 * len) else gReg c j) ∧
        t.msgs q = u.msgs q ++ [u.bytes (gReg c f.s1.toNat).toNat len]) ∧
    (∀ (m0 : List Byte) (l : List (List Byte)), let va := (gReg c f.s1.toNat).toNat
      Executes s u x (insnRrr .qpop f) → bitAt (csrOf c 0) 7 = false → va % 4 = 0 → w &&& 0xFFFE00E0 = 0 → 0 < len → len ≤ 256 →
      u.pdRun 3 = true → u.qOn q = true → u.mayPop m q = true → u.msgs q = m0 :: l → m0.length ≤ len → m0 ≠ [] →
      (∀ j < m0.length, memAt (va + j) = some .shared ∧ u.marked (va + j) = false ∧ u.queueAt ((va + j) / 4 * 4) = none) →
      ∃ t, exec (.qpop x f) s = .next t ∧ (t.core x.core).pc = c.pc + 8 ∧ t.msgs q = l ∧
        (∀ j, gReg (t.core x.core) j = if j = f.d.toNat ∧ j ≠ 0 then BitVec.ofNat 32 (256 * m0.length) else gReg c j) ∧
        (∀ j < m0.length, t.byte (va + j) = m0.getD j 0) ∧ ∀ a, a < va ∨ va + m0.length ≤ a → t.byte a = u.byte a)

/-! ### Clocks, time, registers and the host -/

/-- A loss (R464, R465): the flag stands, the synthesizer is neither locked nor stable, its consumers run on BYPCLK, and where
they did not before, every output bound to one of its islands has INH. That is so while R45 is met. Lock and return (R462,
R466, R467, R459): a synthesizer that is enabled and waits for no reference locks; once stable its consumers return from BYPCLK
unless forced bypass holds them, when an update was in progress, AUTORES is 1 or RESUME waits. Commands to a synthesizer (R467,
R469, R470): UPD with dividers outside the limits, or during an update, sets CFE and changes nothing else; else consumers go to
BYPCLK and the shadow dividers become the active ones. FBYP holds consumers on BYPCLK until RESUME. An update that is not
stable in 5 ms ends with TMO. While PD3 does not run no command has an effect. A REFCLK measured more than 2 % off its nominal
value is lost (R464). A phase-detector cycle of the modulator (R461) keeps the divider within N - 3 to N + 4 and lets the
fraction and the dither through, but for differences of the later carries, which sum to nothing. Readings and choices of the
model's own that it rests on: log entries 12, 105, 124 and 131. -/
def Obligations.ClockCommands : Prop :=
  (∀ s : State,
     (∀ n : Fin 4, s.r45 = true ∨ s.bypassed n = true → Does (.lossOfLock n) s fun t =>
       t.on (R.CLK_SYN_STAT_LOL n) = true ∧ t.on (R.CLK_SYN_STAT_LOCK n) = false ∧ t.on (R.CLK_SYN_STAT_STABLE n) = false ∧
       t.on (R.CLK_SYN_STAT_BYP n) = true ∧ t.on (R.CLK_SYN_STAT_FBH n) = s.on (R.CLK_SYN_STAT_FBH n) ∧
       (s.bypassed n = false → ∀ k ∈ synIslands n, ∀ c ∈ s.boundTo k, t.on (chInh c) = true) ∧
       KeepsRest [.SYSCTL, .CLK, .TIME, .BATTEN, .EAVES, .THATCH] s t) ∧
     (∀ lref, s.r45 = true ∨ (∀ n ∈ s.refUsers lref, s.bypassed n = true) → Does (.lossOfReference lref) s fun t =>
       (∀ n ∈ s.refUsers lref, t.on (R.CLK_SYN_STAT_LOR n) = true ∧ t.on (R.CLK_SYN_STAT_LOCK n) = false ∧
         t.on (R.CLK_SYN_STAT_STABLE n) = false ∧ t.on (R.CLK_SYN_STAT_BYP n) = true ∧ (t.syn n).waitRef = true) ∧
       (∀ n < 4, n ∉ s.refUsers lref → t.rd (R.CLK_SYN_STAT n) = s.rd (R.CLK_SYN_STAT n)) ∧
       (lref = false → t.on R.CLK_BYP_VLD = false ∧ t.on R.TIME_STAT_TSYN = false) ∧
       KeepsRest [.SYSCTL, .CLK, .TIME, .BATTEN, .EAVES, .THATCH] s t)) ∧
  (∀ (s : State) (n : Fin 4),
     Does (.synthLock n) s (fun t => OnlyRegs [R.CLK_SYN_STAT n] s { t with timers := s.timers } ∧
       (t.on (R.CLK_SYN_STAT_LOCK n) = true ↔
         s.on (R.CLK_SYN_STAT_LOCK n) = true ∨ (s.on (R.CLK_SYN_CFG_EN n) = true ∧ (s.syn n).waitRef = false)) ∧
       t.timerAt (.locked n) = if s.on (R.CLK_SYN_STAT_LOCK n) = false ∧ t.on (R.CLK_SYN_STAT_LOCK n) = true then some s.upNs
         else s.timerAt (.locked n)) ∧
     (s.lockStood n = false → Does (.synthStable n) s fun t => t = s) ∧
     (s.lockStood n = true → Does (.synthStable n) s fun t =>
       t.on (R.CLK_SYN_STAT_STABLE n) = true ∧ t.on (R.CLK_SYN_STAT_UPDP n) = false ∧
       (t.on (R.CLK_SYN_STAT_BYP n) = true ↔ s.on (R.CLK_SYN_STAT_BYP n) = true ∧ (s.on (R.CLK_SYN_STAT_FBH n) = true ∨
         (s.on (R.CLK_SYN_STAT_UPDP n) = false ∧ s.on (R.CLK_SYN_CFG_AUTORES n) = false ∧ (s.syn n).resumeHeld = false))) ∧
       KeepsRest [.SYSCTL, .CLK, .TIME, .EAVES, .THATCH] s t) ∧
     (∀ lref, Does (.referenceReturn lref) s fun t => t = { s with syns := t.syns } ∧
       (∀ k ∈ s.refUsers lref, (t.syn k).waitRef = false) ∧ ∀ k, k ∉ s.refUsers lref → t.syn k = s.syn k) ∧
     (s.refLost = true → ∀ byp ref, exec (.bypclkMeasure byp ref) s = .next s) ∧
     (s.refLost = false → ∀ byp ref : BitVec 16, let nom := s.get R.CLK_REF_NOM
       let near := 98 * nom ≤ 100 * ref.toNat ∧ 100 * ref.toNat ≤ 102 * nom
       (near → Does (.bypclkMeasure byp ref) s fun t => OnlyRegs [R.CLK_BYP, R.CLK_REF] s t ∧
         t.get R.CLK_BYP_MEAS = byp.toNat ∧ t.on R.CLK_BYP_VLD = true ∧ t.get R.CLK_REF_MEAS = ref.toNat ∧
         t.get R.CLK_REF_NOM = s.get R.CLK_REF_NOM) ∧
       (¬ near → exec (.bypclkMeasure byp ref) s = exec (.lossOfReference false) (s.bypMeasure byp.toNat ref.toNat)))) ∧
  (∀ (s : State) (n : Fin 4),
     let d := s.rd (R.CLK_SYN_DIV n)
     let ok := dividersOk n (s.fref n) (fieldOf d 30 28 + 1) (fieldOf d 9 0) (s.get (R.CLK_SYN_FRAC_F n)) (fieldOf d 25 20)
     (s.pdRun 3 = false → ∀ c ∈ [Instr.upd n, .fbyp n, .resume n], exec c s = .next s) ∧
     (s.pdRun 3 = true →
       (s.on (R.CLK_SYN_STAT_UPDP n) = true ∨ ok = false → Does (.upd n) s fun t =>
         OnlyRegs [R.CLK_SYN_STAT n] s t ∧ t.on (R.CLK_SYN_STAT_CFE n) = true) ∧
       (s.on (R.CLK_SYN_STAT_UPDP n) = false → ok = true → Does (.upd n) s fun t =>
         t.rd (R.CLK_SYN_ADIV n) = d ∧ (t.syn n).frac = s.get (R.CLK_SYN_FRAC_F n) ∧
         (t.syn n).lfsr = seedOf (s.get (R.CLK_SYN_DITH_SEED n)) ∧ t.timerAt (.updated n) = some s.upNs ∧
         t.on (R.CLK_SYN_STAT_UPDP n) = true ∧ t.on (R.CLK_SYN_STAT_BYP n) = true ∧ t.on (R.CLK_SYN_STAT_LOCK n) = false ∧
         t.on (R.CLK_SYN_STAT_STABLE n) = false ∧ KeepsRest [.SYSCTL, .CLK, .TIME, .BATTEN, .EAVES, .THATCH] s t) ∧
       Does (.fbyp n) s (fun t => t.on (R.CLK_SYN_STAT_FBH n) = true ∧ t.on (R.CLK_SYN_STAT_BYP n) = true ∧
         t.rd (R.CLK_SYN_ADIV n) = s.rd (R.CLK_SYN_ADIV n) ∧
         KeepsRest [.SYSCTL, .CLK, .TIME, .BATTEN, .EAVES, .THATCH] s t) ∧
       Does (.resume n) s fun t => t.on (R.CLK_SYN_STAT_FBH n) = false ∧
         (t.on (R.CLK_SYN_STAT_BYP n) = true ↔
           s.on (R.CLK_SYN_STAT_BYP n) = true ∧ s.on (R.CLK_SYN_STAT_STABLE n) = false) ∧
         (s.on (R.CLK_SYN_STAT_BYP n) = true → s.on (R.CLK_SYN_STAT_STABLE n) = false → (t.syn n).resumeHeld = true) ∧
         KeepsRest [.SYSCTL, .CLK, .TIME, .EAVES, .THATCH] s t) ∧
     (s.on (R.CLK_SYN_STAT_UPDP n) = true → s.on (R.CLK_SYN_STAT_STABLE n) = false → s.past (.updated n) 5000000 = true →
       Does (.updateTimeout n) s fun t =>
       t.on (R.CLK_SYN_STAT_UPDP n) = false ∧ t.on (R.CLK_SYN_STAT_TMO n) = true ∧
       KeepsRest [.CLK, .EAVES, .THATCH] s t) ∧
     (s.on (R.CLK_SYN_STAT_UPDP n) = false ∨ s.on (R.CLK_SYN_STAT_STABLE n) = true ∨ s.past (.updated n) 5000000 = false →
       exec (.updateTimeout n) s = .next s)) ∧
  (∀ (x : SynSt) (d : Int), let y := x.cycle d
     (-3 ≤ y.ofs ∧ y.ofs ≤ 4) ∧ y.frac = x.frac ∧
     y.lfsr = (x.lfsr <<< 1) ||| (if (x.lfsr.getLsbD 23 ^^ x.lfsr.getLsbD 22 ^^ x.lfsr.getLsbD 21 ^^ x.lfsr.getLsbD 16) then 1#24 else 0#24) ∧
     (0 ≤ (x.acc.1 : Int) + x.frac + d → (x.acc.1 : Int) + x.frac + d < 2 ^ 25 → x.acc.2.1 < 2 ^ 24 → x.acc.2.2 < 2 ^ 24 →
       (∀ k ∈ [x.carry.1, x.carry.2.1, x.carry.2.2], k = 0 ∨ k = 1) →
       (2 ^ 24 * y.ofs : Int) + y.acc.1 =
         x.acc.1 + x.frac + d + 2 ^ 24 * ((y.carry.1 - x.carry.1) + (y.carry.2.1 - 2 * x.carry.2.1 + x.carry.2.2))))

/-- The time base (R472, R475, R476, R478), while PD3 runs: a step before acquisition adds the signed offset modulo 2^48
seconds, acquires, counts and sets STPD; after it a step is refused with STR. UNACQ leaves acquisition. SYNC asserts TSYN when
acquired and not on BYPCLK; HOLD seconds without another clear TSYN and set SYNL. A refresh brings the follower of every
running island to L. Readings and choices of the model's own that it rests on: log entry 14. -/
def Obligations.TimeCommands : Prop :=
  ∀ s : State, s.pdRun 3 = true →
    (s.on R.TIME_STAT_TSTATE = true → Does .timeStep s fun t => OnlyRegs [R.TIME_STAT] s t ∧ t.on R.TIME_STAT_STR = true) ∧
    (s.on R.TIME_STAT_TSTATE = false → Does .timeStep s fun t =>
      (t.nowNs : Int) = ((s.nowNs : Int) + s.stepOffset) % (2 ^ 48 * 1000000000) ∧ t.time.ns < 1000000000 ∧
      t.time.frac = s.time.frac ∧ t.on R.TIME_STAT_TSTATE = true ∧ t.on R.TIME_STAT_STPD = true ∧
      t.get R.TIME_STAT_STEPCNT = (s.get R.TIME_STAT_STEPCNT + 1) % 4) ∧
    Does .unacq s (fun t => t.on R.TIME_STAT_TSTATE = false ∧ t.on R.TIME_STAT_TSYN = false ∧
      (s.on R.TIME_STAT_TSYN = true → t.on R.TIME_STAT_SYNL = true) ∧ t.time = s.time ∧
      KeepsRest [.TIME, .EAVES, .THATCH] s t) ∧
    Does .timeSync s (fun t => let taken := s.on R.TIME_STAT_TSTATE && !s.on R.TIME_STAT_BYPT
      OnlyRegs [R.TIME_STAT] s { t with timers := s.timers } ∧
      t.on R.TIME_STAT_TSYN = (s.on R.TIME_STAT_TSYN || taken) ∧
      t.timerAt .synced = if taken then some s.upNs else s.timerAt .synced) ∧
    (s.past .synced (max 1 (s.get R.TIME_CTRL_HOLD) * 1000000000) = false → exec .tsynHoldExpiry s = .next s) ∧
    (s.past .synced (max 1 (s.get R.TIME_CTRL_HOLD) * 1000000000) = true →
      Does .tsynHoldExpiry s fun t => t.on R.TIME_STAT_TSYN = false ∧
      (s.on R.TIME_STAT_TSYN = true → t.on R.TIME_STAT_SYNL = true) ∧ (s.on R.TIME_STAT_TSYN = false → t = s) ∧
      KeepsRest [.TIME, .EAVES, .THATCH] s t) ∧
    Does .followerRefresh s fun t => t = { s with time := t.time } ∧ t.nowNs = s.nowNs ∧
      ∀ k, (s.pdRun k = true → t.stamp k = t.stampL) ∧ (s.pdRun k = false → t.stamp k = s.stamp k)

/-- A write of a register by any master (R16, R17, R20, R36, R602). RW bits take the value, ones clear W1C bits, RO bits stay,
and an RWL field of an enabled owner stays with WLE where the value differs. An unassigned address ignores a write. While the
gates of a register's island are closed nothing is written. The host's access engine (R598, R600 to R602): a partial write of a
register is ignored with PWE; an access that FAULTs sets BERR and its address; an access to another island that takes longer is
held, with HELD and its address, and has its effect once, when the clock of a stopped island runs again; another access
meanwhile answers AGAIN; the repeat ends it; without a repeat it is released with RAB. Readings and choices of the model's own
that it rests on: log entries 18, 19, 97, 123 and 135. -/
def Obligations.HostAccesses : Prop :=
  (∀ (s : State) (m : Master) (v : Word) (be : BitVec 4) (x y : Bool), s.pdRun 3 = true →
     s.host.held = none ∨ m ≠ .host → be = 15 ∨ m ≠ .host → (x = false ∧ y = false) ∨ m ≠ .host →
     let W := fun a => Instr.registerWrite m (BitVec.ofNat 32 a) v be x y
     let Same := fun (t : State) => t = { s with regs := t.regs, host := t.host } ∧ t.host = { s.host with hst := t.host.hst, hd := t.host.hd, woken := t.host.woken } ∧
       (m = .host → t.host.hst = 1) ∧ (m ≠ .host → t.host.hst = s.host.hst ∧ t.host.hd = s.host.hd)
     (∀ d < 11, Does (W (R.HOST_IEN d)) s fun t => Same t ∧ t.rd (R.HOST_IEN d) = (s.rd (R.HOST_IEN d) &&& 0xFF000000#32) ||| (v &&& 0x00FFFFFF#32) ∧
       ∀ a, a ≠ R.HOST_IEN d → t.rd a = s.rd a) ∧
     Does (W R.HOST_DBELL) s (fun t => Same t ∧ t.rd R.HOST_DBELL = s.rd R.HOST_DBELL &&& ~~~ (v &&& 0xF#32) ∧
       ∀ a, a ≠ R.HOST_DBELL → t.rd a = s.rd a) ∧
     (∀ n : Fin 4, Does (W (R.CLK_SYN_ADIV n)) s fun t => Same t ∧ ∀ a, t.rd a = s.rd a) ∧
     (∀ q < 32, Does (W (R.QUEUE_BASE q)) s fun t => Same t ∧
       (s.qOn q = false → t.rd (R.QUEUE_BASE q) = (s.rd (R.QUEUE_BASE q) &&& 3#32) ||| (v &&& 0xFFFFFFFC#32) ∧
         ∀ a, a ≠ R.QUEUE_BASE q → t.rd a = s.rd a) ∧
       (s.qOn q = true → (∀ a, a ≠ R.QUEUE_STAT q → t.rd a = s.rd a) ∧ t.on (R.QUEUE_STAT_WLE q) =
         (s.on (R.QUEUE_STAT_WLE q) || decide (s.rd (R.QUEUE_BASE q) &&& 0xFFFFFFFC#32 ≠ v &&& 0xFFFFFFFC#32)))) ∧
     (∀ a < 2 ^ 32, a % 4 = 0 → memAt a = none → regAt a = none → Does (W a) s fun t => Same t ∧ ∀ k, t.rd k = s.rd k) ∧
     (m ≠ .host → ∀ a < 2 ^ 32, a % 4 = 0 → memAt a = none → s.pdOpen (pdOfReg a) = false → exec (W a) s = .next s)) ∧
  (∀ (s : State) (v : Word) (be : BitVec 4) (d : Nat), s.pdRun 3 = true → d < 32 →
     let a := R.GATE_LEG_CFG d
     let W := fun k (b : BitVec 4) x y => Instr.registerWrite .host (BitVec.ofNat 32 k) v b x y
     let past := s.past .hold (max 1 (s.get R.HOST_CFG_HOLDTO) * 1000)
     (s.host.held = none → be ≠ 15 → Does (W (R.HOST_IEN 0) be false false) s fun t => t.on R.HOST_STAT_PWE = true ∧
       t.host.hst = 1 ∧ ∀ k, k ≠ R.HOST_STAT → t.rd k = s.rd k) ∧
     (s.host.held = none → s.pdOpen 12 = false → Does (W a 15 false false) s fun t => t.host.hst = 3 ∧ t.host.hd = 0 ∧
       t.on R.HOST_STAT_BERR = true ∧ t.rd R.HOST_EADDR = BitVec.ofNat 32 a ∧
       ∀ k, k ≠ R.HOST_STAT → k ≠ R.HOST_EADDR → t.rd k = s.rd k) ∧
     (s.host.held = none → Does (W a 15 true false) s fun t => t.host.hst = 2 ∧ t.on R.HOST_STAT_HELD = true ∧
       t.rd R.HOST_HADDR = BitVec.ofNat 32 a ∧ ∃ h, t.host.held = some h ∧ h.addr = a ∧ h.data = v ∧ h.be = 15 ∧
         h.write = true ∧ h.fault = !s.pdOpen 12 ∧ h.waits = s.pdStill 12) ∧
     (∀ h, s.host.held = some h → h.waits = false → h.drop = false →
       (h.addr ≠ a → Does (W a 15 false false) s fun t => t.host.hst = 2 ∧ t.host.held = some h ∧ t.regs = s.regs ∧
         t.mem = s.mem) ∧
       (h.addr = a → h.write = true → h.be = 15 → h.data = v →
         (Does (W a 15 true false) s fun t => t.host.hst = 2 ∧ t.host.held = some h ∧ t.regs = s.regs ∧ t.mem = s.mem) ∧
         (Does (W a 15 false false) s fun t => t.host.hst = (if h.fault then 3 else 1) ∧ t.host.held = none ∧
           t.on R.HOST_STAT_HELD = false ∧ t.rd a = s.rd a ∧ t.mem = s.mem)) ∧
       (past = false → exec .heldAccessTimeout s = .next s) ∧
       (past = true → Does .heldAccessTimeout s fun t => t.host.held = none ∧ t.on R.HOST_STAT_HELD = false ∧
         t.on R.HOST_STAT_RAB = true ∧ OnlyRegs [R.HOST_STAT] { s with host := t.host } t)) ∧
     (s.host.held = none → exec .heldAccessTimeout s = .next s) ∧
     (s.host.held = none → s.pdOpen 0 = true → ∀ slow, Does (W R.EAVES_CFG 15 slow false) s fun t => t.host.hst = 2 ∧
       t.on R.HOST_STAT_HELD = true ∧ t.rd R.HOST_HADDR = BitVec.ofNat 32 R.EAVES_CFG ∧
       ∃ h, t.host.held = some h ∧ h.addr = R.EAVES_CFG ∧ h.data = v ∧ h.fault = false))

/-- The SPI target, the latch words and the doorbells (R605, R607, R612), while PD3 runs. Queues as the host sees them (R83,
R84, R613, R615, R616, R618), while PD3 runs: each operation leaves its code and length in QUEUE_HRES. Readings and choices of
the model's own that it rests on: log entries 17 and 41. -/
def Obligations.HostQueues : Prop :=
  (∀ s : State, s.pdRun 3 = true →
     (s.on R.HOST_CFG_SPIEN = true →
       (∀ (d : Nat) (v : Word), d < 11 → Does (.spiWrite (BitVec.ofNat 32 (R.HOST_IEN d)) [(v, false)]) s fun t =>
         t.rd (R.HOST_IEN d) = (s.rd (R.HOST_IEN d) &&& 0xFF000000#32) ||| (v &&& 0x00FFFFFF#32) ∧ t.host.spiFault = false ∧ ∀ a, a ≠ R.HOST_IEN d → t.rd a = s.rd a) ∧
       (∀ (d w : Nat), d < 11 → w < 64 → Does (.spiRead (BitVec.ofNat 32 (R.HOST_IEN d)) [w] []) s fun t => t.regs = s.regs ∧
         t.host.spdo = List.replicate w 0 ++ 0xA5 :: bytesBE 4 (s.rd (R.HOST_IEN d)).toNat) ∧
       (∀ busy, Does (.spiStatus 0x05 busy) s fun t => t.regs = s.regs ∧
         t.host.spdo = [BitVec.ofNat 8 (busy.toNat + 2 * s.host.spiFault.toNat)]) ∧
       (∀ (cmd : Byte) (busy : Bool), cmd ∉ [(0x02 : Byte), 0x05, 0x0B] → Does (.spiStatus cmd busy) s fun t =>
         t.on R.HOST_STAT_SPE = true ∧ t.host.spdo = [] ∧ ∀ a, a ≠ R.HOST_STAT → t.rd a = s.rd a)) ∧
     (s.on R.HOST_CFG_SPIEN = false → ∀ (a v : Word) (c : Byte) (b : Bool),
       ∀ x ∈ [Instr.spiWrite a [(v, b)], .spiRead a [0] [], .spiStatus c b], exec x s = .next s) ∧
     (∀ m, Does (.snapshotLatchRead m (BitVec.ofNat 32 R.TIME_NOW_NS)) s fun t => t.regs = s.regs ∧
       (∀ k < 4, tblGet (fun _ => 0) t.host.holds (holdKey m (R.TIME_NOW_NS + 4 * k)) = s.nowReg (R.TIME_NOW_NS + 4 * k)) ∧
       (m = .host → t.host.hst = 1 ∧ t.host.hd = BitVec.ofNat 32 s.time.ns)) ∧
     (∀ v, Does (.dbset v) s fun t => OnlyRegs [R.HOST_DBELL] s t ∧
       t.get R.HOST_DBELL_DB = s.get R.HOST_DBELL_DB ||| v.toNat)) ∧
  (∀ (s : State) (q : Fin 32), s.pdRun 3 = true →
     (∀ len : BitVec 9, 0 < len.toNat → len.toNat ≤ 256 →
       (s.mayPush .host q = false → Does (.hcmdPush q len) s fun t =>
         t.rd R.QUEUE_HRES = BitVec.ofNat 32 (5 + 256 * len.toNat) ∧ OnlyRegs [R.QUEUE_HRES] s t) ∧
       (s.mayPush .host q = true → s.qOn q = true → s.esize q < len.toNat → Does (.hcmdPush q len) s fun t =>
         t.rd R.QUEUE_HRES = BitVec.ofNat 32 (3 + 256 * len.toNat) ∧ t.on (R.QUEUE_STAT_TBE q) = true ∧
         OnlyRegs [R.QUEUE_HRES, R.QUEUE_STAT q] s t) ∧
       (s.mayPush .host q = true → s.qOn q = true → len.toNat ≤ s.esize q →
         s.get (R.QUEUE_CFG_DEPTH q) ≤ (s.msgs q).length → Does (.hcmdPush q len) s fun t =>
         t.rd R.QUEUE_HRES = BitVec.ofNat 32 (1 + 256 * len.toNat) ∧ t.on (R.QUEUE_STAT_FULLE q) = true ∧
         OnlyRegs [R.QUEUE_HRES, R.QUEUE_STAT q] s t) ∧
       (s.mayPush .host q = true → s.qOn q = true → len.toNat ≤ s.esize q →
         (s.msgs q).length < s.get (R.QUEUE_CFG_DEPTH q) → Does (.hcmdPush q len) s fun t =>
         t.rd R.QUEUE_HRES = BitVec.ofNat 32 (256 * len.toNat) ∧ t.msgs q = s.msgs q ++ [s.hbuf len.toNat] ∧
         t.get (R.QUEUE_STAT_OCC q) = ((s.msgs q).length + 1) % 512 ∧ ∀ k, k ≠ q.val → t.msgs k = s.msgs k)) ∧
     (∀ cap : BitVec 9, 0 < cap.toNat → cap.toNat ≤ 256 → s.mayPop .host q = true → s.qOn q = true →
       (s.msgs q = [] → Does (.hcmdPop q cap) s fun t => t.rd R.QUEUE_HRES = 2 ∧ OnlyRegs [R.QUEUE_HRES] s t) ∧
       (∀ x l, s.msgs q = x :: l → cap.toNat < x.length → Does (.hcmdPop q cap) s fun t =>
         t.rd R.QUEUE_HRES = BitVec.ofNat 32 (3 + 256 * x.length) ∧ t.msgs q = s.msgs q) ∧
       (∀ x l, s.msgs q = x :: l → x.length ≤ cap.toNat → Does (.hcmdPop q cap) s fun t =>
         t.rd R.QUEUE_HRES = BitVec.ofNat 32 (256 * x.length) ∧ t.msgs q = l ∧ t.hbuf x.length = x ∧ t.mem = s.mem)) ∧
     Does (.hcmdStat q) s (fun t => OnlyRegs [R.QUEUE_HRES] s t ∧ t.rd R.QUEUE_HRES =
       (if s.qOn q && (s.mayPush .host q || s.mayPop .host q) then
         BitVec.ofNat 32 ((s.msgs q).length + 65536 * (s.get (R.QUEUE_CFG_DEPTH q) - (s.msgs q).length)) else 0)) ∧
     (s.qOn q = false → s.qMayEnable q = true → Does (.queueEnable q) s fun t => t.qOn q = true ∧ t.msgs q = [] ∧
       t.get (R.QUEUE_STAT_OCC q) = 0 ∧ t.get (R.QUEUE_STAT_FREE q) = s.get (R.QUEUE_CFG_DEPTH q)) ∧
     (s.qOn q = false → s.qMayEnable q = false → Does (.queueEnable q) s fun t => t.on (R.QUEUE_STAT_CFE q) = true ∧
       OnlyRegs [R.QUEUE_STAT q] s t) ∧
     (s.qOn q = true → Does (.queueDisable q) s fun t => t.qOn q = false ∧ t.msgs q = [] ∧
       t.get (R.QUEUE_STAT_OCC q) = 0 ∧ t.get (R.QUEUE_STAT_FREE q) = 0 ∧
       (s.msgs q ≠ [] → t.on (R.QUEUE_STAT_DSC q) = true) ∧ KeepsRest [.QUEUE, .EAVES, .THATCH] s t))

/-! ### PWM generators, legs, sensing and DC stages -/

/-- Enable, disable, inhibit and stop (R219, R221, R234, R47), while PD12 runs and with no converter at work: the state machine
of R219, row by row. Readings and choices of the model's own that it rests on: log entries 61 and 126. -/
def Obligations.BattenStates : Prop :=
  ∀ s : State, s.pdRun 12 = true → (∀ k < 8, s.bcState k = 0) →
    let after := fun (st : Nat) => if st = 1 ∨ st = 4 then 0 else if st = 2 then 3 else st
    (∀ c : Chan, let st := s.get (chState c)
      (st = 0 → s.enableRefused c = true → Does (.channelEnable c) s fun t =>
        t.on (chEnr c) = true ∧ t.on (chEn c) = false ∧ t.get (chState c) = 0) ∧
      (st = 0 → s.enableRefused c = false → Does (.channelEnable c) s fun t =>
        t.on (chEn c) = true ∧ t.get (chState c) = if t.on (chInh c) then 4 else 1) ∧
      (st = 3 → Does (.channelEnable c) s fun t =>
        t.on (chEnr c) = true ∧ t.get (chState c) = 3 ∧ t.on (chEn c) = s.on (chEn c)) ∧
      (st = 1 ∨ st = 2 ∨ st = 4 → ∀ n, c = .dir n → Does (.channelEnable c) s fun t =>
        t.on (chEn c) = true ∧ t.get (chState c) = st) ∧
      Does (.channelDisable c) s (fun t => t.on (chEn c) = false ∧ t.get (chState c) = after st ∧
        (∀ n, c = .dir n → st = 2 → (t.bch n).len = false ∧ (t.bch n).sched = []) ∧
        (∀ m, c = .rem m → st = 2 → (t.brl m).driving = false) ∧ (∀ d, d ≠ c → t.rd (chStat d) = s.rd (chStat d)) ∧
        KeepsRest [.BATTEN] s t) ∧
      (st = 3 → s.pinsLow c = true → Does (.stopComplete c) s fun t => t.get (chState c) = (if s.on (chEn c) then 4 else 0) ∧
        (∀ n, c = .dir n → (t.bch n).lp = false ∧ (t.bch n).len = false) ∧ ∀ a, a ≠ chStat c → t.rd a = s.rd a) ∧
      (st ≠ 3 ∨ s.pinsLow c = false → exec (.stopComplete c) s = .next s) ∧
      Does (.inhReleaseMark c) s fun t => t.regs = s.regs ∧
        (t.inhMark c = true ↔ s.inhMark c = true ∨ (s.on (chInh c) = true ∧ s.inhBy c = 0))) ∧
    Does .battenDisall s (fun t => ∀ c, t.on (chEn c) = false ∧ t.get (chState c) = after (s.get (chState c))) ∧
    (∀ pd : Fin 16, 4 ≤ pd.val → s.pdState pd ≠ 2 → Does (.pulseInhibit pd) s fun t =>
      (∀ c ∈ s.boundTo pd, t.on (chInh c) = true ∧ (t.inhBy c).testBit pd.val = true ∧ t.on (chEn c) = s.on (chEn c) ∧
        t.get (chState c) = if s.get (chState c) = 1 then 4 else if s.get (chState c) = 2 then 3 else s.get (chState c)) ∧
      KeepsRest [.BATTEN] s t) ∧
    (∀ pd : Fin 16, pd.val < 4 ∨ s.pdState pd = 2 → exec (.pulseInhibit pd) s = .next s)

/-- Values, epochs and calibration (R194, R195, R197, R203 to R207, R223). A direct write of a value register is taken in OFF
and else discarded with WLE where it differs; the entries of an epoch become pending together, the last one of a register
counts, and PAIR follows R206; a calibration sets TAPS and DLF. Flashing's clock-loss removal fails PD12. Readings and choices
of the model's own that it rests on: log entries 60 and 126. -/
def Obligations.BattenValues : Prop :=
  ∀ s : State,
    (s.pdRun 12 = true →
      (∀ (c : Chan) (x : BattenVal) (v : Word) (off w : Nat), valReg c x = some (off, w) →
        (s.get (chState c) = 0 → Does (.battenValueWrite c x v) s fun t =>
          t.rd (chReg c off) = BitVec.ofNat 32 (v.toNat % 2 ^ w) ∧ tblGet (fun _ => none) (t.chPend c) off = none ∧
          ∀ a, a ≠ chReg c off → a ≠ chEpoch c → (x = .period → ∀ m < 144, a ≠ R.BATTEN_RL_STAT m) → t.rd a = s.rd a) ∧
        (s.get (chState c) ≠ 0 → s.rd (chReg c off) ≠ BitVec.ofNat 32 (v.toNat % 2 ^ w) →
          Does (.battenValueWrite c x v) s fun t => t.on (chWle c) = true ∧ OnlyRegs [chStat c] s t) ∧
        (s.get (chState c) ≠ 0 → s.rd (chReg c off) = BitVec.ofNat 32 (v.toNat % 2 ^ w) →
          exec (.battenValueWrite c x v) s = .next s)) ∧
      (∀ (src : Fin 9) (late : List Byte), s.epochsOf src = [] → exec (.epochVisible src late) s = .next s) ∧
      (∀ (src : Fin 9) (late : List Byte) (ep : Epoch) (l : List Epoch), s.epochsOf src = ep :: l →
        Does (.epochVisible src late) s fun t => t.epochsOf src = l ∧ KeepsRest [.BATTEN] s t ∧
          ∀ c : Chan, let es := entriesFor c ep.entries
            (∀ off, tblGet (fun _ => none) (t.chPend c) off = match (es.filter (fun e => e.1 = off)).getLast? with
              | some e => some e.2
              | none => tblGet (fun _ => none) (s.chPend c) off) ∧
            t.on (chPair c) = (if es.any (fun e => e.1 = 0x08) then es.any (fun e => e.1 = 0x0C)
              else if es.any (fun e => e.1 = 0x0C) && !ep.hold then false else s.on (chPair c)) ∧
            t.on (chBnd c) = (s.on (chBnd c) ||
              (!es.isEmpty && (late.map BitVec.toNat).contains (codeOfChan c)))) ∧
      (∀ (lock : Bool) (taps : BitVec 7),
        let good := lock && decide (56 ≤ taps.toNat) && decide (taps.toNat ≤ 72)
        (s.on R.BATTEN_CAL_CALDONE = true → exec (.calibrationDone lock taps) s = .next s) ∧
        (s.on R.BATTEN_CAL_CALDONE = false → Does (.calibrationDone lock taps) s fun t => t.on R.BATTEN_CAL_CALDONE = true ∧
          t.get R.BATTEN_CAL_TAPS = taps.toNat ∧ t.on R.BATTEN_CAL_DLF = !good ∧
          (good = false → t.on R.BATTEN_CAL_DLFE = true ∧ ∀ n < 48, (t.bch n).coarse = true)) ∧
        (s.on R.BATTEN_CFG_BGCAL = true → Does (.backgroundCalibration lock taps) s fun t =>
          t.on R.BATTEN_CAL_CALDONE = s.on R.BATTEN_CAL_CALDONE ∧ t.get R.BATTEN_CAL_TAPS = taps.toNat ∧
          t.on R.BATTEN_CAL_DLF = !good) ∧
        (s.on R.BATTEN_CFG_BGCAL = false → exec (.backgroundCalibration lock taps) s = .next s))) ∧
    (s.chUp false = true → s.bat.clkLoss = false → s.pdState 12 = 2 → Does .battenClockLoss s fun t =>
      t.bat.clkLoss = true ∧ t.pdRun 12 = false) ∧
    (s.chUp false = false ∨ s.bat.clkLoss = true → exec .battenClockLoss s = .next s)

/-- Periods (R203, R206, R216, R219), while PD12 runs, no SWAP is at its boundary or in its exchange and no converter is at
work: a reload counts, applies what is pending, starts an ARMED channel and a HELD one whose INH is marked for release; a
PERIOD without its duty sets PDX and clamps the duty. A release cycle hands the times over and keeps those of the period
before. Readings and choices of the model's own that it rests on: log entries 63, 64 and 126. -/
def Obligations.BattenPeriods : Prop :=
  ∀ s : State, s.pdRun 12 = true → s.swapping = false → (s.get R.CFGSET_STAT_STATE = 1 → s.atBoundary = false) →
    (∀ k < 8, s.bcState k = 0) →
    let has := fun (p : Tbl (Option Word)) o => (tblGet (fun _ => none) p o).isSome
    let due := fun (p : Tbl (Option Word)) o (old : Word) => match tblGet (fun _ => none) p o with
      | some v => v &&& 0x3FFFFF
      | none => old
    (∀ n : Fin 48, let c := Chan.dir n; let b := s.bch n
      Does (.reload n) s (fun t => t.get (R.BATTEN_CH_COUNT_PCNT n) = (s.get (R.BATTEN_CH_COUNT_PCNT n) + 1) % 65536 ∧
        t.get (chState c) = (if s.get (chState c) = 1 ∨ (s.get (chState c) = 4 ∧ b.mark = true) then 2
          else s.get (chState c)) ∧
        (t.on (chInh c) = (s.on (chInh c) && !(b.mark && decide (s.get (chState c) ≠ 3)))) ∧ (t.bch n).pend = [] ∧ (t.bch n).evReload = 0xFF ∧
        (t.bch n).start = s.stamp 12 ∧
        t.rd (R.BATTEN_CH_PHASE n) = due b.pend 0x10 (s.rd (R.BATTEN_CH_PHASE n)) ∧
        t.rd (R.BATTEN_CH_PERIOD n) = due b.pend 0x08 (s.rd (R.BATTEN_CH_PERIOD n)) ∧
        (has b.pend 0x08 = false ∨ s.on (chPair c) = true →
          t.rd (R.BATTEN_CH_DUTY n) = due b.pend 0x0C (s.rd (R.BATTEN_CH_DUTY n)) ∧
          t.on (R.BATTEN_CH_STAT_PDX n) = s.on (R.BATTEN_CH_STAT_PDX n)) ∧
        (has b.pend 0x08 = true → s.on (chPair c) = false → s.get (R.BATTEN_CH_CTRL_SYNCSRC n) ≠ 1 →
          t.on (R.BATTEN_CH_STAT_PDX n) = true ∧ t.dutyOf n ≤ t.ownPeriod n))) ∧
    (∀ m : Fin 144, let b := s.brl m
      s.rlMaster m < 48 → Does (.releaseCycle m) s fun t =>
        t.rd (R.BATTEN_RL_DUTY m) = due b.pend 0x0C (s.rd (R.BATTEN_RL_DUTY m)) ∧ (t.brl m).pend = [] ∧
        (t.brl m).prev = b.cur ∧ (t.brl m).per = s.perOf (s.rlMaster m) ∧ (t.brl m).evReload = 0xFF ∧
        (t.brl m).driving = decide (t.get (chState (.rem m)) = 2) ∧
        (s.get (chState (.rem m)) = 0 ∨ s.get (chState (.rem m)) = 3 →
          t.get (chState (.rem m)) = s.get (chState (.rem m)))) ∧
    (∀ m : Fin 144, 48 ≤ s.rlMaster m → Does (.releaseCycle m) s fun t => (t.brl m).prev = (s.brl m).prev)

/-- Edges, triggers and synchronisation (R200, R208 to R210, R213, R359), while PD12 runs. Readings and choices of the model's
own that it rests on: log entries 62 and 126. -/
def Obligations.BattenEdges : Prop :=
  ∀ (s : State) (n : Fin 48), s.pdRun 12 = true →
    let c := Chan.dir n
    let b := s.bch n
    let act := !s.on (chPol c)
    let st := s.get (chState c)
    (∀ w, b.trigAt = some w → Does (.samplingTrigger c) s fun t =>
      t.regs = s.regs ∧ (t.bch n).trig = w ∧ (t.bch n).trigAt = none ∧ (t.bch n).evSample = 0xFF) ∧
    (b.trigAt = none → exec (.samplingTrigger c) s = .next s) ∧
    (∀ m : Fin 144,
      ((s.brl m).trigs = [] → exec (.samplingTrigger (.rem m)) s = .next s) ∧
      (∀ w l, (s.brl m).trigs = w :: l → Does (.samplingTrigger (.rem m)) s fun t => t.regs = s.regs ∧
        (t.brl m).trig = w ∧ (t.brl m).trigs = l ∧ (t.brl m).evSample = 0xFF)) ∧
    (st = 2 → b.edge = none →
      (∀ x r, b.sched = x :: r → Does (.edgeSequence n) s fun t =>
        let dt := s.dtTo c b.coarse x.lv
        (t.bch n).len = false ∧ (t.bch n).lp = b.lp ∧ (t.bch n).edge = some ⟨x.lv, dt / 2, some dt, false⟩ ∧
        (t.bch n).lastTr = x.t ∧ (t.bch n).sched = r ∧ (x.nom = true → t.on (R.BATTEN_CH_STAT_CTMAX n) = true) ∧
        ((t.leg n).arm.isSome = s.measures n) ∧ KeepsRest [.BATTEN] s t) ∧
      (b.sched = [] → b.starting = true → Does (.edgeSequence n) s fun t =>
        (t.bch n).len = true ∧ (t.bch n).lp = b.lp ∧ (t.bch n).starting = false ∧ t.regs = s.regs) ∧
      (b.sched = [] → b.starting = false → exec (.edgeSequence n) s = .next s)) ∧
    (∀ e, b.edge = some e →
      (st = 2 → e.moved = false → Does (.edgeSequence n) s fun t => (t.bch n).lp = e.lv ∧ (t.bch n).len = b.len ∧
        (t.bch n).edge = (if e.rise.isSome then some { e with moved := true } else none) ∧ t.regs = s.regs) ∧
      (st = 2 → e.moved = true → Does (.edgeSequence n) s fun t => (t.bch n).len = true ∧ (t.bch n).lp = b.lp ∧
        (t.bch n).edge = none ∧ (t.bch n).starting = false ∧ t.regs = s.regs) ∧
      (st = 3 → e.moved = false → Does (.edgeSequence n) s fun t => (t.bch n).lp = e.lv ∧ (t.bch n).len = b.len ∧
        ((t.bch n).edge = none ↔ e.lv = false) ∧ t.regs = s.regs) ∧
      (st ≠ 2 → st ≠ 3 ∨ e.moved = true → exec (.edgeSequence n) s = .next s)) ∧
    (st ≠ 2 → b.edge = none → exec (.edgeSequence n) s = .next s) ∧
    (∀ tick, let due := b.lastTr + ((s.dtTo c b.coarse b.lastLp + s.minPw c : Nat) : Int)
      let at' := ((tick * 64 : Nat) : Int) - b.begins % 64
      let ends := st = 2 ∧ s.get (chMode c) = 2 ∧ b.lastLp = act ∧ b.endBy ≠ 1 ∧ b.blank = false ∧
        s.on (R.CMP_STAT_OUT (2 * n)) = true ∧ (s.leg n).test ≠ 1
      (ends → Does (.pcmTermination n tick) s fun t =>
        (t.bch n).sched = [⟨max due at', !act, false⟩] ∧ (t.bch n).endBy = 1 ∧
        (at' < due → t.on (chMps c) = true) ∧ KeepsRest [.BATTEN] s t) ∧
      (¬ends → exec (.pcmTermination n tick) s = .next s)) ∧
    (∀ straddle, (b.blank = false → exec (.blankingEnd n straddle) s = .next s) ∧
      (b.blank = true → Does (.blankingEnd n straddle) s fun t => (t.bch n).blank = false ∧
        (s.on (R.CMP_STAT_OUT (2 * n)) = false → t.regs = s.regs) ∧
        (s.on (R.CMP_STAT_OUT (2 * n)) = true → t.on (R.CMP_STAT_LAT (2 * n)) = true ∧
          ((s.leg n).test ≠ 1 → s.get (chMode c) ≠ 2 → t.on (R.GATE_LEG_STAT_NTRIP n) = true)) ∧
        (s.on (R.CMP_STAT_OUT (2 * n)) = true → straddle = true → t.on (R.CMP_STAT_BND (2 * n)) = true))) ∧
    (∀ edge, let e := s.syncErr n edge
      let lim : Int := (s.get (R.BATTEN_CH_SYNC_SYNCLIM n) : Nat)
      (2 ≤ s.get (R.BATTEN_CH_CTRL_SYNCSRC n) → Does (.syncEdge n edge) s fun t =>
        (t.bch n).slip = max (-lim) (min lim e) ∧ (t.bch n).miss = 0 ∧
        (t.on (R.BATTEN_CH_STAT_SLK n) = true ↔ -lim ≤ e ∧ e ≤ lim) ∧ ∀ a, a ≠ chStat c → t.rd a = s.rd a) ∧
      (s.get (R.BATTEN_CH_CTRL_SYNCSRC n) < 2 → exec (.syncEdge n edge) s = .next s)) ∧
    (2 ≤ s.get (R.BATTEN_CH_CTRL_SYNCSRC n) ∧ 256 ≤ b.miss → Does (.slost n) s fun t =>
      t.on (R.BATTEN_CH_STAT_SLOST n) = true ∧ t.on (R.BATTEN_CH_STAT_SLK n) = false ∧
      (∀ k < 8, s.bcState k ≠ 0 → s.on (R.BOOST_BC_CFG_SYNC k) = true → s.bcLead k = n → t.on (R.BOOST_BC_STAT_SYL k) = true) ∧
      KeepsRest [.BATTEN, .BOOST, .EAVES, .THATCH] s t) ∧
    (¬(2 ≤ s.get (R.BATTEN_CH_CTRL_SYNCSRC n) ∧ 256 ≤ b.miss) → exec (.slost n) s = .next s)

/-- Measurement, strength-line frames and self-tests (R240, R245 to R251, R261 to R263), while PD12 runs. Readings and choices
of the model's own that it rests on: log entries 65, 66 and 127. -/
def Obligations.LegFrames : Prop :=
  ∀ s : State, s.pdRun 12 = true →
    (∀ (n : Fin 48) (off : Nat), let l := s.leg n
      (l.arm = none → exec (.edgeCrossing n off) s = .next s ∧ exec (.noedge n) s = .next s) ∧
      (∀ rise counts, l.arm = some (rise, counts) →
        let dt := s.dtTo (.dir n) (s.bch n).coarse rise
        let win := dt + s.get (R.GATE_LEG_CFG_TSWMAX n) * 4
        Does (.edgeCrossing n off) s (fun t =>
          (off * 4 < dt → t.on (if rise then R.GATE_LEG_SWT_NATU n else R.GATE_LEG_SWT_NATD n) = true ∧
            (t.leg n).arm = none ∧ (t.leg n).minSw = l.minSw) ∧
          (dt ≤ off * 4 → off * 4 < win → t.on (if rise then R.GATE_LEG_SWT_VU n else R.GATE_LEG_SWT_VD n) = true ∧
            t.get (if rise then R.GATE_LEG_SWT_SWU n else R.GATE_LEG_SWT_SWD n) = (off * 4 - dt) / 4 ∧
            (t.leg n).arm = none ∧ (counts = false → (t.leg n).minSw = l.minSw)) ∧
          (win ≤ off * 4 → t = s) ∧ ∀ a, a ≠ R.GATE_LEG_SWT n → t.rd a = s.rd a) ∧
        Does (.noedge n) s fun t => t.on (R.GATE_LEG_STAT_NOEDGE n) = true ∧ (t.leg n).arm = none ∧
          t.on (if rise then R.GATE_LEG_SWT_NATU n else R.GATE_LEG_SWT_NATD n) = false ∧
          OnlyRegs [R.GATE_LEG_STAT n, R.GATE_LEG_SWT n] s t)) ∧
    (∀ j : Fin 6,
      (s.on (R.GATE_SL_CFG_EN j) = false → exec (.normalFrame j) s = .next s ∧ exec (.urgentFrame j) s = .next s) ∧
      (s.on (R.GATE_SL_CFG_EN j) = true → (s.sl j).busy = true → Does (.normalFrame j) s fun t =>
        t.on (R.GATE_SL_STAT_SKIP j) = true ∧ OnlyRegs [R.GATE_SL_STAT j] s t) ∧
      (s.on (R.GATE_SL_CFG_EN j) = true → (s.sl j).busy = false → Does (.normalFrame j) s fun t =>
        t.sl j = ⟨((s.sl j).seq + 1) % 16, true,
          bitsMsb 8 0xA7 ++ bitsMsb 4 (s.sl j).seq ++ bitsMsb 4 0 ++ ((List.range 8).flatMap fun k => bitsMsb 4 (s.leg (8 * j + k)).code) ++
          bitsMsb 8 (crc8 (bitsMsb 4 (s.sl j).seq ++ bitsMsb 4 0 ++
            ((List.range 8).flatMap fun k => bitsMsb 4 (s.leg (8 * j + k)).code)))⟩ ∧
        ∀ k < 8, t.get (R.GATE_LEG_STAT_SENT (8 * j + k)) = (s.leg (8 * j + k)).code % 16) ∧
      (∀ slots : BitVec 16, (∀ k < 8, s.bcState k = 0) →
        ((s.sl j).busy = false → exec (.ackWindowEnd j slots) s = .next s) ∧
        ((s.sl j).busy = true → Does (.ackWindowEnd j slots) s fun t => (t.sl j).busy = false ∧ ∀ k < 8,
          let n := 8 * j.val + k
          let ack := slots.getLsbD (2 * k) && !slots.getLsbD (2 * k + 1)
          (ack = true → t.get (R.GATE_LEG_STAT_CODE n) = s.get (R.GATE_LEG_STAT_SENT n) ∧ (t.leg n).nak = 0 ∧
            (t.on (R.GATE_LEG_STAT_ACKPEND n) = true ↔ s.on (R.GATE_LEG_STAT_ACKPEND n) = true ∧
              s.get (R.GATE_LEG_STAT_SENT n) ≠ (s.leg n).code)) ∧
          (ack = false → s.get (R.BATTEN_CH_STAT_STATE n) = 0 → t.leg n = s.leg n) ∧
          (ack = false → s.get (R.BATTEN_CH_STAT_STATE n) ≠ 0 → (t.leg n).nak = (s.leg n).nak + 1 ∧
            ((s.leg n).nak + 1 = s.get (R.GATE_SL_CFG_NAKMAX j) → t.on (R.GATE_LEG_STAT_NAKF n) = true ∧
              (s.get (R.GATE_SL_CFG_NAKACT j) = 1 → t.on ⟨R.BATTEN_CH_CTRL n, 0, 0⟩ = false))))) ∧
      (s.on (R.GATE_SL_CFG_EN j) = true → (∃ k < 8, s.pstate (8 * j + k) = 1) → Does (.urgentFrame j) s fun t =>
        t.on (R.GATE_SL_STAT_URG j) = true ∧ (t.sl j).busy = false ∧ (t.sl j).line = urgentFrame (s.holdingMask j) ∧
        ∀ k < 8, s.pstate (8 * j + k) = 1 → (t.leg (8 * j + k)).named = true)) ∧
    (∀ n : Fin 48, ∀ p ∈ [(Instr.selftestShuntNormal n, 1), (Instr.selftestShuntHard n, 2), (Instr.selftestEdge n, 3)],
      Does p.1 s fun t =>
        (s.get (chState (.dir n)) = 0 → (s.leg n).test = 0 → (t.leg n).test = p.2 ∧ t.regs = s.regs) ∧
        (s.get (chState (.dir n)) ≠ 0 ∨ (s.leg n).test ≠ 0 → t.on (R.GATE_LEG_STAT_STR n) = true ∧
          OnlyRegs [R.GATE_LEG_STAT n] s t)) ∧
    (∀ k : Fin 16, Does (.winSelftest k) s fun t =>
      ((s.win k).test = none → (t.win k).test = some (s.on (R.GATE_WIN_ST_SEL k)) ∧ t.regs = s.regs) ∧
      ((s.win k).test ≠ none → t.on (R.GATE_WIN_ST_STR k) = true ∧ OnlyRegs [R.GATE_WIN_ST k] s t)) ∧
    (∀ (n : Fin 48) (u d : BitVec 10), (s.leg n).test ≠ 0 → Does (.selftestDone (.leg n) u d) s fun t =>
      let lo := if (s.leg n).test = 2 then 125 else 500
      let hi := if (s.leg n).test = 2 then 131 else 524
      (t.leg n).test = 0 ∧ t.on (R.GATE_LEG_STAT_STD n) = true ∧ t.get (R.GATE_LEG_STRES_UPC n) = u.toNat ∧
      t.get (R.GATE_LEG_STRES_DNC n) = d.toNat ∧ (t.on (R.GATE_LEG_STAT_STE n) = true ↔ s.on (R.GATE_LEG_STAT_STE n) = true ∨
        ¬(lo ≤ u.toNat ∧ u.toNat ≤ hi ∧ lo ≤ d.toNat ∧ d.toNat ≤ hi ∧ d.toNat ≤ u.toNat))) ∧
    (∀ (k : Fin 16) (u d : BitVec 10), (s.win k).test ≠ none → Does (.selftestDone (.win k) u d) s fun t =>
      (t.win k).test = none ∧ t.on (R.GATE_WIN_ST_STD k) = true ∧ t.get (R.GATE_WIN_ST_UPC k) = u.toNat ∧
      t.get (R.GATE_WIN_ST_DNC k) = d.toNat)

/-- Trips and re-enable (R253, R256, R257, R260), while PD12 runs: a leg whose latch is newly seen leaves CLEAR for HOLDING
where soft turn-off is possible, else for LATCHED, and is stamped; a group triggered by it takes GSD on each of its legs. A
re-enable clears a LATCHED leg whose shunt comparator is quiet and answers RES. Readings and choices of the model's own that it
rests on: log entry 127. -/
def Obligations.LegTrips : Prop :=
  ∀ s : State, s.pdRun 12 = true →
    let due := s.tripsDue false ++ s.tripsDue true
    let soft := fun (n : Nat) => s.on (R.GATE_LEG_CFG_SOFTEN n) && s.on (R.GATE_SL_CFG_EN (n / 8))
    let counts := fun (n : Nat) => s.on (R.GATE_LEG_STAT_GSD n) = false
    (due = [] → exec .tripLatch s = .next s) ∧
    (due ≠ [] → Does .tripLatch s fun t =>
      (∀ n ∈ due, t.pstate n = (if s.pstate n = 0 then (if soft n then 1 else 3) else s.pstate n) ∧
        t.on (R.GATE_LEG_STAT_SV n) = true ∧
        t.rd (R.GATE_LEG_TSTAMP n) = (if s.on (R.GATE_LEG_STAT_SV n) then s.rd (R.GATE_LEG_TSTAMP n) else s.stamp 12) ∧
        (s.pstate n = 0 → soft n = false → (t.leg n).padLen = false ∧ (t.leg n).padLp = false) ∧
        (s.pstate n = 0 → soft n = true → ((t.leg n).padLen, (t.leg n).padLp) = s.legPins n)) ∧
      (∀ g : Fin 16, s.on (R.GATE_GRP_HI_EN g) = true →
        (if s.on (R.GATE_GRP_HI_TRG g) then ∃ n ∈ due, counts n ∧ (s.grpMask g).testBit n = true
         else ∃ n ∈ due, ∃ k ∈ due, n ≠ k ∧ counts n ∧ counts k ∧ s.on (R.GATE_LEG_STAT_SV n) = false ∧
          s.on (R.GATE_LEG_STAT_SV k) = false ∧ (s.grpMask g).testBit n = true ∧ (s.grpMask g).testBit k = true) →
        t.on (R.GATE_GRP_STAT_GEV g) = true ∧ ∀ n < 48, (s.grpMask g).testBit n = true →
          t.on (R.GATE_LEG_STAT_GSD n) = true ∧
          t.pstate n = if s.pstate n = 0 then (if soft n then 1 else 3) else s.pstate n) ∧
      t.tripsDue false = [] ∧ t.tripsDue true = [] ∧
      KeepsRest [.GATE, .RIDGE, .EAVES, .THATCH] s t) ∧
    (∀ n : Fin 48,
      (s.pstate n = 1 ∧ (s.leg n).named = true → Does (.softTurnOff n) s fun t => t.pstate n = 2 ∧
        (t.leg n).padLen = false ∧ (t.leg n).padLp = false ∧ ∀ a, a ≠ R.GATE_LEG_STAT n → t.rd a = s.rd a) ∧
      (¬(s.pstate n = 1 ∧ (s.leg n).named = true) → exec (.softTurnOff n) s = .next s) ∧
      (s.pstate n = 2 → Does (.softholdExpiry n) s fun t => t.pstate n = 3 ∧ OnlyRegs [R.GATE_LEG_STAT n] s t) ∧
      (s.pstate n ≠ 2 → exec (.softholdExpiry n) s = .next s) ∧
      Does (.gateRe n) s fun t =>
        let ok := s.pstate n = 3 ∧ s.shuntQuiet n = true
        t.get (R.GATE_LEG_STAT_RES n) = (if s.pstate n = 0 then 4 else if s.pstate n = 3 then (if s.shuntQuiet n then 1 else 3)
          else 2) ∧
        (ok → t.pstate n = 0 ∧ t.on (R.GATE_LEG_STAT_NTRIP n) = false ∧ t.on (R.GATE_LEG_STAT_HTRIP n) = false ∧
          t.on (R.GATE_LEG_STAT_GSD n) = false ∧ (t.leg n).resume = true) ∧
        (¬ok → t.pstate n = s.pstate n ∧ t.on (R.GATE_LEG_STAT_NTRIP n) = s.on (R.GATE_LEG_STAT_NTRIP n) ∧
          t.on (R.GATE_LEG_STAT_HTRIP n) = s.on (R.GATE_LEG_STAT_HTRIP n) ∧ t.leg n = s.leg n) ∧
        (∀ k, k ≠ n.val → k < 48 → t.rd (R.GATE_LEG_STAT k) = s.rd (R.GATE_LEG_STAT k))) ∧
    (∀ g : Fin 16, Does (.groupRe g) s fun t => ∀ n < 48,
      ((s.grpMask g).testBit n = true → t.get (R.GATE_LEG_STAT_RES n) =
        (if s.pstate n = 0 then 4 else if s.pstate n = 3 then (if s.shuntQuiet n then 1 else 3) else 2) ∧
        t.pstate n = if s.pstate n = 3 ∧ s.shuntQuiet n = true then 0 else s.pstate n) ∧
      ((s.grpMask g).testBit n = false → t.rd (R.GATE_LEG_STAT n) = s.rd (R.GATE_LEG_STAT n)))

/-- Modulator clocks, filters, detectors and requests (R269 to R279), while PD13 runs: what one period of a clock's read-back
and one captured bit do, how a request selects its components, and when a part is presented. Readings and choices of the
model's own that it rests on: log entries 69, 71 and 128. -/
def Obligations.FrontInputs : Prop :=
  ∀ s : State, s.pdRun 13 = true →
    (∀ k : Fin 8,
      (∀ l, ∀ i ∈ [Instr.deadClock k l, .deadClockEnd k l],
        Does i s (KeepsRest [.MOD, .EAVES, .THATCH] s) ∧ (s.on (R.MOD_MCK_CFG_EN k) = false → exec i s = .next s)) ∧
      (∀ hi lo, ∀ i ∈ [Instr.deadClock k [(hi, lo)], .deadClockEnd k [(hi, lo)]], s.on (R.MOD_MCK_CFG_EN k) = true →
        let ok := hi && !lo
        let x := s.mck k
        Does i s fun t => t.on (R.MOD_MCK_CFG_PADOK k) = ok ∧
          t.mck k = (if ok then ⟨x.dead && decide (x.good < 3), min 4 (x.good + 1), 0⟩
            else ⟨x.dead || decide (3 ≤ x.bad), 0, min 4 (x.bad + 1)⟩) ∧
          (t.mckIsDead k = true → x.dead = false → t.on (R.MOD_MCK_CFG_DCKF k) = true) ∧
          ∀ n < 32, s.get (R.MOD_MD_CFG_CKSEL n) = k →
            (t.mckIsDead k = true → t.on (R.MOD_MD_STAT_DCKL n) = true) ∧
            (t.mckIsDead k = false → 4 ≤ (t.mck k).good → s.on (R.MOD_MD_CFG_EN n) = true →
              24 ≤ n ∨ s.on (R.MOD_MD_STAT_STL n) = true → t.on (R.MOD_MD_STAT_DCKL n) = false))) ∧
    (∀ (n : Fin 32) (rise : Word),
      let rows := fun bits => [Instr.stuckPattern n rise bits, .stuckPatternEnd n rise bits] ++
        (if h : n.val < 24 then [Instr.filterSettled ⟨n, h⟩ rise bits, .monitorOutput ⟨n, h⟩ rise bits,
          .frozenValue ⟨n, h⟩ rise bits, .frozenValueEnd ⟨n, h⟩ rise bits] else [])
      (∀ bits, ∀ i ∈ rows bits, Does i s (KeepsRest [.MOD, .EAVES, .THATCH] s) ∧
        (s.on (R.MOD_MD_CFG_EN n) = false → exec i s = .next s)) ∧
      (∀ b, ∀ i ∈ rows [b], s.on (R.MOD_MD_CFG_EN n) = true → Does i s fun t =>
        let x := s.md n
        let y := t.md n
        let v := filterVal (s.ordOf n false) (s.ratio n false) (sincSum (s.ordOf n false) (s.ratio n false) y.bits)
        let m := filterVal (s.ordOf n true) (s.ratio n true) (sincSum (s.ordOf n true) (s.ratio n true) y.bits)
        let near := match x.dec with | some u => s.within n u v | none => false
        y.bits = (b :: x.bits).take 1021 ∧ y.edges = x.edges + 1 ∧
        t.on (R.MOD_MD_STAT_STKL n) = stuckRuns y.runs (s.stuckN n) ∧
        (t.on (R.MOD_MD_STAT_STKL n) = true → s.on (R.MOD_MD_STAT_STKL n) = false → t.on (R.MOD_MD_STAT_STK n) = true) ∧
        (n.val < 24 → t.rd (R.MOD_MD_DATA n) = v ∧ y.outs = ((s.captureStamp n rise 0, v) :: x.outs).take 8 ∧
          (s.ordOf n false * (s.ratio n false - 1) + 1 ≤ y.edges → t.on (R.MOD_MD_STAT_STL n) = true) ∧
          (y.edges % s.ratio n true = 0 → t.rd (R.MOD_MD_MON n) = m ∧
            (t.on (R.MOD_MD_STAT_LIMF n) = true ↔ s.on (R.MOD_MD_STAT_LIMF n) = true ∨
              s.getS (R.MOD_MD_MLIM_HI n) < (m.extractLsb' 16 16).toInt ∨
              (m.extractLsb' 16 16).toInt < s.getS (R.MOD_MD_MLIM_LO n))) ∧
          (y.edges % s.ratio n true ≠ 0 → t.rd (R.MOD_MD_MON n) = s.rd (R.MOD_MD_MON n)) ∧
          (y.edges % s.ratio n false = 0 → y.dec = some v ∧ y.still = (if near then x.still + 1 else 0) ∧
            (near = false → t.on (R.MOD_MD_STAT_FRZL n) = false) ∧
            (near = true → s.get (R.MOD_MD_DET_FRZK n) ≠ 0 → s.get (R.MOD_MD_DET_FRZK n) ≤ x.still + 1 →
              t.on (R.MOD_MD_STAT_FRZL n) = true))))) ∧
    (∀ c : Fin 256,
      let ev := ((s.ctx c).waits.getLast?.map (·.stamp)).getD 0
      (s.isCfg c = false → exec (.sampleRequest c) s = .next s) ∧
      (s.isCfg c = true → (s.core (coreOf c)).stalled = none → Does (.sampleRequest c) s fun t =>
        ∃ parts, t.senseOf (coreOf c) = s.senseOf (coreOf c) ++ [⟨c, ev, parts⟩] ∧
          parts.map (fun x => (x.1, x.2.1)) = s.mdComps c ∧
          ∀ x ∈ parts, x.2.2 = if s.inputReady x.2.1 then (s.selectOut x.2.1 ev).1 else some 0)) ∧
    (∀ core : Fin 8,
      (s.senseOf core = [] → exec (.vectorPartPresent core) s = .next s) ∧
      (∀ x l, s.senseOf core = x :: l →
        ((∃ p ∈ x.parts, p.2.2 = none) → exec (.vectorPartPresent core) s = .next s) ∧
        ((∀ p ∈ x.parts, p.2.2 ≠ none) → Does (.vectorPartPresent core) s fun t => t.senseOf core = l ∧ t.regs = s.regs ∧
          (∀ n, n ≠ x.ctx → t.ctx n = s.ctx n) ∧ (s.pdOpen (4 + core.val) = false → t.ctxs = s.ctxs) ∧
          (s.pdOpen (4 + core.val) = true → ∀ (k : Nat) (a : Awaited), (s.ctx x.ctx).waits[k]? = some a →
            ∃ a' : Awaited, (t.ctx x.ctx).waits[k]? = some a' ∧ a'.stamp = a.stamp ∧ ∀ j, tblGet (fun _ => none) a'.part j =
              match (x.parts.filter (fun v => v.1 = j)).getLast? with
              | some v => if a.stamp = x.stamp then some (v.2.2.getD 0) else tblGet (fun _ => none) a.part j
              | none => tblGet (fun _ => none) a.part j))))

/-- Comparators, windows and the housekeeping ADC (R252, R261, R280, R282 to R285, R289 to R292, R295, R297 to R299, R347),
while PD13 runs. Readings and choices of the model's own that it rests on: log entries 66, 67, 68, 70 and 128. -/
def Obligations.FrontComparators : Prop :=
  ∀ s : State, s.pdRun 13 = true →
    (∀ (c : Cmp) (nv : Nat),
      let live := s.cmpEnabled c = true ∧ (s.cmp c).settling = 0 ∧ s.cmpTested c = false
      (¬live ∨ s.cmpSide c nv = none → exec (.comparatorOutputChange c nv) s = .next s) ∧
      (∀ act, live → s.cmpSide c nv = some act → Does (.comparatorOutputChange c nv) s fun t =>
        t.on (cmpOut c) = act ∧ t.on (cmpUnres c) = false ∧
        (∀ n, c = .hard n → act = true → s.on (cmpOut c) = false → (s.leg n).test ≠ 2 →
          2 ≤ s.get (R.SYSCTL_PD_STATE 12) → t.on (R.GATE_LEG_STAT_HTRIP n) = true) ∧
        (∀ k : Fin 96, c = .leg k → act = true → s.on (cmpOut c) = false → k.val % 2 = 1 → t.on (R.CMP_STAT_LAT k) = true) ∧
        (∀ k : Fin 96, c = .leg k → act = true → s.on (cmpOut c) = false → k.val % 2 = 0 →
          (s.bch (k / 2)).blank = false → t.on (R.CMP_STAT_LAT k) = true ∧
            (s.get (R.BATTEN_CH_CTRL_MODE (k / 2)) ≠ 2 → 2 ≤ s.get (R.SYSCTL_PD_STATE 12) →
              t.on (R.GATE_LEG_STAT_NTRIP (k / 2)) = true)))) ∧
    (∀ (n : Fin 48) (nv : Nat), (s.cmp (.hard n)).settling = 0 → (s.leg n).test ≠ 2 →
      ((8 * s.get (R.GATE_LEG_CFG_HTH n) + 2) * 1171875 < 2 * nv → Does (.comparatorOutputChange (.hard n) nv) s fun t =>
        t.on (R.CMP_STAT_HOUT (2 * n)) = true) ∧
      (2 * nv + 2 * 1171875 < 8 * s.get (R.GATE_LEG_CFG_HTH n) * 1171875 →
        Does (.comparatorOutputChange (.hard n) nv) s fun t => t.on (R.CMP_STAT_HOUT (2 * n)) = false)) ∧
    (∀ (c : Cmp) (nv : Nat), s.cmpEnabled c = true → (s.cmp c).settling ≠ 0 → Does (.comparatorSettled c nv) s fun t =>
      (t.cmp c).settling = 0 ∧
      (s.cmpTested c = false →
        (∀ act, s.cmpSide c nv = some act → t.on (cmpOut c) = act ∧ t.on (cmpUnres c) = false) ∧
        (s.cmpSide c nv = none → (s.cmp c).settling = 1 → t.on (cmpOut c) = cmpPreset c ∧ t.on (cmpUnres c) = true) ∧
        (s.cmpSide c nv = none → (s.cmp c).settling ≠ 1 → t.on (cmpOut c) = s.on (cmpOut c)))) ∧
    (∀ (c : Fin 96) (code : BitVec 10) (late : Bool),
      (s.cmpOwned c = true → Does (.dacCodeWrite (.leg c) code late) s fun t => t.rd (R.CMP_DAC c) = s.rd (R.CMP_DAC c) ∧
        (t.on (R.CMP_STAT_WLE c) = true ↔ s.on (R.CMP_STAT_WLE c) = true ∨ s.get (R.CMP_DAC_CODE c) ≠ code.toNat)) ∧
      (s.cmpOwned c = false → Does (.dacCodeWrite (.leg c) code late) s fun t => t.get (R.CMP_DAC_CODE c) = code.toNat ∧
        t.get (R.CMP_DAC_ACT c) = (if s.on (R.CMP_CFG_RAMPEN c) then s.get (R.CMP_DAC_ACT c) else code.toNat) ∧
        (t.on (R.CMP_STAT_BND c) = true ↔ s.on (R.CMP_STAT_BND c) = true ∨
          (s.on (R.CMP_CFG_RAMPEN c) = true ∧ late = true)) ∧ OnlyRegs [R.CMP_DAC c, R.CMP_STAT c] s t) ∧
      Does (.rampStart c) s (fun t =>
        let x := s.cmp (.leg c)
        let runs := x.due = true ∧ s.on (R.CMP_CFG_RAMPEN c) = true ∧ (s.leg (c / 2)).test = 0
        (¬runs → t = s.setCmp (.leg c) { x with due := false }) ∧
        (runs → t.get (R.CMP_DAC_ACT c) = s.get (R.CMP_DAC_CODE c) ∧
          t.cmp (.leg c) = ⟨x.settling, false, s.get (R.CMP_RAMP_SLOPE c), s.get (R.CMP_RAMP_FLOOR c), some (0, s.upNs)⟩ ∧
          t.cmpCode (.leg c) = s.get (R.CMP_DAC_CODE c) ∧ OnlyRegs [R.CMP_DAC c] s t))) ∧
    (∀ (w : Fin 16) (code : BitVec 10) (late : Bool),
      Does (.dacCodeWrite (.winLo w) code late) s (fun t =>
        t.get (R.CMP_WIN_LDAC_CODE w) = code.toNat ∧ t.get (R.CMP_WIN_LDAC_ACT w) = code.toNat) ∧
      Does (.dacCodeWrite (.winHi w) code late) s (fun t =>
        t.get (R.CMP_WIN_UDAC_CODE w) = code.toNat ∧ t.get (R.CMP_WIN_UDAC_ACT w) = code.toNat)) ∧
    (∀ (w : Fin 16), ∀ p ∈ [(Instr.windowFltQual w, !s.on (R.CMP_WIN_CFG_WMODE w) && s.winOutside w && s.winQual w),
        (Instr.swingTimeout w, s.on (R.CMP_WIN_CFG_WMODE w) && s.swingLate w)],
      let acts := s.on (R.CMP_WIN_CFG_EN w) && p.2 && (s.win w).test.isNone
      (acts = false → exec p.1 s = .next s) ∧
      (acts = true → Does p.1 s fun t => t.on (R.CMP_WIN_STAT_FLT w) = true ∧
        (s.on (R.CMP_WIN_STAT_FLT w) = true → t = s) ∧
        (s.on (R.CMP_WIN_STAT_FLT w) = false → t.on (R.CMP_WIN_STAT_WLAT w) = true ∧
          t.rd (R.CMP_WIN_TS w) = s.stamp 13 ∧ KeepsRest [.CMP, .SAFE, .EAVES, .THATCH] s t))) ∧
    (let busy := s.on R.HADC_STAT_BUSY
     let bad := 10 ≤ s.get R.HADC_CTRL_RATE ∨ s.get R.HADC_CTRL_MODE = 3
     (busy = true → exec .hadcGo s = .next s) ∧
     (busy = false → bad → Does .hadcGo s fun t => t.on R.HADC_STAT_CFE = true ∧ OnlyRegs [R.HADC_STAT] s t) ∧
     (busy = false → ¬bad → s.get R.HADC_CTRL_MODE ≠ 2 → Does .hadcGo s fun t => t.on R.HADC_STAT_BUSY = true ∧
       t.hadc.cur = s.get R.HADC_CTRL_CH ∧ t.hadc.rest = [] ∧ t.hadc.up = false) ∧
     (busy = false → ¬bad → s.get R.HADC_CTRL_MODE = 2 → Does .hadcGo s fun t =>
       (t.on R.HADC_STAT_BUSY = true ↔ s.rd R.HADC_SCAN ≠ 0) ∧
       (s.rd R.HADC_SCAN ≠ 0 → t.hadc.cur :: t.hadc.rest = (List.range 32).filter (fun k => (s.rd R.HADC_SCAN).getLsbD k))) ∧
     Does .hadcStop s (fun t => t.on R.HADC_STAT_BUSY = false ∧ t.on R.HADC_STAT_PWR = false ∧
       t.rd R.HADC_DATA = s.rd R.HADC_DATA) ∧
     (busy = false → exec .hadcStartupEnd s = .next s) ∧
     (busy = true → Does .hadcStartupEnd s fun t => t.hadc.up = true ∧ t.regs = s.regs ∧ t.hadc.cur = s.hadc.cur) ∧
     (∀ nv, (busy = false ∨ s.hadc.up = false → exec (.hadcResult nv) s = .next s) ∧
       (busy = true → s.hadc.up = true → s.hadc.cur < 32 → Does (.hadcResult nv) s fun t =>
         t.on R.HADC_DATA_VALID = true ∧ t.get R.HADC_DATA_CH = s.hadc.cur ∧ t.on R.HADC_STAT_DONE = true ∧
         (s.hadc.cur < 28 → t.get R.HADC_DATA_VALUE = min 0xFFFFFF ((2 * nv * 2 ^ 24 + hadcScale s.hadc.cur * 1200000000) /
           (2 * (hadcScale s.hadc.cur * 1200000000)))) ∧
         (∀ k, s.hadc.cur = 28 → s.dacCode (s.get R.HADC_CTRL_DACSEL) = some k → t.get R.HADC_DATA_VALUE = k * 2 ^ 14) ∧
         (s.hadc.cur = 29 ∨ s.hadc.cur = 31 → t.get R.HADC_DATA_VALUE = 0) ∧
         (s.hadc.cur = 30 → t.get R.HADC_DATA_VALUE = 0x800000) ∧
         (t.on R.HADC_STAT_OVR = true ↔ s.on R.HADC_STAT_OVR = true ∨ s.on R.HADC_DATA_VALID = true) ∧
         (s.get R.HADC_CTRL_MODE = 0 → t.on R.HADC_STAT_BUSY = false))) ∧
     Does .hadcDataRead s (fun t => t.on R.HADC_DATA_VALID = false ∧ OnlyRegs [R.HADC_DATA] s t ∧
       t.get R.HADC_DATA_VALUE = s.get R.HADC_DATA_VALUE))

/-- Boost converters (R346, R353 to R356, R360, R361, R364), while PD12 runs: the state machine of R353 row by row. MPP engines
(R365, R366, R368), while PD12 runs: MEN is refused under R374, an interval counts in SEQ and leaves P or INV, and a scan is
requested and held as R368 says. Readings and choices of the model's own that it rests on: log entries 72 and 129. -/
def Obligations.ConverterStates : Prop :=
  (∀ (s : State) (k : Fin 8), s.pdRun 12 = true →
     let st := s.bcState k
     let b := s.bc k
     (st ≠ 0 → exec (.boostEnable k) s = .next s) ∧
     (st = 0 → s.bcRefused k = true → Does (.boostEnable k) s fun t => t.on (R.BOOST_BC_STAT_CFE k) = true ∧
       t.on (R.BOOST_BC_CFG_EN k) = false ∧ t.bcState k = 0 ∧ OnlyRegs [R.BOOST_BC_STAT k, R.BOOST_BC_CFG k] s t) ∧
     (st = 0 → s.bcRefused k = false → Does (.boostEnable k) s fun t => t.on (R.BOOST_BC_CFG_EN k) = true ∧ t.bcState k = 1 ∧
       (∀ i < s.bcNph k, t.bcActive k i = !s.bcFailed k i) ∧
       (∀ i < s.bcNph k, let n := s.bcLead k + i
         t.get (R.BATTEN_CH_CTRL_MODE n) = 2 ∧ t.on (R.BATTEN_CH_CTRL_POL n) = true ∧
         t.on (R.CMP_CFG_RAMPEN (2 * n)) = true ∧ t.get (R.CMP_CFG_RCH (2 * n)) = n ∧
         t.get (R.CMP_DAC_CODE (2 * n)) = s.get (R.BOOST_BC_LIM_ZOFS k))) ∧
     Does (.boostDisable k) s (fun t => t.on (R.BOOST_BC_CFG_EN k) = false ∧
       (st ≠ 0 → (t.bcState k = st ∨ t.bcState k = 0) ∧ (t.bcState k = 0 ↔ t.bcAllOff k = true) ∧ t.get (R.BOOST_BC_PHSTAT_ACT k) = 0 ∧
         (t.mpp k).on = false ∧ ∀ i < s.bcNph k, s.bcLead k + i < 48 → t.on ⟨R.BATTEN_CH_CTRL (s.bcLead k + i), 0, 0⟩ = false) ∧
       (st = 0 → t.bcState k = 0)) ∧
     (∀ v late, Does (.icmdWrite k v late) s fun t => t.get (R.BOOST_BC_ICMD_ICMD k) = v.toNat % 65536 ∧
       (t.on (R.BOOST_BC_STAT_BND k) = true ↔ s.on (R.BOOST_BC_STAT_BND k) = true ∨ late = true) ∧
       OnlyRegs [R.BOOST_BC_ICMD k, R.BOOST_BC_STAT k] s t) ∧
     (let due := st = 1 ∧ max 1 (s.get (R.BOOST_BC_SHTM_SHT k)) ≤ b.shCnt
      (¬due → exec (.shedStart k) s = .next s) ∧
      (∀ i, due → (s.bcActs k).getLast? = some i → Does (.shedStart k) s fun t => t.bcState k = 2 ∧
        (t.bc k).shed = some i ∧ (t.bc k).shedJ = 1 ∧ (t.bc k).shedN = max 1 (s.get (R.BOOST_BC_SHTM_SHDN k)))) ∧
     (∀ i, b.shed = some i →
       (¬(st = 2 ∧ b.shedDue = true) → exec (.shedComplete k) s = .next s) ∧
       (st = 2 → b.shedDue = true → Does (.shedComplete k) s fun t => t.bcState k = 1 ∧ (t.bc k).shed = none ∧
         t.bcActive k i = false ∧ (s.bcLead k + i < 48 → t.on ⟨R.BATTEN_CH_CTRL (s.bcLead k + i), 0, 0⟩ = false))) ∧
     (b.shed = none → exec (.shedComplete k) s = .next s) ∧
     (let due := st = 1 ∧ max 1 (s.get (R.BOOST_BC_SHTM_ADT k)) ≤ b.adCnt
      (¬due → exec (.addStart k) s = .next s) ∧
      (∀ i l, due → (s.bcOk k).filter (fun j => !s.bcActive k j) = i :: l → i < 6 → Does (.addStart k) s fun t => t.bcState k = 3 ∧
        (t.bc k).add = some i ∧ t.bcActive k i = true)) ∧
     (b.add = none → exec (.addComplete k) s = .next s) ∧
     (∀ i, b.add = some i →
       let up := st = 3 ∧ s.get (R.BATTEN_CH_STAT_STATE (s.bcLead k + i)) = 2
       (¬up → exec (.addComplete k) s = .next s) ∧
       (up → Does (.addComplete k) s fun t => t.bcState k = 1 ∧ (t.bc k).add = none)) ∧
     (∀ i : Fin 6,
       let n := max 1 (s.get (R.BOOST_BC_CFG_OPENN k))
       let fails := (1 ≤ st ∧ st ≤ 3) ∧ s.bcActive k i = true ∧ n ≤ tblGet (fun _ => 0) b.ctRun i
       (¬fails → exec (.phaseOpenFailure k i) s = .next s) ∧
       (fails → Does (.phaseOpenFailure k i) s fun t => t.bcFailed k i = true ∧ t.bcActive k i = false ∧
         t.on (R.BOOST_BC_STAT_OPF k) = true)) ∧
     (b.done = none → exec (.crossCheckWindow k) s = .next s) ∧
     (∀ w, b.done = some w →
       let ok := s.on (R.BOOST_BC_XCHK_XEN k) = true ∧ (1 ≤ st ∧ st ≤ 3) ∧ w.bad = false
       let far := 0 < w.mon.2 ∧ ((s.get (R.BOOST_BC_XTOL_XTOL k) * w.n : Nat) : Int) <
         |w.est - w.mon.1 * (s.get (R.BOOST_BC_XTOL_XGAIN k) : Int) / (256 * w.mon.2 : Nat) * w.n|
       let near := 0 < w.mon.2 ∧ ¬far
       let n := max 1 (s.get (R.BOOST_BC_XCHK_XN k))
       (¬ok → exec (.crossCheckWindow k) s = .next (s.setBc k { b with done := none })) ∧
       (ok → near → Does (.crossCheckWindow k) s fun t => t = s.setBc k { b with done := none, xMis := 0 }) ∧
       (ok → far → b.xMis + 1 < n → Does (.crossCheckWindow k) s fun t =>
         t = s.setBc k { b with done := none, xMis := b.xMis + 1 }) ∧
       (ok → far → n ≤ b.xMis + 1 → Does (.crossCheckWindow k) s fun t => t.on (R.BOOST_BC_STAT_SNSF k) = true ∧
         (∀ i < 6, s.xFar k w = [i] → t.bcFailed k i = true) ∧ ((s.xFar k w).length ≠ 1 → t.bcState k = 4))) ∧
     (∀ mask : BitVec 6, let f := s.get (R.BOOST_BC_PHSTAT_FAIL k)
       (s.on (R.BOOST_BC_CFG_EN k) = true → Does (.failClear k mask) s fun t => t.get (R.BOOST_BC_PHSTAT_FAIL k) = f ∧
         (f &&& mask.toNat ≠ 0 → t.on (R.BOOST_BC_STAT_WLE k) = true)) ∧
       (s.on (R.BOOST_BC_CFG_EN k) = false → Does (.failClear k mask) s fun t => ∀ i < 6, t.bcFailed k i =
         (s.bcFailed k i && !mask.getLsbD i)))) ∧
  (∀ (s : State) (k : Fin 8), s.pdRun 12 = true →
     let x := s.mpp k
     (s.mppRefused k = true → Does (.mppEnable k) s fun t => t.on (R.BOOST_BC_STAT_CFE k) = true ∧
       t.on (R.BOOST_BC_MCFG_MEN k) = false ∧ OnlyRegs [R.BOOST_BC_STAT k, R.BOOST_BC_MCFG k] s t) ∧
     (s.mppRefused k = false → Does (.mppEnable k) s fun t => t.on (R.BOOST_BC_MCFG_MEN k) = true ∧
       (1 ≤ s.bcState k ∧ s.bcState k ≤ 3 → x.on = false → (t.mpp k).on = true ∧
         t.get (R.BOOST_BC_MREF_VREF k) = s.get (R.BOOST_BC_MSCAN_VSHI k) ∧ t.on (R.BOOST_BC_MSTAT_DIR k) = false ∧
         ((t.mpp k).scan.isSome = s.on (R.BOOST_BC_MCFG_SCST k)))) ∧
     (let bad := x.inv || s.mppInputBad (s.get (R.BOOST_BC_MCFG_VSRC k)) || s.mppInputBad (s.get (R.BOOST_BC_XCHK_ISRC k))
      let stop := x.t0 + 1000000 * s.get (R.BOOST_BC_MCFG_TMPP k)
      let due := x.on = true ∧ stop ≤ s.upNs
      let mean := fun (a : Int × Nat) (v : BitVec 16) => 0 < a.2 → -32768 * (a.2 : Int) ≤ a.1 → a.1 ≤ 32767 * (a.2 : Int) →
        |v.toInt * a.2 - a.1| < a.2
      (¬due → exec (.mppIntervalEnd k) s = .next s) ∧
      (due → Does (.mppIntervalEnd k) s fun t =>
        t.get (R.BOOST_BC_MREF_SEQ k) = (s.get (R.BOOST_BC_MREF_SEQ k) + 1) % 65536 ∧ (t.mpp k).clmp = false ∧
        (t.mpp k).t0 = stop ∧ (t.mpp k).vAcc = (0, 0) ∧ (t.mpp k).iAcc = (0, 0) ∧
        (bad = true → t.on (R.BOOST_BC_MSTAT_INV k) = true ∧ t.rd (R.BOOST_BC_MPWR k) = s.rd (R.BOOST_BC_MPWR k) ∧
          (x.scan = none → (t.mpp k).scan = none → t.get (R.BOOST_BC_MREF_VREF k) = s.get (R.BOOST_BC_MREF_VREF k))) ∧
        (bad = false → ∃ v i, mean x.vAcc v ∧ mean x.iAcc i ∧
          t.rd (R.BOOST_BC_MPWR k) = BitVec.ofInt 32 (max 0 (v.toInt * i.toInt))))) ∧
     Does (.mppScanGo k) s (fun t => t.regs = s.regs ∧
       ((t.mpp k).req = true ↔ x.req = true ∨ (x.on = true ∧ x.scan = none))) ∧
     Does (.scminExpiry k) s fun t => t.regs = s.regs ∧
       (x.held = true → s.scanSoon k = false → (t.mpp k).held = false ∧ (t.mpp k).req = true) ∧
       (x.held = false ∨ s.scanSoon k = true → t = s))

/-! ### Grid functions, metering and safety -/

/-- Phasor units (R307 to R309, R311, R312, R315 to R317, R335 to R337), while the unit's island runs: the result registers,
the live and latched flags, the count of responding windows and the perturbation word. An estimate is formed from the samples
of its window; the arithmetic that the spec does not write out is opaque (log entry 121). TRSS is the root of R316 rounded
either way: the spec states no rounding, and the choice is a free value (log entry 30). Readings and choices of the model's own
that it rests on: log entries 73, 74 and 75. -/
def Obligations.PhasorUnits : Prop :=
  ∀ (s : State) (n : Fin 8), s.pdRun (pdOfRc n) = true →
    let x := s.pu n
    let en := s.on (R.RAFTER_PU_CFG_EN n)
    let settled := decide (x.since + s.cycles n 2 ≤ s.nowNs)
    let chen := s.get (R.RAFTER_PU_CFG_CHEN n)
    let f0 := if s.on (R.RAFTER_PU_CFG_FNOM n) then 60 else 50
    let miss := fun (a b k : Nat) => ¬∀ j, a ≤ 50000 * j → 50000 * j < b →
      ∃ y ∈ s.puSmps n k, y.t = 50000 * j ∧ y.bad = false
    let invalid := fun (t : Nat) => settled = false ∨
      ∃ k < 6, chen.testBit k = true ∧ miss (t - s.cycles n 1) (t + s.cycles n 1) k
    let vbad := fun (t : Nat) => invalid t ∨ ∃ k < 3, miss (t - s.cycles n 1) (t + s.cycles n 1) k
    let tidy := ∀ k < 6, ((s.puSmps n k).map (·.t)).Pairwise (· > ·) ∧ ∀ y ∈ s.puSmps n k, y.t % 50000 = 0
    (en = false → ∀ i ∈ [Instr.reportEstimate n, .internalEstimate n, .harmonicWindow n, .perturbationWindow n,
      .perturbationWordWrite n], (i = .harmonicWindow n → s.lawCtx = none) → exec i s = .next s) ∧
    (en = true → tidy →
      let f := (puRate (s.on (R.RAFTER_PU_CFG_FNOM n)) (s.get (R.RAFTER_PU_CFG_RATE n))).getD 10
      s.cycles n 1 ≤ s.nowNs → Does (.reportEstimate n) s fun t => ∃ k,
        let sec := (s.nowNs - s.cycles n 1) / 1000000000
        let ns := k * 1000000000 / f
        let e := s.puEst n (sec * 1000000000 + ns)
        k < f ∧ ns ≤ (s.nowNs - s.cycles n 1) % 1000000000 ∧
        (s.nowNs - s.cycles n 1) % 1000000000 < (k + 1) * 1000000000 / f ∧
        t.rd (R.RAFTER_PU_TSEC n) = BitVec.ofNat 32 sec ∧ t.rd (R.RAFTER_PU_TNS n) = BitVec.ofNat 32 ns ∧
        t.rd (R.RAFTER_PU_FREQ n) = e.freq ∧ t.rd (R.RAFTER_PU_ROCOF n) = e.rocof ∧
        (∀ j < 6, t.rd (R.RAFTER_PU_MAG n j) = e.mag.getD j 0 ∧ t.rd (R.RAFTER_PU_ANG n j) = e.ang.getD j 0) ∧
        t.rd (R.RAFTER_PU_VPMAG n) = e.vp ∧ t.rd (R.RAFTER_PU_VPANG n) = e.vpAng ∧ t.rd (R.RAFTER_PU_IPMAG n) = e.ip ∧
        t.rd (R.RAFTER_PU_IPANG n) = e.ipAng ∧ t.rd (R.RAFTER_PU_VNMAG n) = e.vn ∧
        (t.on (R.RAFTER_PU_STAT_VALID n) = true ↔ ¬invalid (sec * 1000000000 + ns)) ∧
        t.get (R.RAFTER_PU_STAT_CHBAD n) = s.puChbad n ∧
        (s.on (R.RAFTER_PU_CFG_QEN n) = false → KeepsRest [.RAFTER] s t ∧
          t.on (R.RAFTER_PU_STAT_QDRP n) = s.on (R.RAFTER_PU_STAT_QDRP n))) ∧
    (∀ k, en = true → tidy → s.cycles n 1 ≤ s.nowNs →
      k * 1000000000 / (2 * f0) ≤ (s.nowNs - s.cycles n 1) % 1000000000 →
      (s.nowNs - s.cycles n 1) % 1000000000 < (k + 1) * 1000000000 / (2 * f0) →
      Does (.internalEstimate n) s fun t =>
        let T := (s.nowNs - s.cycles n 1) / 1000000000 * 1000000000 + k * 1000000000 / (2 * f0)
        let e := s.puEst n T
        let roc := s.get (R.RAFTER_PU_ROC_ROCLIM n) * 256 < e.rocof.toInt.natAbs
        let rocRun := if roc then min 255 (x.rocRun + 1) else 0
        let out := e.freq.toNat + s.get (R.RAFTER_PU_FLIM_FLO n) * 256 < f0 * 65536 ∨
          f0 * 65536 + s.get (R.RAFTER_PU_FLIM_FHI n) * 256 < e.freq.toNat
        let fRun := if out then min 255 (x.fRun + 1) else 0
        let vs := fun (a b : Word) => e.vpAng - (a + a - b)
        (vbad T → (t.pu n).rocRun = x.rocRun ∧ (t.pu n).fRun = x.fRun ∧ (t.pu n).vBad = some (x.vBad.getD s.upNs) ∧
          (∀ r ∈ [R.RAFTER_PU_STAT_ROCL n, R.RAFTER_PU_STAT_FL n, R.RAFTER_PU_STAT_VSL n, R.RAFTER_PU_STAT_ROCF n,
            R.RAFTER_PU_STAT_FRQ n, R.RAFTER_PU_STAT_VSF n], t.get r = s.get r)) ∧
        (¬vbad T →
          t.on (R.RAFTER_PU_STAT_ROCL n) = decide (s.get (R.RAFTER_PU_ROC_ROCT n) ≤ rocRun) ∧
          t.on (R.RAFTER_PU_STAT_FL n) = decide (s.get (R.RAFTER_PU_ROC_FT n) ≤ fRun) ∧
          (t.pu n).vBad = none ∧ (t.pu n).rocRun = rocRun ∧ (t.pu n).fRun = fRun ∧
          (t.on (R.RAFTER_PU_STAT_ROCF n) = true ↔ s.on (R.RAFTER_PU_STAT_ROCF n) = true ∨
            (t.on (R.RAFTER_PU_STAT_ROCL n) = true ∧ s.on (R.RAFTER_PU_STAT_ROCL n) = false)) ∧
          (t.on (R.RAFTER_PU_STAT_FRQ n) = true ↔ s.on (R.RAFTER_PU_STAT_FRQ n) = true ∨
            (t.on (R.RAFTER_PU_STAT_FL n) = true ∧ s.on (R.RAFTER_PU_STAT_FL n) = false)) ∧
          (k % 2 = 0 → ∀ a b, x.th1 = some a → x.th2 = some b → t.rd (R.RAFTER_PU_VSV n) = vs a b ∧
            t.on (R.RAFTER_PU_STAT_VSL n) = decide (s.get (R.RAFTER_PU_VS_VSLIM n) * 65536 < (vs a b).toInt.natAbs) ∧
            (t.on (R.RAFTER_PU_STAT_VSF n) = true ↔ s.on (R.RAFTER_PU_STAT_VSF n) = true ∨
              (t.on (R.RAFTER_PU_STAT_VSL n) = true ∧ s.on (R.RAFTER_PU_STAT_VSL n) = false))) ∧
          (k % 2 = 1 ∨ x.th1 = none ∨ x.th2 = none → t.rd (R.RAFTER_PU_VSV n) = s.rd (R.RAFTER_PU_VSV n) ∧
            t.on (R.RAFTER_PU_STAT_VSL n) = s.on (R.RAFTER_PU_STAT_VSL n))) ∧
        KeepsRest [.RAFTER, .EAVES, .THATCH] s t) ∧
    (en = true → tidy →
      let e := (s.nowNs - 1000000) / 200000000 * 200000000
      let hbad := settled = false ∨ e < 200000000 ∨ ∃ k < 6, 3 ≤ k ∧ chen.testBit k = true ∧ miss (e - 200000000) e k
      let rms := fun c h => (s.puHarm n c (h + 2) e).toNat
      (s.on (R.RAFTER_PU_CFG_HEN n) = false → s.lawCtx = none → exec (.harmonicWindow n) s = .next s) ∧
      (s.on (R.RAFTER_PU_CFG_HEN n) = true → Does (.harmonicWindow n) s fun t =>
        (t.on (R.RAFTER_PU_STAT_HV n) = true ↔ ¬hbad) ∧ KeepsRest [.RAFTER] s t ∧
        ∀ c < 3,
          (hbad → (∀ h < 39, t.rd (harmReg n c (h + 2)) = s.rd (harmReg n c (h + 2))) ∧
            t.rd (trssReg n c) = s.rd (trssReg n c)) ∧
          (¬hbad → (∀ h < 39, (t.rd (harmReg n c (h + 2))).toNat = rms c h) ∧
            ∃ q, q * q ≤ ((List.range 39).map (fun h => rms c h ^ 2)).sum ∧
              ((List.range 39).map (fun h => rms c h ^ 2)).sum < (q + 1) * (q + 1) ∧
              ((t.rd (trssReg n c)).toNat = min 0xFFFFFFFF q ∨ (t.rd (trssReg n c)).toNat = min 0xFFFFFFFF (q + 1))))) ∧
    (en = true → tidy →
      let c := x.sched
      let due := s.on (R.RAFTER_PU_ISCFG_IEN n) = true ∧ schedOk c = true ∧ windowAt c 0 + s.cycles n 4 ≤ s.nowNs
      let k := (s.nowNs - s.cycles n 4 - windowAt c 0) / (c.per * 1000000)
      let ta := windowAt c k
      let tb := ta + s.cycles n 3
      let bad := vbad ta ∨ vbad tb
      let df := (s.puRates n tb).1 - (s.puRates n ta).1
      let resp := (s.get (R.RAFTER_PU_ISCFG_APTH n) : Int) ≤ (if c.sign.getLsbD (k % 32) then -df.toInt else df.toInt)
      let r := s.get (R.RAFTER_PU_ISSTAT_RCNT n)
      let need := max 1 (s.get (R.RAFTER_PU_ISCFG_NRESP n))
      let law := s.law.ctx.map coreOf = some n.val ∧ s.seq.st = 7
      (¬due → exec (.perturbationWindow n) s = .next s) ∧
      (due → Does (.perturbationWindow n) s fun t =>
        t.get (R.RAFTER_PU_ISSTAT_KLO n) = k % 65536 ∧ t.rd (R.RAFTER_PU_ISDF n) = df ∧
        KeepsRest [.RAFTER, .EAVES, .THATCH] s t ∧
        (bad → t.get (R.RAFTER_PU_ISSTAT_RCNT n) = r ∧ t.on (R.RAFTER_PU_STAT_ISL n) = s.on (R.RAFTER_PU_STAT_ISL n) ∧
          t.seq = s.seq) ∧
        (¬law → t.seq = s.seq) ∧ (law → ¬bad → t.seq.noResp = if resp then 0 else s.seq.noResp + 1) ∧
        (¬bad → ¬resp → t.get (R.RAFTER_PU_ISSTAT_RCNT n) = 0 ∧
          t.on (R.RAFTER_PU_STAT_ISL n) = s.on (R.RAFTER_PU_STAT_ISL n)) ∧
        (¬bad → resp → r + 1 < need → t.get (R.RAFTER_PU_ISSTAT_RCNT n) = r + 1 ∧
          t.on (R.RAFTER_PU_STAT_ISL n) = s.on (R.RAFTER_PU_STAT_ISL n)) ∧
        (¬bad → resp → need ≤ r + 1 → t.get (R.RAFTER_PU_ISSTAT_RCNT n) = 0 ∧
          t.on (R.RAFTER_PU_STAT_ISL n) = true))) ∧
    (en = true → s.windowHeld n = true → exec (.perturbationWordWrite n) s = .next s) ∧
    (en = true → s.windowHeld n = false → Does (.perturbationWordWrite n) s fun t =>
      let c := s.puSched n
      let a := rcData n + s.get (R.RAFTER_PU_PADDR_ADDR n) * 8
      let writes := s.on (R.RAFTER_PU_PADDR_PWEN n) = true ∧ schedOk c = true
      (t.pu n).sched = c ∧ KeepsRegs [.RAFTER] s t ∧
      (∀ b, ¬(writes ∧ a ≤ b ∧ b < a + 8) → t.byte b = s.byte b) ∧
      (writes → ∃ k, s.nowNs < windowAt c k ∧ (k = 0 ∨ windowAt c (k - 1) ≤ s.nowNs) ∧
        t.memWord a = BitVec.ofNat 32 (windowAt c k) ∧
        t.memWord (a + 4) = BitVec.ofInt 32 (if s.perturbs n then
          (if c.sign.getLsbD (k % 32) then -(c.bias : Int) else c.bias) else 0))) ∧
    Does (.puRestart n) s fun t => (t.pu n).since = s.nowNs ∧ (t.pu n).sched = s.puSched n ∧ (t.pu n).chans = [] ∧
      (t.pu n).th1 = none ∧ (t.pu n).th2 = none ∧ t.on (R.RAFTER_PU_STAT_SETL n) = false ∧
      t.get (R.RAFTER_PU_ISSTAT_RCNT n) = 0 ∧ OnlyRegs [R.RAFTER_PU_STAT n, R.RAFTER_PU_ISSTAT n] s { t with pus := s.pus }

/-- The connection sequencer (R319 to R322, R325, R331, R333, R334), while PD3 runs: the host's commands as the messages of the
host command queue, and the state machine of R320 row by row where the grid library has a law, whose reports are the messages
of the law event queue. Which of the rows takes a message of an unknown opcode is the model's choice (log entry 120). Readings
and choices of the model's own that it rests on: log entries 76, 118, 119 and 138. -/
def Obligations.ConnectionSequencer : Prop :=
  ∀ s : State,
    let st := s.seq.st
    let s' := s.noteLaw
    let host := fieldOf s.qsel 20 16
    let rows := [Instr.seqStart, .seqStop, .seqPset, .seqQset, .seqMode, .seqStatus]
    let steps := [Instr.vplusInvalidTimeout, .gridFlagSeen, .gridReturn, .recontExpiry, .lockTimerExpiry, .connectionWindowExit,
      .pllLocked, .relayClosedReadback, .rideEntered, .rideLeft, .envelopeViolated, .rampComplete, .ceasedSettled,
      .harmonicDerate]
    let valid := ∃ c, s.lawCtx = some c ∧ s.gprValid c = true
    let ended := fun (t : State) => ∀ c, s.lawCtx = some c → ∀ ch ∈ s.boundChans c, t.on (chEn ch) = false
    (s.pdRun 3 = false → ∀ i ∈ rows ++ steps, exec i s = .next s) ∧
    (s.lawCtx = none → ∀ i ∈ steps, exec i s = .next s) ∧
    (s.pdRun 3 = true → s.msgs host = [] → ∀ i ∈ rows, exec i s = .next s') ∧
    (∀ m l, s.pdRun 3 = true → s.msgs host = m :: l → s.mayPop .sc0 host = true → s.qOn host = true → m.length = 16 →
      let o := natLE (m.take 4) % 256
      let tag := natLE (m.take 4) / 256 % 256
      let arg := natLE ((m.drop 4).take 4)
      let rest := natLE ((m.drop 8).take 4) = 0 ∧ natLE ((m.drop 12).take 4) = 0
      let u := s'.setMsgs host l
      let known := 1 ≤ o ∧ o ≤ 6
      (∀ k < 6, o ≠ k + 1 → (k = 5 → known) → ∀ i, rows[k]? = some i → exec i s = .next s') ∧
      (∀ k < 6, o = k + 1 → (¬rest ∨ (k ∈ [0, 1, 5] ∧ arg ≠ 0)) → ∀ i, rows[k]? = some i → exec i s = .next (u.seqReply o tag 2 0)) ∧
      (¬known → exec .seqStatus s = .next (u.seqReply o tag 2 0)) ∧
      (o = 1 → arg = 0 → rest → Does .seqStart s fun t =>
        let ok := st = 0 ∧ valid ∧ s.safe.loaded = true
        (ok → t.seq = { s.seq with st := 1, timer := s.upNs } ∧ { t with seq := s.seq } = u.seqReply 1 tag 0 0) ∧
        (¬ok → st = 0 → ¬valid → t = u.seqReply 1 tag 2 0) ∧ (¬ok → (st ≠ 0 ∨ valid) → t = u.seqReply 1 tag 1 0)) ∧
      (o = 2 → arg = 0 → rest → Does .seqStop s fun t => t.seq.st = 0 ∧ (st ∈ [2, 3, 4, 5, 7] → ended t) ∧
        (st ∉ [2, 3, 4, 5, 7] ∨ s.lawCtx = none → { t with seq := s.seq } = u.seqReply 2 tag 0 0)) ∧
      (o = 3 → rest → exec .seqPset s = .next ((u.seqReply 3 tag 0 0).tellLaw (.pset (BitVec.ofNat 32 arg)))) ∧
      (o = 4 → rest → exec .seqQset s = .next ((u.seqReply 4 tag 0 0).tellLaw (.qset (BitVec.ofNat 32 arg)))) ∧
      (o = 5 → rest → exec .seqMode s = .next (if 1 < arg then u.seqReply 5 tag 2 0 else if st = 5 then u.seqReply 5 tag 3 0
        else (u.seqReply 5 tag 0 0).tellLaw (.mode (decide (arg = 1))))) ∧
      (o = 6 → arg = 0 → rest → exec .seqStatus s = .next (u.seqReply 6 tag 0 (BitVec.ofNat 32 st)))) ∧
    ∀ c, s.lawCtx = some c → s.pdRun 3 = true →
      let n := coreOf c
      let qe := fieldOf s.qsel 12 8
      let qc := fieldOf s.qsel 4 0
      let room := s.mayPush .sc0 qc = true ∧ s.qOn qc = true ∧ 16 ≤ s.esize qc ∧ (s.msgs qc).length < s.get (R.QUEUE_CFG_DEPTH qc)
      let goes := fun (i : Instr) (b : Prop) (st' : Nat) =>
        (¬b → exec i s = .next s') ∧ (b → Does i s fun t => t.seq.st = st')
      let ceased := fun (t : State) => t.seq.st = 6 ∧ t.seq.relayReq = false ∧ ended t
      let takes := fun (x : LawEvent) (i : Instr) (p : State → Prop) =>
        (s.lawEvents = [] → exec i s = .next s') ∧
        ∀ e l, s.lawEvents = e :: l → (e.1 ≠ x → exec i s = .next s') ∧
          ∀ m r, e.1 = x → s.msgs qe = m :: r → s.mayPop .sc0 qe = true → s.qOn qe = true → m.length ≤ 256 →
            Does i s fun t => t.law.events = l ∧ t.msgs qe = r ∧ p t
      (let out := st ∈ [2, 3, 4, 5, 7] ∧ ∃ t0, (s.pu n).vBad = some t0 ∧ t0 + 100000000 ≤ s.upNs
       (¬out → exec .vplusInvalidTimeout s = .next s') ∧ (out → Does .vplusInvalidTimeout s ceased)) ∧
      takes .violated .envelopeViolated (fun t => (st ∈ [2, 3, 4, 5] → ceased t) ∧ (st ∉ [2, 3, 4, 5] → t.seq = s.seq)) ∧
      (let isl := s.on (R.RAFTER_PU_STAT_ISL n) = true
       let fl := s.on (R.RAFTER_PU_STAT_FL n) = true
       let quiet := s.law.ride = true ∨ st = 5 ∨ ∃ t0, s.law.leftAt = some t0 ∧ s.upNs < t0 + 500000000
       let any := isl ∨ (¬quiet ∧ (s.on (R.RAFTER_PU_STAT_ROCL n) = true ∨ s.on (R.RAFTER_PU_STAT_VSL n) = true))
       let island := bitAt (s.gpr c 4) 2 = true
       ((fl ∧ st ∈ [2, 3, 4, 5]) ∨ (any ∧ (st = 2 ∨ (st ∈ [3, 4] ∧ ¬island))) ∨ (isl ∧ st = 5) → Does .gridFlagSeen s ceased) ∧
       (¬fl → any → st ∈ [3, 4] → island → Does .gridFlagSeen s fun t => t.seq.st = 7 ∧ t.seq.noResp = 0 ∧
         (room → t.law.cmds = s.law.cmds ++ [.mode true])) ∧
       (st ∉ [2, 3, 4, 5] ∨ (¬fl ∧ ¬any) → exec .gridFlagSeen s = .next s')) ∧
      (let back := st = 7 ∧ (s.gpr c 0xDC).toNat ≤ s.seq.noResp ∧ s.gridOk c = true
       (¬back → exec .gridReturn s = .next s') ∧
       (back → Does .gridReturn s fun t => t.seq.st = 3 ∧ (room → t.law.cmds = s.law.cmds ++ [.mode false]))) ∧
      (st ≠ 1 → exec .recontExpiry s = .next s') ∧
      (st = 1 → s.gridOk c = false → exec .recontExpiry s = .next { s' with seq := { s.seq with timer := s.upNs } }) ∧
      (let due := s.seq.timer + (s.gpr c 0x24).toNat * 1000000 ≤ s.upNs
       st = 1 → s.gridOk c = true → (due → exec .recontExpiry s = .next { s' with seq := { s.seq with st := 2, timer := s.upNs } }) ∧
         (¬due → exec .recontExpiry s = .next s')) ∧
      goes .lockTimerExpiry (st = 2 ∧ s.seq.timer + 2000000000 ≤ s.upNs) 1 ∧
      (let r := st = 1 ∧ s.gridOk c = false
       (¬r → exec .connectionWindowExit s = .next s') ∧
       (r → exec .connectionWindowExit s = .next { s' with seq := { s.seq with timer := s.upNs } })) ∧
      takes .locked .pllLocked (fun t => (st ≠ 2 → t.seq = s.seq) ∧ (st = 2 → t.seq = { s.seq with relayReq := true } ∧
        (s.pdRun 2 = true → s.on R.SYSCTL_FUSESTAT_TRIMFAIL = false →
          t.get R.SAFE_RCREQ_CLOSE = (s.get R.SAFE_RCREQ_CLOSE ||| 2 ^ Config.gridChain.val) &&& (15 - t.chainsDemanded)))) ∧
      goes .relayClosedReadback (st = 2 ∧ s.seq.relayReq = true ∧ s.on (R.SAFE_RC_RBH Config.gridChain) = true ∧
        s.on (R.SAFE_RC_RBL Config.gridChain) = true) 3 ∧
      takes .rideIn .rideEntered (fun t => t.seq = if st = 3 ∨ st = 4 then { s.seq with st := 5 } else s.seq) ∧
      takes .rideOut .rideLeft (fun t => t.seq = if st = 5 then { s.seq with st := 3 } else s.seq) ∧
      takes .rampDone .rampComplete (fun t => t.seq = if st = 3 then { s.seq with st := 4 } else s.seq) ∧
      (let r := st = 6 ∧ (∀ ch ∈ s.boundChans c, s.get (chState ch) = 0) ∧
         s.on (R.SAFE_RC_RBH Config.gridChain) = false ∧ s.on (R.SAFE_RC_RBL Config.gridChain) = false
       (¬r → exec .ceasedSettled s = .next s') ∧
       (r → exec .ceasedSettled s = .next { s' with seq := { s.seq with st := 1, timer := s.upNs } })) ∧
      (let htime := 1000000 * (s.gpr c 0xD8).toNat
       (s.on (R.RAFTER_PU_CFG_HEN n) = false ∨ s.seq.harm = none ∨ (∃ x t0, s.seq.harm = some (x, t0) ∧ s.upNs < t0 + htime) →
         exec .harmonicDerate s = .next s') ∧
       (∀ x t0, s.on (R.RAFTER_PU_CFG_HEN n) = true → s.seq.harm = some (x, t0) → t0 + htime ≤ s.upNs →
         Does .harmonicDerate s fun t =>
           let mx := (s.gpr c 0x38).toNat * 10
           let now := s.seq.ceil.getD mx
           let next := t.seq.ceil.getD mx
           t.seq = { s.seq with ceil := t.seq.ceil, harm := some (x, t0 + htime) } ∧ KeepsRest [.EAVES, .THATCH] s t ∧
           next = (if x then (if now ≤ 327680 then now else max 327680 (now - 65536)) else min mx (now + 65536)) ∧
           (t.law.harm = true ↔ s.law.harm = true ∨ (x = true ∧ next ≠ now))) ∧
       ∀ k : Fin 8, k.val = n → s.pdRun (pdOfRc k) = true → Does (.harmonicWindow k) s fun t =>
         let x := t.harmExceeds c
         let counts := t.on (R.RAFTER_PU_STAT_HV k) = true ∧ s.seq.harm.map (·.1) ≠ some x
         t.seq = if counts then { s.seq with harm := some (x, s.upNs + if x then 0 else 10 * htime) } else s.seq)

/-- Metering samples, blocks and intervals (R379, R382 to R385, R389 to R391), while PD15 runs. The energy of an accumulator is
its count of quanta with its residue, C × Q + Rs, exact; the filters of R380 to R382, whose coefficients the spec does not
give, are opaque (log entry 31). Readings and choices of the model's own that it rests on: log entries 77 and 130. -/
def Obligations.MeterEnergy : Prop :=
  ∀ (s : State) (m : Fin 2), s.pdRun 15 = true →
    let x := s.meter m
    let runs := s.on (R.METER_STAT_RUN m)
    let big := 2 ^ 64 * s.quantum m
    let energy := fun (t : State) a => t.accCount m a * s.quantum m + t.accRes m a
    (∀ bnd : Bool,
      (runs = false ∨ s.pdRun 13 = false ∨ s.decStamp m = none ∨ s.decStamp m = x.taken → exec (.meterSample m bnd) s = .next s) ∧
      (∀ st, runs = true → s.pdRun 13 = true → s.decStamp m = some st → x.taken ≠ some st → s.quantum m ≠ 0 →
        Does (.meterSample m bnd) s fun t =>
        let used := s.inputsOf m
        let bad := used.filter s.mdFault
        let t0 := ((s.nowNs : Int) + (st - s.stampL).toInt).toNat
        let over' := used.any (fun c => decide (s.decOut c < -2 ^ 31 ∨ 2 ^ 31 ≤ s.decOut c))
        let val := (List.range 8).map (fun c => if bad.contains c then 0 else BitVec.ofInt 32 (max (-2 ^ 31) (min (2 ^ 31 - 1) (s.decOut c))))
        let f := s.meterByp.toNat * 2 + bnd.toNat * 4 + (!bad.isEmpty).toNat * 16 + over'.toNat * 256
        let h := (⟨t0, val, f⟩ :: x.hist).take 144
        let same := ∀ y, h[64]? = some y → x.since ≤ y.t → s.blockOver m y.t = false
        let x' := { x with taken := some st, hist := h, blk := { x.blk with corr := if x.blk.start.isSome then x.blk.corr else s.blockCorr m } }
        let u := s.setMeter m x'
        let part := fun (k : State → Nat → Int) =>
          ((s.elems m).map (fun e => if s.belowStart m e then 0 else k u e)).sum
        let p := (if s.on (R.METER_CTRL_CDIR m) then -1 else 1) * part (fun v e => (v.element m e).2.1.1)
        let q := part (fun v e => (v.element m e).2.1.2)
        (t.meter m).hist = h ∧
        (bad ≠ [] → t.on (R.METER_STAT_IFLT m) = true) ∧ (s.meterByp = true → t.on (R.METER_STAT_BYP m) = true) ∧
        (bnd = true → t.on (R.METER_STAT_BND m) = true) ∧ (over' = true → t.on (R.METER_STAT_OVL m) = true) ∧
        (same → energy t 6 = energy s 6) ∧
        (same → ∀ y, h[64]? = some y → x.since ≤ y.t → ∀ a < 6,
          let k : Int := if y.flags.testBit 1 then 2 else 1
          let amount := if a = 0 then max p 0 else if a = 1 then max (-p) 0
            else if a = 2 then (if 0 ≤ p then max q 0 else 0) else if a = 3 then (if p < 0 then max q 0 else 0)
            else if a = 4 then (if p < 0 then max (-q) 0 else 0) else (if 0 ≤ p then max (-q) 0 else 0)
          energy t a % big = (energy s a + (k * amount).toNat) % big) ∧
        ((h[64]? = none ∨ ∃ y, h[64]? = some y ∧ y.t < x.since) → ∀ a < 6, energy t a = energy s a))) ∧
    (s.swapping = false →
      (runs = false ∨ x.blk.start = none → exec (.blockEnd m) s = .next s) ∧
      (∀ t0, x.blk.start = some t0 → s.nowNs < t0 + 208000000 → exec (.blockEnd m) s = .next s) ∧
      (∀ t0, runs = true → x.blk.start = some t0 → t0 + 208000000 ≤ s.nowNs → s.quantum m ≠ 0 → 0 < x.blk.n →
        (∀ e < 3, tblGet (fun _ => 0) x.blk.v2 e < x.blk.n * 2 ^ 64 ∧ tblGet (fun _ => 0) x.blk.i2 e < x.blk.n * 2 ^ 64) →
        Does (.blockEnd m) s fun t =>
          (∀ e < s.get (R.METER_CTRL_NEL m),
            let v := (t.rd (R.METER_BLK_VRMS m e)).toNat
            let i := (t.rd (R.METER_BLK_IRMS m e)).toNat
            v * v ≤ tblGet (fun _ => 0) x.blk.v2 e / x.blk.n ∧ tblGet (fun _ => 0) x.blk.v2 e / x.blk.n < (v + 1) * (v + 1) ∧
            i * i ≤ tblGet (fun _ => 0) x.blk.i2 e / x.blk.n ∧ tblGet (fun _ => 0) x.blk.i2 e / x.blk.n < (i + 1) * (i + 1) ∧
            t.rd (R.METER_BLK_S m e) = BitVec.ofNat 32 (v * i / 2 ^ 32) ∧
            tblGet (fun _ => none) (t.meter m).irms e = some i) ∧
          t.rd (R.METER_BLKSEC m) = BitVec.ofNat 32 (t0 / 1000000000) ∧
          t.rd (R.METER_BLKNS m) = BitVec.ofNat 32 (t0 % 1000000000) ∧ t.on (R.METER_STAT_CREEP m) = x.blk.creep ∧
          (t.meter m).blk = blockReset ∧
          energy t 6 % big = (energy s 6 + 1600 * ((List.range (s.get (R.METER_CTRL_NEL m))).map (fun e =>
            (t.rd (R.METER_BLK_VRMS m e)).toNat * (t.rd (R.METER_BLK_IRMS m e)).toNat)).sum) % big ∧
          ∀ a < 6, energy t a = energy s a)) ∧
    (x.closing = [] → exec (.intervalClose m) s = .next s) ∧
    let due := fun (v : MInterval) => (s.boundAt m (v.start / 1000000000) + s.ivLen m) * 1000000000 + 408000000 ≤ s.nowNs
    (∀ v l, x.closing = v :: l → ¬due v → exec (.intervalClose m) s = .next s) ∧
    (∀ v l, x.closing = v :: l → due v → Does (.intervalClose m) s fun t =>
      let v := { v with flags := if x.clr then v.flags ||| 0x80 else v.flags }
      let next := s.get R.METER_LPSTAT_NEXT
      (t.meter m).closing = l ∧ t.rd (R.METER_IVSEC m) = BitVec.ofNat 32 (v.start / 1000000000) ∧
      t.get (R.METER_IVFLG_FLG m) = (m + v.flags) % 512 ∧
      (∀ k < 9, t.rd (R.METER_IV_LO m k) = BitVec.ofNat 32 ((ivValues v).getD k 0) ∧
        t.rd (R.METER_IV_HI m k) = BitVec.ofNat 32 ((ivValues v).getD k 0 / 2 ^ 32)) ∧
      (∀ a < 7, (ivValues v).getD a 0 % 2 ^ 64 = (v.v1.getD a 0 + (2 ^ 64 - v.v0.getD a 0 % 2 ^ 64)) % 2 ^ 64) ∧
      t.eaves.reqs = s.eaves.reqs ++ (if s.eaves.on then [⟨.metering, 0x01002000 + 128 * next, ivRecord m v, 31⟩] else []) ∧
      t.get R.METER_LPSTAT_NEXT = (if next + 1 = 1984 then 0 else (next + 1) % 2048) ∧ KeepsRest [.METER] s t)

/-- Pulse outputs, enable, clear, checkpoints and restore (R376, R387, R392, R393, R395 to R397, R400, R401), while PD15 runs.
Readings and choices of the model's own that it rests on: log entries 78, 79, 80 and 130. -/
def Obligations.MeterService : Prop :=
  ∀ s : State, s.pdRun 15 = true →
    (∀ p : Fin 4,
      let x := s.pulse p
      let waits := s.get (R.METER_PLS_PEND p)
      let ready := x.active = false ∧ ∀ t0, x.stop = some t0 → t0 + x.width ≤ s.upNs
      let due := s.on (R.METER_PLS_EN p) = true ∧ ready ∧ waits ≠ 0
      (¬due → exec (.pulseStart p) s = .next s) ∧
      (due → Does (.pulseStart p) s fun t => t.get (R.METER_PLS_PEND p) = waits - 1 ∧
        t.pulse p = { x with active := true, width := (t.pulse p).width, start := some s.upNs } ∧
        (t.pulse p).width = (match x.start with
          | none => 40000000
          | some t0 => max 1000000 (min 40000000 ((s.upNs - t0) / 2))) ∧ OnlyRegs [R.METER_PLS p] s { t with met := s.met }) ∧
      (x.active = false ∨ (∃ t0, x.start = some t0 ∧ s.upNs < t0 + x.width) → exec (.pulseEnd p) s = .next s) ∧
      (∀ t0, x.active = true → x.start = some t0 → t0 + x.width ≤ s.upNs → exec (.pulseEnd p) s =
        .next (s.setPulse p { x with active := false, stop := some s.upNs }))) ∧
    (∀ m : Fin 2,
      let en := s.on (R.METER_CTRL_EN m)
      (en = true → exec (.meterEnable m) s = .next s) ∧
      (en = false → s.meterOk m = false → Does (.meterEnable m) s fun t => t.on (R.METER_STAT_CFE m) = true ∧
        t.on (R.METER_CTRL_EN m) = false ∧ OnlyRegs [R.METER_STAT m] s t) ∧
      (en = false → s.meterOk m = true → Does (.meterEnable m) s fun t => t.on (R.METER_CTRL_EN m) = true ∧
        t.on (R.METER_STAT_RUN m) = true ∧ (t.meter m).since = s.nowNs ∧
        (t.meter m).iv.start = s.boundAt m s.time.sec * 1000000000 ∧ (t.meter m).iv.v0 = s.accVs m ∧
        OnlyRegs [R.METER_CTRL m, R.METER_STAT m] s { t with meters := s.meters }) ∧
      (let may := en = false ∧ s.fuseBit 57 2 = true
       (¬may → Does (.meterClr m) s fun t => t.on (R.METER_STAT_WLE m) = true ∧ OnlyRegs [R.METER_STAT m] s t) ∧
       (may → Does (.meterClr m) s fun t => (t.meter m).clr = true ∧ KeepsRest [.METER, .EAVES, .THATCH] s t ∧
         ∀ a < 7, t.accCount m a = 0 ∧ t.accRes m a = 0))) ∧
    (s.metersOn = [] → exec .meterCheckpoint s = .next s ∧ exec .ewmCheckpoint s = .next s) ∧
    (s.metersOn ≠ [] → s.eaves.on = true →
      let due := s.on R.METER_CKSTAT_EWM = false ∧ 8000000 ≤ s.time.ns ∧ s.met.ckSec ≠ some s.time.sec
      let ewm := s.on R.METER_CKSTAT_EWM = false ∧ (s.on R.SYSCTL_SUPPLY_EW33 = true ∨ s.on R.SYSCTL_SUPPLY_EWV = true)
      (¬due → exec .meterCheckpoint s = .next s) ∧
      (due → Does .meterCheckpoint s fun t =>
        let at' := max (s.time.sec * 1000000000) s.lastSample
        t.eaves.reqs = s.eaves.reqs ++ [⟨.metering, ckBase s.ckNextSlot,
          s.ckWords s.ckNextSeq (at' / 1000000000) (at' % 1000000000) false, 133⟩] ∧
        t.met.ckSec = some s.time.sec ∧ t.regs = s.regs ∧ exec .meterCheckpoint t = .next t) ∧
      (¬ewm → exec .ewmCheckpoint s = .next s) ∧
      (ewm → Does .ewmCheckpoint s fun t => t.on R.METER_CKSTAT_EWM = true ∧ t.met.journal = 0 ∧ t.met.slot = s.ckNextSlot ∧
        t.eaves.reqs = s.eaves.reqs ++ [⟨.metering, ckBase s.ckNextSlot,
          s.ckWords s.ckNextSeq (s.lastSample / 1000000000) (s.lastSample % 1000000000) true ++ List.replicate 378 0#32, 133⟩] ∧
        OnlyRegs [R.METER_CKSTAT] s { t with met := s.met, meters := s.meters, eaves := s.eaves })) ∧
    (s.met.restored = true → exec .meterRestore s = .next s) ∧
    (s.met.restored = false → s.ckNewest = none → Does .meterRestore s fun t => t.on R.METER_CKSTAT_UNS = true ∧
      KeepsRest [.METER, .EAVES, .THATCH] s t ∧
      (∀ m ∈ s.metersOn, t.on (R.METER_STAT_RUN m) = true) ∧
      ∀ m < 2, ∀ a < 7, t.accCount m a = 0 ∧ t.accRes m a = 0) ∧
    (∀ slot, s.met.restored = false → s.ckNewest = some slot → Does .meterRestore s fun t =>
      let b := ckBase slot
      let old := fun m a => s.memNum (b + 0x10 + 0x100 * m + 0x14 * a) 2
      let jw := fun n => s.memWord (b + 0x400 + 4 * n)
      t.on R.METER_CKSTAT_UNS = true ∧ t.get R.METER_CKSTAT_SLOT = slot ∧
      t.get R.METER_CKSTAT_SEQ = (s.memWord b).toNat % 65536 ∧ KeepsRest [.METER, .EAVES, .THATCH] s t ∧
      (∀ m ∈ s.metersOn, t.on (R.METER_STAT_RUN m) = true ∧ (t.meter m).iv.flags = 0x40) ∧
      (bitAt (s.memWord (b + 12)) 0 = false → ∀ m < 2, ∀ a < 7, t.accCount m a = old m a ∧
        t.accRes m a = s.memNum (b + 0x10 + 0x100 * m + 0x14 * a + 8) 3) ∧
      (bitAt (s.memWord (b + 12)) 0 = true → ∃ j ≤ 256,
        (∀ n < j, ∃ m < 2, ∃ a < 7, jw n = journalWord m a n) ∧
        (j < 256 → ∀ m < 2, ∀ a < 7, jw j ≠ journalWord m a j) ∧
        ∀ m < 2, ∀ a < 7,
          let k := ((List.range j).filter (fun n => decide (jw n = journalWord m a n))).length
          t.accCount m a = (old m a + k) % 2 ^ 64 ∧
          t.accRes m a = if k = 0 then s.memNum (b + 0x10 + 0x100 * m + 0x14 * a + 8) 3 else 0))

/-- Inputs, functions and permits (R411, R413, R416, R421 to R427, R439): after each command the outputs agree with the
functions, and what a function's demand, CHDLY and restart need is what R425 to R427 say. Readings and choices of the model's
own that it rests on: log entries 81, 82 and 136. -/
def Obligations.SafetyFunctions : Prop :=
  ∀ (s : State) (w : Bool),
    (∀ i : Fin 16,
      (s.chUp w = false → exec (.inputDemand w i) s = .next s ∧ exec (.inputHealthy w i) s = .next s) ∧
      (s.chUp w = true → Does (.inputDemand w i) s fun t => Settled t ∧ t.siDem w i = true ∧
        (∀ j : Fin 16, j ≠ i → t.siDem w j = s.siDem w j) ∧ (t.rd R.SAFE_SI).getLsbD i = false ∧ KeepsRest [.SAFE] s t) ∧
      (s.chUp w = true → Does (.inputHealthy w i) s fun t => Settled t ∧ t.siDem w i = false ∧
        (∀ j : Fin 16, j ≠ i → t.siDem w j = s.siDem w j) ∧ (t.rd R.SAFE_SI).getLsbD i = true ∧ KeepsRest [.SAFE] s t ∧
        ∀ f < 8, s.sfEn f = true → s.sfDem w f = true → t.sfTrig w f = false → (s.sfRun w).testBit f = false →
          (s.sfRman f = false → t.sfDem w f = false) ∧
          (s.sfRman f = true → s.sfRsrc f = true → s.sfRsi f = i → s.siDem w i = true → t.sfDem w f = false) ∧
          (s.sfRman f = true → (s.sfRst w).testBit f = false → ¬(s.sfRsrc f = true ∧ s.sfRsi f = i) →
            t.sfDem w f = true))) ∧
    let ran := fun (i : Timer) (ns : Nat) => ∃ t0, s.timerAt i = some t0 ∧ t0 + ns ≤ s.upNs
    (∀ f : Fin 8,
      let due := (s.sfRun w).testBit f = true ∧ ran (.chdly w f) (1000000 * s.sfChdly f)
      (¬due → exec (.chdlyExpiry w f) s = .next s) ∧
      (due → Does (.chdlyExpiry w f) s fun t => Settled t ∧ KeepsRest [.SAFE] s t ∧
        (s.sfDem w f = true → (t.sfRun w).testBit f = false ∧
          (s.sfEn f = true → s.sfTrig w f = false → s.sfRman f = false → t.sfDem w f = false)))) ∧
    let tpw := 1000 * s.spr 3 15 0
    (∀ (k : Fin 4) (follows : Bool),
      let per := 1000000 * s.spr 3 31 16
      let e := (s.upNs - (s.timerAt .cycle).getD 0) % per
      let due := s.chUp true = true ∧ s.safe.tpLow.testBit k = false ∧ k * per / 4 ≤ e ∧ e < k * per / 4 + tpw
      (¬due → exec (.testPulse k follows) s = .next s) ∧
      (due → Does (.testPulse k follows) s fun t => t.safe.tpLow = s.safe.tpLow ||| 2 ^ k.val ∧
        (follows = false → tblGet (fun _ => 0) s.safe.tpBad k ≠ 0 → LocksOut s t 5) ∧
        (follows = true ∨ tblGet (fun _ => 0) s.safe.tpBad k = 0 → t.regs = s.regs))) ∧
    (∀ (k : Fin 4) (low around : BitVec 16),
      let own := fun i => s.spr (8 + i) 1 1 = 1 ∧ s.spr (8 + i) 3 2 = k
      let miss := fun i => s.siUsed i = true ∧ own i ∧ low.getLsbD i = false
      let xsh := fun i => s.siUsed i = true ∧ ¬own i ∧ low.getLsbD i = true ∧ around.getLsbD i = true
      let runs := s.chUp true = true ∧ s.safe.tpLow.testBit k = true ∧ ran (.pulse k) (tpw + 50000)
      (¬runs → exec (.testWindowEnd k low around) s = .next s) ∧
      (runs → Does (.testWindowEnd k low around) s fun t => t.safe.tpLow.testBit k = false ∧
        (∀ i < 16, (miss i → (t.rd R.SAFE_SIF).getLsbD i = true) ∧ (xsh i → (t.rd R.SAFE_SIF).getLsbD (16 + i) = true)) ∧
        ((∃ i < 16, miss i ∨ xsh i) → LocksOut s t 5) ∧ ((∀ i < 16, ¬miss i ∧ ¬xsh i) → t.regs = s.regs))) ∧
    (∀ p : Fin 8, let odd := s.chUp w = true ∧ s.pairOdd w p = true ∧ ran (.disc w p) (1000000 * s.spr (24 + p) 15 8)
      (¬odd → exec (.disc w p) s = .next s) ∧
      (odd → Does (.disc w p) s fun t => LocksOut s t 6 ∧ (t.rd R.SAFE_SIP).getLsbD p = true)) ∧
    Does (.permitLoss w) s (fun t => t.chUp w = false ∧ Settled t ∧
      (∀ c < 4, t.safe.drv.testBit (2 * c + (!w).toNat) = false) ∧ KeepsRest [.SAFE] s t) ∧
    (let on := s.pdRun 2 = true ∧ s.chUp true = true
     (¬on → exec .safeStop s = .next s) ∧
     (on → Does .safeStop s fun t => (∀ v, ∀ f < 8, t.sfDem v f = s.sfEn f) ∧ KeepsRest [.SAFE] s t ∧
       ((∃ f < 8, s.sfEn f = true ∧ s.sfSpi f = true) → t.on R.SAFE_STAT_PW = false ∧ t.on R.SAFE_STAT_PF = false)) ∧
     ∀ m : BitVec 8, (¬on → exec (.safeRestart m) s = .next s) ∧
       (on → Does (.safeRestart m) s fun t => Settled t ∧ KeepsRest [.SAFE] s t ∧
         ∀ v, ∀ f < 8, s.sfEn f = true → s.sfDem v f = true → s.sfRman f = true → (s.sfRst v).testBit f = false →
           (t.sfDem v f = false ↔ s.sfTrig v f = false ∧ (s.sfRun v).testBit f = false ∧ m.getLsbD f = true ∧
             s.sfRsrc f = false))) ∧
    (let r := s.bat.clkLoss = true ∧ s.pdRun 12 = true ∧ s.permit false = true
     (¬r → exec .pfRestore s = .next s) ∧
     (r → Does .pfRestore s fun t => t.bat.clkLoss = false ∧ Settled t ∧ KeepsRest [.SAFE] s t))

/-- Relay chains, supervision and lock-out (R412, R416, R417, R437, R438, R440 to R442, R449, R452). Readings and choices of
the model's own that it rests on: log entries 81, 83, 85 and 136. -/
def Obligations.SafetyChains : Prop :=
  ∀ (s : State) (w : Bool),
    (∀ v : BitVec 4, let may := s.pdRun 2 = true ∧ s.on R.SYSCTL_FUSESTAT_TRIMFAIL = false
      (¬may → exec (.safeRcreqWrite v) s = .next s) ∧
      (may → Does (.safeRcreqWrite v) s fun t => Settled t ∧ KeepsRest [.SAFE] s t ∧
        t.get R.SAFE_RCREQ_CLOSE = v.toNat &&& (15 - t.chainsDemanded))) ∧
    let ran := fun (i : Timer) (ns : Nat) => ∃ t0, s.timerAt i = some t0 ∧ t0 + ns ≤ s.upNs
    let at' := fun (i : Timer) => (s.timerAt i).getD 0
    (∀ c : Fin 4,
      let k := 2 * c.val + (!w).toNat
      let closed := max (at' (.switch (2 * c))) (at' (.switch (2 * c + 1)))
      let last := at' (.dark (2 * c))
      let per := 100000000 * s.spr (64 + 4 * c) 15 8
      let may := s.chUp w = true ∧ s.safe.drv.testBit (2 * c) = true ∧ s.safe.drv.testBit (2 * c + 1) = true ∧ s.darkOf k = 0 ∧
        (w = true → max closed last + per ≤ s.upNs) ∧
        (w = false → closed < last ∧ at' (.dark (2 * c + 1)) < last ∧ last + per / 2 ≤ s.upNs)
      (¬may → exec (.darkTest c w) s = .next s) ∧
      (may → Does (.darkTest c w) s fun t => t.darkOf k = 1 ∧ t.safe.drv = s.safe.drv ∧
        t.timerAt (.dark k) = some s.upNs ∧
        (0 < s.spr (65 + 4 * c) 15 0 → t.on (if w then R.SAFE_RC_CMDH c else R.SAFE_RC_CMDL c) = false) ∧ KeepsRest [.SAFE] s t)) ∧
    (∀ (c : Fin 4) (rbh rbl : Bool),
      (s.pdRun 2 = false → exec (.readbackCheck c rbh rbl) s = .next s) ∧
      (s.pdRun 2 = true → Does (.readbackCheck c rbh rbl) s fun t =>
        let en := s.spr (64 + 4 * c) 0 0 = 1
        let conducts := fun (h : Bool) => if h then rbh else rbl
        let k := fun (h : Bool) => 2 * c.val + (!h).toNat
        let tests := fun (h : Bool) => s.darkOf (k h) ≠ 0
        let over' := fun (h : Bool) => ran (.dark (k h)) (1000 * s.spr (65 + 4 * c) 15 0)
        let cmd := fun (h : Bool) => s.safe.drv.testBit (k h) = true ∧ (tests h → over' h)
        let since := fun (h : Bool) => if tests h then at' (.dark (k h)) + (if s.darkOpen (k h) then 0 else 1000 * s.spr (65 + 4 * c) 15 0)
          else at' (.switch (k h))
        let judged := fun (h : Bool) => since h + 1000 * s.spr (65 + 4 * c) 31 16 ≤ s.upNs
        let stuck := fun h => en ∧ judged h ∧ conducts h = true ∧ ¬cmd h
        let opn := fun h => en ∧ judged h ∧ conducts h = false ∧ cmd h
        t.on (R.SAFE_RC_RBH c) = rbh ∧ t.on (R.SAFE_RC_RBL c) = rbl ∧
        (t.on (R.SAFE_RC_SCH c) = true ↔ s.on (R.SAFE_RC_SCH c) = true ∨ stuck true) ∧
        (t.on (R.SAFE_RC_SCL c) = true ↔ s.on (R.SAFE_RC_SCL c) = true ∨ stuck false) ∧
        (t.on (R.SAFE_RC_SOH c) = true ↔ s.on (R.SAFE_RC_SOH c) = true ∨ opn true) ∧
        (t.on (R.SAFE_RC_SOL c) = true ↔ s.on (R.SAFE_RC_SOL c) = true ∨ opn false) ∧
        (stuck true ∨ stuck false ∨ opn true ∨ opn false → LocksOut s t 7) ∧
        (¬(stuck true ∨ stuck false ∨ opn true ∨ opn false) → t.locked = s.locked ∧ t.rd R.SAFE_LOCK = s.rd R.SAFE_LOCK))) ∧
    (∀ c : Fin 4,
      let fails := s.chUp true = true ∧ s.spr (64 + 4 * c) 0 0 = 1 ∧ s.spr (64 + 4 * c) 21 21 = 1 ∧
        s.safe.drv.testBit (2 * c.val) = s.safe.drv.testBit (2 * c.val + 1) ∧
        max (at' (.switch (2 * c))) (at' (.switch (2 * c + 1))) + 250000000 ≤ s.upNs ∧
        s.darkOf (2 * c) = 0 ∧ s.darkOf (2 * c + 1) = 0 ∧
        s.on (R.SAFE_RC_EDM c) = s.safe.drv.testBit (2 * c.val)
      (¬fails → exec (.edmCheck c) s = .next s) ∧
      (fails → Does (.edmCheck c) s fun t => LocksOut s t 7 ∧ t.on (R.SAFE_RC_EDMF c) = true)) ∧
    (let odd := (s.get R.SAFE_SF_DEMW ≠ s.get R.SAFE_SF_DEMF ∨ s.permit true ≠ s.permit false) ∧ ran .disag 20000000
     (¬odd → exec .disag s = .next s) ∧ (odd → Does .disag s fun t => LocksOut s t 4)) ∧
    (let late := s.chUp false = true ∧ ran .heartbeat (1000 * s.spr 4 31 16 + 1)
     (¬late → exec .whb s = .next s) ∧ (late → Does .whb s fun t => LocksOut s t 1)) ∧
    (∀ p ∈ [(Instr.wclk, false, 2), (.fclk, true, 3), (.fpd, false, 11)],
      (s.chUp p.2.1 = false → exec p.1 s = .next s) ∧ (s.chUp p.2.1 = true → Does p.1 s fun t => LocksOut s t p.2.2)) ∧
    (∀ v : Word,
      let bad := (v ≠ 0x5A5A ∧ v ≠ 0xA5A5) ∨ s.safe.hb = some v ∨ ran .heartbeat (1000 * s.spr 4 31 16 + 1) ∨
        (s.safe.hb ≠ none ∧ ¬ran .heartbeat (1000 * s.spr 4 15 0))
      (s.chUp true = false → exec (.wardenHeartbeat v) s = .next s) ∧
      (s.chUp true = true → Does (.wardenHeartbeat v) s fun t => t.safe.hb = some v ∧ t.timerAt .heartbeat = some s.upNs ∧
        (s.chUp false = true → bad → LocksOut s t 1) ∧ (s.chUp false = false ∨ ¬bad → t.regs = s.regs))) ∧
    (∀ pd : Fin 16, (s.chUp w = false ∨ pd.val < 3 → exec (.clockObserverFailure w pd) s = .next s) ∧
      (s.chUp w = true → 3 ≤ pd.val → Does (.clockObserverFailure w pd) s fun t =>
        (t.rd R.SAFE_CLKMON).getLsbD (pd - 3 + (if w then 16 else 0)) = true ∧ (s.locked = false → t.locked = false))) ∧
    (∀ (k : Fin 16) (upper : Bool),
      let i := 2 * k.val + upper.toNat
      let named := s.chUp true = true ∧ (s.spr 5 15 0).testBit k = true ∧ s.safe.winBy = 0 ∧
        (s.timerAt (.window i) = none ∨ ran (.window i) (8 * 3600 * 1000000000))
      let n := tblGet (fun _ => 0) s.safe.winFail k
      (¬named → exec (.windowTestTimer k upper) s = .next s) ∧
      (named → (s.win k).test = none → Does (.windowTestTimer k upper) s fun t => (t.win k).test = some upper ∧
        t.safe.winBy = 2 ^ k.val ∧ t.timerAt (.window i) = some s.upNs ∧ t.regs = s.regs) ∧
      (named → (s.win k).test ≠ none → Does (.windowTestTimer k upper) s fun t =>
        tblGet (fun _ => 0) t.safe.winFail k = min 3 (n + 1) ∧ (2 ≤ n → LocksOut s t 13) ∧ (n < 2 → t.regs = s.regs))) ∧
    (let tries := s.safe.lockDue = true ∧ s.chUp true = true ∧ ran .lock 10000000 ∧
       (∀ b ∈ s.eaves.reqs, ¬(b.req = .warden ∧ b.dst = 0x0107FC00)) ∧
       (∀ b, s.eaves.burst = some b → ¬(b.req = .warden ∧ b.dst = 0x0107FC00))
     (¬tries → exec .lockRecordRetry s = .next s) ∧
     (tries → Does .lockRecordRetry s fun t => t.safe = s.safe ∧ t.regs = s.regs ∧
       (s.eaves.on = true → t.eaves.reqs = s.eaves.reqs ++ [⟨.warden, 0x0107FC00, s.lockRecord, 15⟩]))) ∧
    (∀ differs : Bool,
      let bad := s.chUp w = true ∧ s.safe.loaded = true ∧ (differs = true ∨ sprCrc s.sprWords ≠ s.rd (R.SAFE_PAR 127))
      (¬bad → exec (.paramCrcCheck w differs) s = .next s) ∧
      (bad → Does (.paramCrcCheck w differs) s fun t => LocksOut s t 9)) ∧
    (let may := s.pdRun 2 = true ∧ s.get R.SAFE_STAT_STATE = 2 ∧ ran .par 100000000
     (¬may → exec .pcf s = .next s) ∧
     (may → Does .pcf s fun t => LocksOut s t 9 ∧ t.rd R.SAFE_PARCRC = 0))

/-- Black-channel messages (R430 to R436): a PDU is sent or suppressed and its SEQ consumed; a copy is judged for every enabled
subscription in both channels' views. Readings and choices of the model's own that it rests on: log entries 82 and 136. -/
def Obligations.SafetyMessages : Prop :=
  ∀ (s : State),
    let ran := fun (i : Timer) (ns : Nat) => ∃ t0, s.timerAt i = some t0 ∧ t0 + ns ≤ s.upNs
    (∀ n : Fin 4,
      let may := s.chUp true = true ∧ s.on (R.SAFE_TX_CTRL_EN n) = true ∧ ran (.publish n) (1000000 * s.spr (97 + 4 * n) 15 0)
      let seq := tblGet (fun _ => 0) s.safe.txSeq n + 1
      (¬may → exec (.safeFramePublish n) s = .next s) ∧
      (may → Does (.safeFramePublish n) s fun t => tblGet (fun _ => 0) t.safe.txSeq n = seq ∧
        t.get (R.SAFE_TX_CTRL_SEQL n) = seq.toNat % 65536 ∧ KeepsRest [.SAFE] s t ∧
        (s.chUp false = false ∨ s.pduBad = true → t.on (R.SAFE_TX_CTRL_SUPR n) = true ∧ t.enets = s.enets ∧
          t.safe.txPdu = s.safe.txPdu) ∧
        (s.chUp false = true → s.pduBad = false → tblGet (fun _ => []) t.safe.txPdu n = s.pdu n seq ∧
          t.on (R.SAFE_TX_CTRL_SUPR n) = s.on (R.SAFE_TX_CTRL_SUPR n) ∧ (s.pdu n seq).length = 44))) ∧
    (∀ (net : Bool) (p : List Byte), Does (.safeFrameReceive net p) s fun t => Settled t ∧
      let seq := BitVec.ofNat 32 (natBE ((p.drop 12).take 4))
      let sess := natBE ((p.drop 2).take 2)
      let intact := 44 ≤ p.length ∧ natBE ((p.drop 40).take 4) = (crc32c (p.take 40)).toNat
      ∀ w, ∀ k < 4,
        let x := s.rxOf w k
        let y := t.rxOf w k
        let mine := p.take 1 = [1] ∧ natBE ((p.drop 8).take 4) = (s.rd (R.SAFE_PAR 2)).toNat ∧
          natBE ((p.drop 4).take 4) = (s.rd (R.SAFE_PAR (80 + 4 * k))).toNat
        let stale := w = true ∧ s.on R.TIME_STAT_TSYN = true ∧ s.rxStale k p = true
        let judged := s.on (R.SAFE_RX_STAT_EN k) = true ∧ s.chUp w = true ∧ intact ∧ mine ∧ ¬stale
        let d := (seq - x.seq).toInt
        (¬judged → y = x) ∧
        (judged → x.sess = some sess → 0 < d → y.sess = x.sess ∧ y.seq = seq ∧ y.cmd = natBE ((p.drop 24).take 2) ∧
          y.wdel = false ∧ (y.waiting = true ↔ x.waiting = true ∧ d ≠ 1) ∧ y.first = x.first ++ [⟨seq, net, p, s.upNs⟩]) ∧
        (judged → x.sess = some sess → d < 0 → y = x) ∧
        (judged → x.sess = some sess → d = 0 → y.seq = x.seq ∧ y.cmd = x.cmd ∧ y.wdel = x.wdel ∧
          (∀ e ∈ x.first, e.seq = seq → (∀ e' ∈ x.first, e'.seq = seq → e' = e) →
            s.upNs < e.at' + 1000000 * s.spr (81 + 4 * k) 31 16 → e.pdu.take 44 ≠ p.take 44 →
            t.locked = true ∧ (t.rd R.SAFE_LOCK).getLsbD 8 = true) ∧
          ((∀ e ∈ x.first, e.seq = seq → e.at' + 1000000 * s.spr (81 + 4 * k) 31 16 ≤ s.upNs) →
            y = x ∧ (w = true → t.on (R.SAFE_RX_STAT_LATE k) = true))) ∧
        (judged → x.sess ≠ some sess → x.sess = none ∨ x.wdel = true ∨ (1 ≤ seq.toNat ∧ seq.toNat ≤ 16) →
          y.sess = some sess ∧ y.seq = seq ∧ y.wdel = false ∧ rxCmd y = 0) ∧
        (judged → x.sess ≠ some sess → x.sess ≠ none → x.wdel = false → ¬(1 ≤ seq.toNat ∧ seq.toNat ≤ 16) → y = x)) ∧
    (∀ k : Fin 4, Does (.dupwinExpiry k) s fun t =>
      let ended := fun (e : RxCopy) => e.at' + 1000000 * s.spr (81 + 4 * k) 31 16 ≤ s.upNs
      (∀ w, (t.rxOf w k).first = (match (s.rxOf w k).first with | [] => [] | e :: l => if ended e then l else e :: l)) ∧
      ((∀ e l, (s.rxOf true k).first = e :: l → ¬ended e) → t.regs = s.regs) ∧
      (∀ e l, (s.rxOf true k).first = e :: l → ended e → t.on (R.SAFE_RX_STAT_NDA k) = e.net ∧
        t.on (R.SAFE_RX_STAT_NDB k) = !e.net ∧
        t.get (R.SAFE_RX_CNT_SGL k) = min 255 (s.get (R.SAFE_RX_CNT_SGL k) + 1))) ∧
    (∀ (w : Bool) (k : Fin 4),
      let may := s.chUp w = true ∧ s.on (R.SAFE_RX_STAT_EN k) = true ∧ (s.rxOf w k).wdel = false ∧
        ran (.rx w k) (1000000 * s.spr (81 + 4 * k) 15 0)
      (¬may → exec (.subscriptionWatchdog w k) s = .next s) ∧
      (may → Does (.subscriptionWatchdog w k) s fun t => Settled t ∧ t.rxOf w k = { s.rxOf w k with wdel := true } ∧
        rxCmd (t.rxOf w k) = 0 ∧
        (w = true → t.on (R.SAFE_RX_STAT_WDE k) = true ∧ t.on (R.SAFE_RX_STAT_WDEL k) = true ∧
          t.get (R.SAFE_RX_CMD_CMD k) = 0))) ∧
    (s.pdRun 2 = false → exec .safeCntclr s = .next s) ∧
    (s.pdRun 2 = true → Does .safeCntclr s fun t => (∀ k < 4, t.rd (R.SAFE_RX_CNT k) = 0) ∧
      OnlyRegs ((List.range 4).map R.SAFE_RX_CNT) s t)

/-- Authorisation, deliberate reset and commissioning (R443 to R446, R450 to R452). The nonce and the session are free values
(log entry 32). Readings and choices of the model's own that it rests on: log entries 81, 82, 83 and 84. -/
def Obligations.SafetyAccess : Prop :=
  ∀ s : State,
    let up := s.pdRun 2 = true ∧ s.chUp true = true
    let unl := s.get R.SAFE_STAT_UNLST
    (∀ p ∈ [(Instr.unlockRequest, 0), (.editRequest, 1)],
      (¬(up ∧ unl ≠ 3) → exec p.1 s = .next s) ∧
      (up → unl ≠ 3 → Does p.1 s fun t => t.get R.SAFE_STAT_UNLST = 1 ∧ t.get R.SAFE_STAT_PURP = p.2 ∧
        t.rd (R.SAFE_UNLCH 0) ++ t.rd (R.SAFE_UNLCH 1) = t.safe.nonce ∧ t.safe.lockAt = s.rd R.SAFE_LOCK ∧
        t.freeCtr = s.freeCtr + 2 ∧ KeepsRest [.SAFE] s t)) ∧
    (∀ v : Word,
      let key := s.fuseKey 58
      let good := rspBytes (tblSet (fun _ => 0) s.safe.rsp 7 v) = hmac key s.unlMsg ∧ keyZero key = false ∧
        s.rd R.SAFE_LOCK = s.safe.lockAt
      (¬(up ∧ unl = 1) → exec (.unlockResponse v) s = .next s) ∧
      (up → unl = 1 → Does (.unlockResponse v) s fun t => t.safe.nonce = 0 ∧ t.rd (R.SAFE_UNLCH 0) = 0 ∧
        t.rd (R.SAFE_UNLCH 1) = 0 ∧
        (good → t.get R.SAFE_STAT_UNLST = 2 ∧ t.safe.fails = 0 ∧ t.on R.SAFE_STAT_UNLF = s.on R.SAFE_STAT_UNLF) ∧
        (¬good → t.on R.SAFE_STAT_UNLF = true ∧ t.get R.SAFE_STAT_UNLST = (if s.safe.fails = 2 then 3 else 0) ∧
          t.safe.fails = if s.safe.fails = 2 then 0 else s.safe.fails + 1))) ∧
    (∀ p ∈ [(Instr.unlockPendExpiry, 2, Timer.pend, 60), (.unlockBlockExpiry, 3, .block, 600)],
      let due := s.pdRun 2 = true ∧ unl = p.2.1 ∧ ∃ t0, s.timerAt p.2.2.1 = some t0 ∧ t0 + p.2.2.2 * 1000000000 ≤ s.upNs
      (¬due → exec p.1 s = .next s) ∧
      (due → Does p.1 s fun t => t.get R.SAFE_STAT_UNLST = 0 ∧ OnlyRegs [R.SAFE_STAT] s t)) ∧
    (∀ (lw lf : Nat) (fault : Bool),
      let acc := fun x => 100000 ≤ x ∧ x ≤ 2000000
      let both := s.chUp true = true ∧ s.chUp false = true ∧ acc lw ∧ acc lf
      let auth := s.locked = true ∧ unl = 2 ∧ s.get R.SAFE_STAT_PURP = 0
      let standing := fault = true ∨ s.faultStands = true
      (lw < 1000 → lf < 1000 → exec (.srstPulse lw lf fault) s = .next s) ∧
      (1000 ≤ lw ∨ 1000 ≤ lf → ¬both → Does (.srstPulse lw lf fault) s fun t => OnlyRegs [R.SAFE_STAT] s t ∧
        (s.pdRun 2 = true → t.on R.SAFE_STAT_SRJ = true)) ∧
      (both → ¬auth → exec (.srstPulse lw lf fault) s = .next s) ∧
      (both → auth → standing → Does (.srstPulse lw lf fault) s fun t => t.locked = true ∧ t.get R.SAFE_STAT_UNLST = 0 ∧
        t.rd R.SAFE_LOCK = s.rd R.SAFE_LOCK) ∧
      (both → auth → ¬standing → Does (.srstPulse lw lf fault) s fun t =>
        t.get R.SAFE_STAT_STATE = (if s.safe.loaded then 3 else 2) ∧ t.get R.SAFE_LOCK_CAUSE = 0 ∧
        t.get R.SAFE_LOCK_LCNT = s.get R.SAFE_LOCK_LCNT ∧ t.get R.SAFE_STAT_UNLST = 0 ∧
        (∀ w, ∀ f < 8, t.sfDem w f = s.sfEn f) ∧ t.safe.lockDue = true)) ∧
    (∀ (k : Fin 128) (v : Word),
      let edits := s.get R.SAFE_STAT_STATE = 1 ∨ s.get R.SAFE_STAT_STATE = 2
      (s.pdRun 2 = false → exec (.safeParWrite k v) s = .next s) ∧
      (s.pdRun 2 = true → edits → Does (.safeParWrite k v) s fun t => t.rd (R.SAFE_PAR k) = v ∧
        t.get R.SAFE_STAT_STATE = 2 ∧ t.safe.loaded = false ∧ t.rd R.SAFE_PARCRC = sprCrc t.sprWords ∧
        (∀ j < 128, j ≠ k.val → t.rd (R.SAFE_PAR j) = s.rd (R.SAFE_PAR j))) ∧
      (s.pdRun 2 = true → ¬edits → s.rd (R.SAFE_PAR k) = v → exec (.safeParWrite k v) s = .next s) ∧
      (s.pdRun 2 = true → ¬edits → s.rd (R.SAFE_PAR k) ≠ v → Does (.safeParWrite k v) s fun t =>
        t.on R.SAFE_STAT_PARW = true ∧ OnlyRegs [R.SAFE_STAT] s t)) ∧
    (∀ v : Word,
      let may := up ∧ s.get R.SAFE_STAT_STATE = 2
      let same := v = s.rd R.SAFE_PARCRC ∧ s.sprValid = true
      (¬may → exec (.safeConfirm v) s = .next s) ∧
      (may → ¬same → Does (.safeConfirm v) s fun t => t.on R.SAFE_STAT_CNFE = true ∧ OnlyRegs [R.SAFE_STAT] s t) ∧
      (may → same → Does (.safeConfirm v) s fun t => t.operate = true ∧ t.safe.loaded = true ∧
        (∀ w, ∀ f < 8, t.sfDem w f = s.sfEn f) ∧
        (s.eaves.on = true → t.eaves.reqs = s.eaves.reqs ++
          [⟨.warden, 0x0107F000, s.sprWords, 127⟩, ⟨.warden, 0x0107F200, s.sprWords, 127⟩]))) ∧
    (let may := up ∧ s.operate = true
     let ok := unl = 2 ∧ s.get R.SAFE_STAT_PURP = 1 ∧
       ∀ f < 8, s.sfEn f = true → s.sfDem true f = true ∧ s.sfDem false f = true
     (¬may → exec .safeEdit s = .next s) ∧
     (may → ¬ok → Does .safeEdit s fun t => t.on R.SAFE_STAT_PARW = true ∧ OnlyRegs [R.SAFE_STAT] s t) ∧
     (may → ok → Does .safeEdit s fun t => t.get R.SAFE_STAT_STATE = 2 ∧ t.sprWords = s.sprWords)) ∧
    (let may := s.pdRun 1 = true ∧ s.pdRun 2 = true ∧ s.get R.SAFE_STAT_STATE = 0
     let a := s.copyGood 0x0107F000 s.safe.markA
     let b := s.copyGood 0x0107F200 s.safe.markB
     (¬may → exec .safetyInit s = .next s) ∧
     (may → Does .safetyInit s fun t =>
       t.safe.session ≠ 0 ∧ t.safe.session < 65536 ∧ t.safe.session ≠ s.safe.session ∧
       (s.lockValid = true → t.locked = true ∧ (t.rd R.SAFE_LOCK).getLsbD 12 = true) ∧
       (s.lockValid = false → t.get R.SAFE_STAT_STATE = if a || b then 3 else 1) ∧
       t.sprWords = (if a then s.memWords 0x0107F000 128 else if b then s.memWords 0x0107F200 128
         else (List.range 128).map sprDefault) ∧
       t.safe.loaded = (a || b) ∧ ∀ w, ∀ f < 8, t.sfDem w f = t.sfEn f))

/-! ### Lanes, networks, Eaves and the log -/

/-- Lanes (R489, R493 to R506, R508 to R515), while PD14 runs: alignment and its loss, frames sent with their layout, frames
received and rejected, messages. What the line brings comes scrambled in blocks of 66 bits (R492): descrambling undoes
scrambling, and blocks make a frame, a violation or nothing (R493). A burst error is one fault of R44, so that R45 must be met.
DTIM and DMID are sent once per release cycle, DINH again after 2 µs; an eye-scan point ends when its bits have come. Readings
and choices of the model's own that it rests on: log entries 87, 88, 89, 105 and 132. -/
def Obligations.LaneCommands : Prop :=
  (∀ (p : BitVec 58) (l : List (BitVec 2 × BitVec 64)), blocksOf p (lineOf p l) = l) ∧
  (∀ (sof eof : BitVec 64) (data rest : List (BitVec 2 × BitVec 64)), (∀ x ∈ data, x.1 = 1) →
    sof.extractLsb' 0 8 = 0x78#8 → eof.extractLsb' 0 8 = 0x87#8 → data.length = (sof.extractLsb' 16 8).toNat →
    frameIn ([(2, sof)] ++ data ++ [(2, eof)] ++ rest) =
      some (some ((blockBytes sof).drop 1 ++ data.flatMap (fun x => blockBytes x.2) ++ ((blockBytes eof).drop 1).take 4)) ∧
    (∀ a : BitVec 64, a.extractLsb' 0 8 = 0xAA#8 → frameIn ([(2, sof)] ++ data ++ [(2, a)] ++ rest) = none) ∧
    (∀ x : BitVec 2 × BitVec 64, x.1 ≠ 1 → x.1 ≠ 2 ∨ x.2.extractLsb' 0 8 ∉ [0x87#8, 0xAA#8] →
      frameIn ([(2, sof)] ++ data ++ [x] ++ rest) = some none) ∧
    (∀ d : BitVec 64, frameIn ([(2, sof)] ++ data ++ [(1, d)] ++ [(2, eof)] ++ rest) = some none)) ∧
  ∀ (s : State) (n : Fin 32), s.pdRun 14 = true →
    let l := s.lane n
    let en := s.on (R.PURLIN_LANE_CFG_EN n)
    let mode := s.get (R.PURLIN_LANE_CFG_MODE n)
    let framed := en = true ∧ (mode = 1 ∨ mode = 2)
    let aligned := s.on (R.PURLIN_LANE_STAT_ALIGNED n)
    let frame := fun ty seq (hdr : Word) (pay : List Byte) =>
      [0x78#8] ++ frameBody ty seq hdr pay ++ [0x87#8] ++ bytesBE 4 (crc32c (frameBody ty seq hdr pay)).toNat ++ [0, 0, 0]
    let lost := fun (t : State) => t.on (R.PURLIN_LANE_STAT_ALIGNED n) = false ∧ t.on (R.PURLIN_LANE_STAT_LATV n) = false ∧
      t.on (R.PURLIN_LANE_STAT_LUP n) = false ∧ t.on (R.PURLIN_LANE_STAT_ALOST n) = true ∧
      t.get (R.PURLIN_LANE_CNT_ALC n) = min 255 (s.get (R.PURLIN_LANE_CNT_ALC n) + 1) ∧
      (en = true → mode = 1 → t.on (R.PURLIN_LANE_STAT_BURST n) = true ∧ (t.lane n).burst = true)
    (en = true → exec (.laneEnable n) s = .next s) ∧
    (en = false → s.laneAllowed n = false → Does (.laneEnable n) s fun t => t.on (R.PURLIN_LANE_STAT_CFE n) = true ∧
      t.on (R.PURLIN_LANE_CFG_EN n) = false ∧ OnlyRegs [R.PURLIN_LANE_STAT n] s t) ∧
    (en = false → s.laneAllowed n = true → Does (.laneEnable n) s fun t => t.on (R.PURLIN_LANE_CFG_EN n) = true ∧
      t.lane n = laneReset ∧ t.get (R.PURLIN_LANE_LMIN_LMIN n) = min 0xFFFF (s.lminOf n)) ∧
    (¬(en = true ∧ mode ≠ 0) → exec (.cdrLock n) s = .next s) ∧
    (en = true → mode ≠ 0 → Does (.cdrLock n) s fun t => t.on (R.PURLIN_LANE_STAT_RXLOCK n) = true ∧
      OnlyRegs [R.PURLIN_LANE_STAT n] s t) ∧
    let alone := s.r45 = true ∨ l.burst = true ∨ ¬(en = true ∧ mode = 1)
    Does (.rxlockFall n) s (fun t => t.on (R.PURLIN_LANE_STAT_RXLOCK n) = false ∧ (aligned = true → alone → lost t) ∧
      (aligned = false → OnlyRegs [R.PURLIN_LANE_STAT n] s t)) ∧
    (∀ bad, (s.on (R.PURLIN_LANE_STAT_RXLOCK n) = false ∨ ¬framed → exec (.hbadWindow n bad) s = .next s) ∧
      (framed → s.on (R.PURLIN_LANE_STAT_RXLOCK n) = true → bad < 16 ∨ aligned = false ∨ alone → Does (.hbadWindow n bad) s fun t =>
        t.get (R.PURLIN_LANE_STAT_HBAD n) = min 1024 bad ∧ (16 ≤ bad → aligned = true → lost t) ∧
        (bad < 16 ∨ aligned = false → OnlyRegs [R.PURLIN_LANE_STAT n] s t))) ∧
    (¬framed → exec (.slip n) s = .next s ∧ exec (.align n) s = .next s ∧ exec (.unalign n) s = .next s) ∧
    (framed → Does (.slip n) s fun t => t = s.setLane n (t.lane n) ∧ t.lane n = { l with slips := (l.slips + 1) % 66 }) ∧
    (framed → aligned = true → exec (.align n) s = .next s) ∧
    (framed → aligned = false → Does (.align n) s fun t => t.on (R.PURLIN_LANE_STAT_ALIGNED n) = true ∧
      t.on (R.PURLIN_LANE_STAT_LATV n) = false ∧ t.on (R.PURLIN_LANE_STAT_LUP n) = false ∧
      (mode = 2 → (t.lane n).out = frame 7 l.txSeq (BitVec.ofNat 32 (s.esize (s.get (R.PURLIN_LANE_MSG_RXQ n)))) [])) ∧
    (framed → Does (.unalign n) s fun t => t.on (R.PURLIN_LANE_STAT_ALIGNED n) = false ∧
      t.on (R.PURLIN_LANE_STAT_LUP n) = false ∧ t.on (R.PURLIN_LANE_STAT_ALOST n) = s.on (R.PURLIN_LANE_STAT_ALOST n)) ∧
    (en = false → exec (.esgo n) s = .next s) ∧
    (en = true → Does (.esgo n) s fun t => t.rd (R.PURLIN_LANE_ESERR n) = 0 ∧
      (t.lane n).scan = some (min 24 (s.get (R.PURLIN_LANE_ESCAN_BITS n))) ∧ t.timerAt (.scan n) = some s.upNs ∧
      KeepsRest [.PURLIN] s t) ∧
    (∀ errs, (l.scan = none → exec (.eyeScanDone n errs) s = .next s) ∧
      (∀ b, l.scan = some b →
        (s.past (.scan n) (s.scanNs n b) = false → exec (.eyeScanDone n errs) s = .next s) ∧
        (s.past (.scan n) (s.scanNs n b) = true → Does (.eyeScanDone n errs) s fun t =>
          (t.rd (R.PURLIN_LANE_ESERR n)).toNat = min 0xFFFFFFFF (min (2 ^ (b + 16)) errs) ∧
          t.on (R.PURLIN_LANE_STAT_ESD n) = true ∧ (t.lane n).scan = none ∧ KeepsRest [.PURLIN] s t))) ∧
    Does (.purlinCntclr n) s (fun t => t.rd (R.PURLIN_LANE_CNT n) = 0 ∧ OnlyRegs [R.PURLIN_LANE_CNT n] s t) ∧
    (let may := en = true ∧ mode = 2 ∧ aligned = true
     let pop := s.qPopFree (s.get (R.PURLIN_LANE_MSG_TXQ n)) 256
     let sends := may ∧ l.unacked.length < l.free
     (¬sends → exec (.msgSend n) s = .next s) ∧
     (sends → Does (.msgSend n) s fun t =>
       (pop.2.code ≠ 0 → t = pop.1) ∧
       (pop.2.code = 0 → s.get (R.PURLIN_LANE_MSG_PEER n) < pop.2.len →
         t.on (R.PURLIN_LANE_STAT_MTB n) = true ∧ (t.lane n).out = l.out ∧ (t.lane n).unacked = l.unacked) ∧
       (pop.2.code = 0 → pop.2.len ≤ s.get (R.PURLIN_LANE_MSG_PEER n) →
         (t.lane n).out = frame 5 l.txSeq (BitVec.ofNat 32 pop.2.len) (toBlocks pop.2.msg) ∧
         (t.lane n).unacked = l.unacked ++ [l.txSeq] ∧ (t.lane n).txSeq = (l.txSeq + 1) % 256)) ∧
     ∀ (prev : BitVec 58) (line : List (BitVec 66)), let got := s.received n prev line
      ∀ i ∈ [Instr.laneMsg n prev line, .laneMack n prev line, .laneMcfg n prev line],
       (¬may ∨ got = none → exec i s = .next s) ∧
       (may → got = some none ∨ (∃ f, got = some (some f) ∧ frameGood [5, 6, 7] f false = false) →
         Does i s fun t => OnlyRegs [R.PURLIN_LANE_CNT n] s t ∧
           t.get (R.PURLIN_LANE_CNT_CRCE n) = min 255 (s.get (R.PURLIN_LANE_CNT_CRCE n) + 1)) ∧
       ∀ f, got = some (some f) →
       (may → let len := frameHdr f % 512
         frameGood [5] f false = true → natLE ((f.drop 1).take 1) = (len + 7) / 8 → Does i s fun t =>
           let q := s.get (R.PURLIN_LANE_MSG_RXQ n)
           let r := (s.qPushFree q ((framePay f).take len)).2
           t.msgs q = (if r.code = 0 then s.msgs q ++ [(framePay f).take len] else s.msgs q) ∧
           (t.lane n).out = frame 6 l.txSeq (BitVec.ofNat 32 (frameSeq f + 256 * r.code +
             65536 * t.get (R.QUEUE_STAT_FREE q))) []) ∧
       (may → frameGood [6] f false = true → Does i s fun t =>
         (t.lane n).free = bitsOf (frameHdr f) 24 16 ∧ (t.lane n).unacked = l.unacked.erase (frameHdr f % 256) ∧
         (t.on (R.PURLIN_LANE_STAT_MTB n) = true ↔ s.on (R.PURLIN_LANE_STAT_MTB n) = true ∨ bitsOf (frameHdr f) 15 8 ≠ 0)) ∧
       (may → frameGood [7] f false = true → Does i s fun t =>
         t.get (R.PURLIN_LANE_MSG_PEER n) = frameHdr f % 512 ∧ KeepsRest [.PURLIN] s t)) ∧
    (∀ (g : Fin 24), g.val = n.val →
      let tile := en = true ∧ mode = 1
      let tb := tbOf (s.get (R.PURLIN_LANE_CFG_RATE n))
      (¬tile → ∀ (x : Nat) (b : Bool), exec (.dtim g x) s = .next s ∧ exec (.dmid g b) s = .next s ∧
        exec (.dinh g) s = .next s ∧ exec (.dinhRepeat g) s = .next s) ∧
      (tile → l.due = false → ∀ x, exec (.dtim g x) s = .next s) ∧
      (tile → l.due = true → ∀ x, Does (.dtim g x) s fun t => (t.lane n).due = false ∧
        let dep : Int := (s.get (R.BATTEN_LEAD_LEAD g) * 64 : Nat) - (min x ((2400 + 2 * tb) * 64 / 125) / 4 * 4 : Nat) -
          (s.get (R.PURLIN_LANE_LAT_LAT n) : Int)
        let late := decide (dep * 125 < (64 * (16 * tb + 100 * s.get (R.PURLIN_LANE_TPROC_TPROC n)) : Nat))
        t.on (R.PURLIN_LANE_STAT_MMX n) = s.mmx g ∧
        t.on (R.PURLIN_LANE_STAT_LLE n) = (s.on (R.PURLIN_LANE_STAT_LLE n) || late) ∧
        (t.lane n).txSeq = (l.txSeq + 1) % 256 ∧
        ∃ times tail, times.length = 104 ∧ tail.length = 7 ∧ ∃ b : Byte,
          (t.lane n).out = frame 1 l.txSeq (BitVec.ofInt 32 dep) (times ++ [b] ++ tail) ∧ (t.lane n).tail = [b] ++ tail ∧
          b.getLsbD 7 = late ∧ b.getLsbD 6 = s.on (R.PURLIN_LANE_STAT_KEYW n) ∧
          ∀ k < 6, (b.getLsbD k = true ↔ late = false ∧ s.carried g k = true ∧ s.legsFree = true ∧ s.pdRun 12 = true ∧
            s.get (R.BATTEN_RL_STAT_STATE (6 * g.val + k)) = 2 ∧ (s.brl (6 * g.val + k)).driving = true)) ∧
      (let mid := s.past (.mid g) (s.nsOfFine ((s.brl (6 * g)).per / 128 * 64)).toNat = true
       (tile → mid → l.due = false → ∀ b0 tail, l.tail = b0 :: tail → tail.length = 7 →
        Does (.dmid g true) s (fun t => t.on (R.PURLIN_LANE_STAT_DMS n) = true ∧ t.timerAt (.mid g) = none ∧
          OnlyRegs [R.PURLIN_LANE_STAT n] s { t with timers := s.timers }) ∧
        Does (.dmid g false) s fun t => t.regs = s.regs ∧ t.timerAt (.mid g) = none ∧
          ∃ b : Byte, (t.lane n).out = frame 2 l.txSeq 0 ([b] ++ tail) ∧
          b.getLsbD 7 = false ∧ b.getLsbD 6 = (b0.getLsbD 6 || s.on (R.PURLIN_LANE_STAT_KEYW n)) ∧
          ∀ k < 6, (b.getLsbD k = true ↔ b0.getLsbD k = true ∧ s.slotEn g k = true)) ∧
       (tile → l.tail = [] ∨ ¬mid ∨ l.due = true → ∀ b, exec (.dmid g b) s = .next s)) ∧
      (tile → s.legsFree = true → exec (.dinh g) s = .next s ∧ exec (.dinhRepeat g) s = .next s) ∧
      (tile → s.past (.dinh g) 2000 = false → exec (.dinhRepeat g) s = .next s) ∧
      (tile → s.legsFree = false → ∀ i ∈ [Instr.dinh g, .dinhRepeat g], (i = .dinhRepeat g → s.past (.dinh g) 2000 = true) →
        Does i s fun t => t.regs = s.regs ∧ t.timerAt (.dinh g) = some s.upNs ∧
        (t.lane n).hold = true ∧ (t.lane n).out = frame 3 l.txSeq 0 []) ∧
      (∀ (prev : BitVec 58) (line : List (BitVec 66)) (rtt : Nat), (∀ c < 11, (s.core c).stalled = none) →
        (s.received n prev line = none → exec (.ups g prev line rtt) s = .next s) ∧
        (tile → aligned = true → alone → s.received n prev line = some none → Does (.ups g prev line rtt) s fun t =>
          t.get (R.PURLIN_LANE_CNT_CRCE n) = min 255 (s.get (R.PURLIN_LANE_CNT_CRCE n) + 1) ∧
          t.on (R.PURLIN_LANE_STAT_BURST n) = true ∧ t.on (R.PURLIN_LANE_STAT_LUP n) = false ∧ (t.lane n).rxSeq = l.rxSeq) ∧
        (¬(tile ∧ aligned = true) → exec (.ups g prev line rtt) s = .next s) ∧
        ∀ f, s.received n prev line = some (some f) →
        let area := s.get (R.PURLIN_LANE_TILE_NSAMP n) + 2 * s.get (R.PURLIN_LANE_TILE_ESCB n)
        let good := frameGood [4] f false = true ∧ natLE ((f.drop 1).take 1) = (40 + area + 7) / 8
        let fl := natLE (((framePay f).drop 1).take 1)
        let gap := ∀ q, l.rxSeq = some q → frameSeq f ≠ (q + 1) % 256
        (tile → aligned = true → alone → ¬good → Does (.ups g prev line rtt) s fun t =>
          t.get (R.PURLIN_LANE_CNT_CRCE n) = min 255 (s.get (R.PURLIN_LANE_CNT_CRCE n) + 1) ∧
          t.on (R.PURLIN_LANE_STAT_BURST n) = true ∧ t.on (R.PURLIN_LANE_STAT_LUP n) = false ∧ (t.lane n).rxSeq = l.rxSeq) ∧
        (tile → aligned = true → alone ∨ fl.testBit 2 = false → good → Does (.ups g prev line rtt) s fun t =>
          (t.lane n).rxSeq = some (frameSeq f) ∧
          t.get (R.PURLIN_LANE_CNT_CRCE n) = s.get (R.PURLIN_LANE_CNT_CRCE n) ∧
          (t.on (R.PURLIN_LANE_STAT_KEYW n) = true ↔ fl.testBit 1 = false ∧ (gap ∨ s.on (R.PURLIN_LANE_STAT_KEYW n) = true)) ∧
          (l.rxSeq ≠ none → gap → t.get (R.PURLIN_LANE_CNT_SEQG n) = min 255 (s.get (R.PURLIN_LANE_CNT_SEQG n) + 1)) ∧
          (∀ k < 6, (t.rd (R.PURLIN_LANE_TRIP n)).getLsbD k = ((s.rd (R.PURLIN_LANE_TRIP n)).getLsbD k ||
            ((framePay f).getD 4 0).getLsbD k)) ∧
          (fl.testBit 2 = true → t.on (R.PURLIN_LANE_STAT_BURST n) = true ∧ (t.lane n).burst = true) ∧
          (natLE (((framePay f).drop 3).take 1) < s.get (R.PURLIN_LANE_TILE_NSAMP n) →
            t.on (R.PURLIN_LANE_STAT_TRNF n) = true))))

/-- MACs and the Ridge bus (R516 to R523), while PD14 runs, and what the PTP clock of the ROM default program does with a
message that E0 hands it (R483): the first update steps the time base, and SYNC = 1 is written where the offset is 1 µs or
less. The message layouts are those of IEEE 1588-2019 (log entry 122). Readings and choices of the model's own that it rests
on: log entries 86, 90 and 132. -/
def Obligations.NetworkCommands : Prop :=
  (∀ (u : State) (m : List Byte) (at' d : Int), u.pdRun 3 = true → ptpType m = 0 → ptpTwoStep m = false →
    u.ptpFrom m = true → u.ptp.delay = some d →
    let ofs := at' - ptpTime m - ptpCorr m - d
    let t := u.ptpMessage m at'
    (u.on R.TIME_STAT_TSTATE = true → u.on R.TIME_STAT_BYPT = false →
      t.on R.TIME_STAT_TSYN = (u.on R.TIME_STAT_TSYN || decide (ofs.natAbs ≤ 65536000)) ∧ t.time = u.time) ∧
    (u.on R.TIME_STAT_TSTATE = false → t.on R.TIME_STAT_TSTATE = true ∧
      ((t.nowNs : Int) = ((u.nowNs : Int) - sextNat 64 (natOfInt 64 (ofs / 65536))) % (2 ^ 48 * 1000000000) ∨
       ofs / 65536 % 2 ^ 64 = 2 ^ 63))) ∧
  ∀ (s : State), s.pdRun 14 = true →
    (∀ e : Fin 4,
      let en := s.macRuns e
      (en = true ↔ s.on (R.ENET_CFG_EN e) = true ∧ s.on (R.PURLIN_LANE_CFG_EN (28 + e)) = true ∧
        s.get (R.PURLIN_LANE_CFG_MODE (28 + e)) = 3) ∧
      (s.on (R.ENET_CFG_EN e) = false → exec (.kick e) s = .next s) ∧
      (en = false → ∀ (f : List Byte) (a b : Bool), exec (.enetReceive e f a) s = .next s ∧
        exec (.enetTransmitDone e) s = .next s ∧ exec (.enetLinkChange e a b) s = .next s) ∧
      (en = true → ∀ a b : Bool, Does (.enetLinkChange e a b) s fun t => t.on (R.ENET_STAT_LINK e) = a ∧
        t.on (R.ENET_STAT_ANDONE e) = (b && s.on (R.ENET_CFG_ANEN e)) ∧ OnlyRegs [R.ENET_STAT e] s t) ∧
      (s.on (R.ENET_CFG_EN e) = true → exec (.kick e) s = .next (s.setEnet e { s.enet e with kick := true })) ∧
      (en = true → ∀ (f : List Byte) (fcs : Bool),
        let safe := s.safePort e = true ∧ (etherOf f).1 = s.spr 1 31 16
        let i := s.get (R.ENET_RXIDX_NEXT e)
        let a := s.get (R.ENET_RXBASE_BASE e) * 16 + 16 * i
        let buf := (s.memWord (a + 4)).toNat
        let taken := f.length ≤ 1996 ∧ fcs = true ∧ 60 ≤ f.length ∧ ¬safe ∧ s.macAccepts e f = true
        (1996 < f.length → Does (.enetReceive e f fcs) s fun t => t.on (R.ENET_STAT_LONG e) = true ∧
          t.get (R.ENET_ERR_LONGC e) = min 255 (s.get (R.ENET_ERR_LONGC e) + 1) ∧ OnlyRegs [R.ENET_STAT e, R.ENET_ERR e] s t) ∧
        (f.length ≤ 1996 → fcs = false → Does (.enetReceive e f fcs) s fun t => t.on (R.ENET_STAT_FCSE e) = true ∧
          t.get (R.ENET_ERR_FCSC e) = min 255 (s.get (R.ENET_ERR_FCSC e) + 1) ∧ OnlyRegs [R.ENET_STAT e, R.ENET_ERR e] s t) ∧
        (f.length < 60 → fcs = true → exec (.enetReceive e f fcs) s = .next s) ∧
        (f.length ≤ 1996 → fcs = true → 60 ≤ f.length → safe →
          exec (.enetReceive e f fcs) s = .next (s.safeReceive (decide (e.val % 2 = 1)) (etherOf f).2)) ∧
        (f.length ≤ 1996 → fcs = true → 60 ≤ f.length → ¬safe → s.macAccepts e f = false →
          exec (.enetReceive e f fcs) s = .next s) ∧
        (taken → bitAt (s.memWord a) 31 = false → Does (.enetReceive e f fcs) s fun t => t.on (R.ENET_STAT_RXO e) = true ∧
          t.get (R.ENET_ERR_RXDC e) = min 255 (s.get (R.ENET_ERR_RXDC e) + 1) ∧ OnlyRegs [R.ENET_STAT e, R.ENET_ERR e] s t) ∧
        (taken → bitAt (s.memWord a) 31 = true → bitAt (BitVec.ofNat 32 f.length) 31 = false → s.ecc = [] → inSram a 16 = true →
          inSram buf f.length = true → buf + f.length ≤ a ∨ a + 16 ≤ buf → ∀ m, e = 0 → s.ptpRuns = true → ptpOf f = some m →
            exec (.enetReceive e f fcs) s =
              .next ((s.enetReceive 0 f true).ptpMessage m (s.ptpNow (s.getS (R.TIME_PT_INC_CORR 0))))) ∧
        (taken → bitAt (s.memWord a) 31 = true → s.ecc = [] →
          (∀ b, (a ≤ b ∧ b < a + 16) ∨ (buf ≤ b ∧ b < buf + f.length) → s.queueAt b = none) → inSram a 16 = true → inSram buf f.length = true →
          buf + f.length ≤ a ∨ a + 16 ≤ buf → e ≠ 0 ∨ s.ptpRuns = false ∨ ptpOf f = none →
          Does (.enetReceive e f fcs) s fun t =>
            t.bytes buf f.length = f ∧ (t.memWord a).toNat = f.length ∧ t.memWord (a + 4) = s.memWord (a + 4) ∧
            t.get (R.ENET_RXIDX_NEXT e) = (if i + 1 < s.get (R.ENET_RING_RXN e) then i + 1 else 0) ∧
            (∀ b, (b < a ∨ a + 16 ≤ b) → (b < buf ∨ buf + f.length ≤ b) → t.byte b = s.byte b) ∧
            KeepsRegs [.ENET] s t)) ∧
      (en = true →
        let x := s.enet e
        let i := s.get (R.ENET_TXIDX_NEXT e)
        let a := s.get (R.ENET_TXBASE_BASE e) * 16 + 16 * i
        let w := s.memWord a
        (x.kick = false → exec (.enetTransmitDone e) s = .next s) ∧
        (x.kick = true → bitAt w 31 = false →
          exec (.enetTransmitDone e) s = .next (s.setEnet e { x with kick := false })) ∧
        (x.kick = true → bitAt w 31 = true → s.ecc = [] → (∀ b, a ≤ b → b < a + 16 → s.queueAt b = none) → inSram a 16 = true →
          Does (.enetTransmitDone e) s fun t =>
          (t.memWord a).toNat = w.toNat - 2 ^ 31 ∧ KeepsRegs [.ENET] s t ∧
          t.get (R.ENET_TXIDX_NEXT e) = (if i + 1 < s.get (R.ENET_RING_TXN e) then i + 1 else 0) ∧
          (∀ b, (b < a ∨ a + 16 ≤ b) → t.byte b = s.byte b) ∧
          (bitAt w 30 = true → t.memWord (a + 12) =
            BitVec.ofNat 32 (s.ptpStamp (s.getS (R.TIME_PT_EGC_CORR e)) / 64)) ∧
          (bitAt w 30 = false → t.memWord (a + 8) = s.memWord (a + 8) ∧ t.memWord (a + 12) = s.memWord (a + 12)) ∧
          (bitAt w 29 = false → bitAt w 28 = false →
            (t.enet e).out = s.bytes (s.memWord (a + 4)).toNat (fieldOf w 10 0))))) ∧
    (let src := s.safeRtrip
     (s.on R.RIDGE_CFG_RXEN = false → Does .ridgeTrip s fun t => t.on R.RIDGE_STAT_LVL = true ∧
       (s.timerAt .rtripLow = none → t.timerAt .rtripLow = some s.upNs) ∧
       OnlyRegs [R.RIDGE_STAT] s { t with timers := s.timers }) ∧
     (s.on R.RIDGE_CFG_RXEN = true → Does .ridgeTrip s fun t => t.on R.RIDGE_STAT_RTL = true ∧
       t.on R.RIDGE_STAT_LVL = true ∧ t.rd R.RIDGE_TS = s.stamp 14 ∧
       t.get R.RIDGE_STAT_TCNT = min 65535 (s.get R.RIDGE_STAT_TCNT + 1) ∧ t.gate.spiHold = 2 ^ 48 - 1 ∧
       (∀ leg : Fin 48, (t.legPad leg).1 = false) ∧ KeepsRest [.RIDGE, .EAVES, .THATCH] s t) ∧
     Does .ridgeTripCmd s (fun t => t.ridge.drive = true ∧ t.on R.RIDGE_STAT_SRC = true ∧ t.on R.RIDGE_STAT_LVL = true ∧
       t.timerAt .rtripOn = some s.upNs ∧ OnlyRegs [R.RIDGE_STAT] s { t with ridge := s.ridge, timers := s.timers }) ∧
     (∀ others : Bool,
       (s.ridge.drive = false ∨ s.past .rtripOn 1000 = false → exec (.rtripDriveEnd others) s = .next s) ∧
       (s.ridge.drive = true → s.past .rtripOn 1000 = true → Does (.rtripDriveEnd others) s fun t => t.ridge.drive = false ∧
         t.on R.RIDGE_STAT_SRC = src ∧ t.on R.RIDGE_STAT_LVL = (src || others) ∧ t.timerAt .rtripOff = some s.upNs ∧
         OnlyRegs [R.RIDGE_STAT] s { t with ridge := s.ridge, timers := s.timers })) ∧
     (∀ high : Bool, Does (.ridgeClr high) s fun t => OnlyRegs [R.RIDGE_STAT] s { t with timers := s.timers } ∧
       let free := high && !s.ridge.drive && !src && (decide (s.timerAt .rtripOff = none) || s.past .rtripOff 1000)
       t.on R.RIDGE_STAT_RTL = (s.on R.RIDGE_STAT_RTL && !free)) ∧
     (s.on R.RIDGE_STAT_LVL = false ∨ s.past .rtripLow 100000000 = false → exec .rstk s = .next s) ∧
     (s.on R.RIDGE_STAT_LVL = true → s.past .rtripLow 100000000 = true → Does .rstk s fun t => t.on R.RIDGE_STAT_RSTK = true ∧
       KeepsRest [.RIDGE, .EAVES, .THATCH] s t) ∧
     (∀ contend : Bool, Does (.rsyncEdge contend) s fun t => t.rd R.RIDGE_RSTS = s.stamp 14 ∧
       t.on R.RIDGE_STAT_RSE = true ∧ KeepsRest [.RIDGE, .EAVES, .THATCH] s t ∧
       (contend = true → s.on R.BATTEN_RSYNC_OEN = true → s.ridge.stopped = false → t.ridge.stopped = true ∧
         t.bat.rsync = false ∧ t.on R.RIDGE_STAT_RSC = true)))

/-- The Eaves domain (R530 to R538, R540, R542 to R544): while PD0 is off every command but a cold start changes nothing; while
it is on each does what its rule says. The content of a word that cannot be verified is a free value (log entry 33). Readings
and choices of the model's own that it rests on: log entries 13, 58 and 133. -/
def Obligations.EavesCommands : Prop :=
  ∀ s : State,
    (s.eaves.on = false → ∀ (a b : BitVec 16) (x y : Bool) (n : Nat) (v : Int) (k : Fin 4) (f : Option Nat),
      ∀ i ∈ [Instr.storeMeasure a b x v, .pd0Off n, .topOfSecond, .autotrim n, .supplyLoss x y, .darkCheckpoint, .supplyReturn,
        .tamper k x, .wakeAlarm, .ewakeRelease, .burstRequest a b, .burstComplete f, .burstGo, .defcntClr,
        .harvesterRunChange a b a b, .recordWrite a b f], exec i s = .next s) ∧
    (∀ vio33 : Bool, (s.eaves.on = true → exec (.pd0ColdStart vio33) s = .next s) ∧
      (s.eaves.on = false → Does (.pd0ColdStart vio33) s fun t => t.eaves.on = true ∧ t.on R.EAVES_STAT_COLD = true ∧
        t.on R.EAVES_STAT_VMAIN = vio33 ∧ t.eaves.reqs = [] ∧ t.eaves.burst = none ∧
        t.eaves.sec = (match s.newerCkpt with
          | some c => ((s.memWord (c + 4)).toNat + 2 ^ 32 * fieldOf (s.memWord (c + 8)) 15 0 + 1) % 2 ^ 48
          | none => 0) ∧
        (t.thatch.fifo.map Post.event = [1] ∨ t.thatch.fifo.map Post.event = [2, 1]))) ∧
    (s.eaves.on = true →
      (∀ (vqs vls : BitVec 16) (refBad : Bool) (temp : Int),
        s.coveredOpen = false ∨ (2000 ≤ vqs.toNat ∧ 1000 ≤ vls.toNat) → Does (.storeMeasure vqs vls refBad temp) s fun t =>
        let bad := refBad = true ∨ 85 < temp
        let n := if bad ∨ 80 ≤ temp then 0 else s.eaves.passes + 1
        t.get R.EAVES_VMEAS_VQS = vqs.toNat ∧ t.get R.EAVES_VMEAS_VLS = vls.toNat ∧
        (t.on R.EAVES_STAT_OK45 = true ↔ 2000 ≤ vqs.toNat ∧ 1000 ≤ vls.toNat) ∧
        (t.on R.EAVES_STAT_HOT = true ↔ 85 < temp) ∧
        (t.on R.EAVES_STAT_RCF = true ↔ s.on R.EAVES_STAT_RCF = true ∨ refBad = true) ∧
        (t.eaves.cont = true ↔ bad ∨ (s.eaves.cont = true ∧ n < 16)) ∧ t.eaves.passes = min n 16 ∧
        t.on R.EAVES_STAT_CONT = (t.eaves.cont || s.on R.EAVES_CFG_FCONT) ∧ KeepsRest [.EAVES, .THATCH] s t) ∧
      (∀ n, s.coveredOpen = false → Does (.pd0Off n) s fun t => t.eaves.on = false ∧ t.thatch.fifo = [] ∧ t.eaves.reqs = [] ∧ t.eaves.burst = none ∧
        (∀ a b, blockOf a = some b → b ∈ [Block.EAVES, .THATCH] → t.rd a = resetWord a) ∧
        t.rd R.SYSCTL_RSTCAUSE = 0 ∧ t.get R.SYSCTL_BOOT_FSC = 0 ∧ t.on R.SYSCTL_BOOT_UND = false ∧
        (s.eaves.burst = none → t.mem = s.mem) ∧
        (∀ b, s.eaves.burst = some b → t.mem = (s.writeAt ((burstOrder b).take n)).mem)) ∧
      (s.pdRun 3 = false → exec .topOfSecond s = .next s) ∧
      (s.pdRun 3 = true → exec .topOfSecond s = .next { s with eaves := { s.eaves with sec := s.time.sec, sub := 0 } }) ∧
      (∀ ticks, let may := s.on R.EAVES_CFG_AUTOTRIM = true ∧ s.on R.TIME_STAT_TSYN = true ∧ ticks ≠ 0
        (¬may ∨ s.trimmed = true → exec (.autotrim ticks) s = .next s) ∧
        (may → s.trimmed = false → Does (.autotrim ticks) s fun t => t.timerAt .hour = some s.upNs ∧
          OnlyRegs [R.EAVES_TRIM] s { t with timers := s.timers } ∧ t.getS R.EAVES_TRIM_TRIM =
          max (-2048) (min 2047 ((2 * (117964800 - (ticks : Int)) * 2 ^ 20 + ticks) / (2 * ticks))))) ∧
      (∀ vcore vio33 : Bool,
        (vcore = false → vio33 = false → exec (.supplyLoss vcore vio33) s = .next s) ∧
        (vcore = true ∨ vio33 = true → Does (.supplyLoss vcore vio33) s fun t =>
          (vio33 = true → t.eaves.vio33 = false ∧ t.on R.EAVES_STAT_VMAIN = false ∧
            t.timerAt .dark0 = if s.eaves.vio33 then some s.upNs else s.timerAt .dark0) ∧ t.on R.EAVES_STAT_LOSSV = true ∧
          KeepsRest [.EAVES, .THATCH] s t ∧
          (s.on R.EAVES_STAT_LOSSV = true → t.rd R.EAVES_LOSSSEC = s.rd R.EAVES_LOSSSEC ∧ t.eaves.reqs = s.eaves.reqs) ∧
          (s.on R.EAVES_STAT_LOSSV = false →
            t.rd R.EAVES_LOSSSEC = BitVec.ofNat 32 (if s.pdRun 3 then s.time.sec else s.eaves.sec) ∧
            t.rd R.EAVES_LOSSNS = BitVec.ofNat 32 (if s.pdRun 3 then s.time.ns else s.eaves.sub * 1000000000 / 32768) ∧
            ∃ b, t.eaves.reqs = s.eaves.reqs ++ [b] ∧ b.req = .final ∧ b.words.length = 16 ∧ b.mark = 15 ∧
              (∀ x, s.lastCkpt = some x → b.words.headD 0 = x.2 + 1 ∧ b.dst ≠ x.1)))) ∧
      (s.eaves.vio33 = true → exec .darkCheckpoint s = .next s ∧ exec .supplyReturn s = .next s) ∧
      (s.ckptDue = false → exec .darkCheckpoint s = .next s) ∧
      (s.eaves.vio33 = false →
        (s.ckptDue = true → Does .darkCheckpoint s fun t => t.timerAt .dark0 = some s.upNs ∧
          t = { s with eaves := { s.eaves with reqs := s.eaves.reqs ++ [s.finalCkpt] }, timers := t.timers }) ∧
        Does .supplyReturn s fun t => t.eaves.vio33 = true ∧ t.on R.EAVES_STAT_VMAIN = true ∧ t.timerAt .vio33 = some s.upNs ∧
          (∃ b, t.eaves.reqs = s.eaves.reqs ++ [b] ∧ b.req = .final) ∧ KeepsRest [.EAVES, .THATCH] s t) ∧
      (∀ (k : Fin 4) (act : Bool), let en := (s.get R.EAVES_TAMP_EN).testBit k
        (en = false ∨ (act = true ∧ (s.rd R.EAVES_TAMP).getLsbD (4 + k) = true) → exec (.tamper k act) s = .next s) ∧
        (en = true → act = false ∨ (s.rd R.EAVES_TAMP).getLsbD (4 + k) = false → Does (.tamper k act) s fun t => (t.rd R.EAVES_TAMP).getLsbD (4 + k) = act ∧
          (act = true → (t.rd R.EAVES_TAMP).getLsbD k = true ∧ t.on R.EAVES_STAT_TMPF = true ∧
            t.eaves.ewake = (s.eaves.ewake || (s.get R.EAVES_TAMP_WK).testBit k)) ∧
          (act = false → OnlyRegs [R.EAVES_TAMP] s t))) ∧
      (let alarm := s.on R.EAVES_CFG_ALEN = true ∧ s.eaves.sec % 2 ^ 32 = s.get R.EAVES_WAKE_ASEC
       (¬alarm → exec .wakeAlarm s = .next s) ∧
       (alarm → exec .wakeAlarm s = .next { s with eaves := { s.eaves with ewake := true } })) ∧
      exec .ewakeRelease s = .next (if s.eaves.vio33 = true ∧ (s.timerAt .vio33 = none ∨ s.past .vio33 1000000000 = true) then
        { s with eaves := { s.eaves with ewake := false } } else s) ∧
      Does .defcntClr s (fun t => t.get R.EAVES_DEFCNT_CNT = 0 ∧ OnlyRegs [R.EAVES_DEFCNT] s t) ∧
      (∀ hvin vmpp vqs vls : BitVec 16, Does (.harvesterRunChange hvin vmpp vqs vls) s fun t =>
        let mx := vlsMax (s.get R.EAVES_CFG_VLSMAX)
        let full := if s.eaves.full then 2950 < vqs.toNat ∧ mx < vls.toNat + 50 else 3000 ≤ vqs.toNat ∧ mx ≤ vls.toNat
        (t.on R.EAVES_STAT_HRUN = true ↔ s.on R.EAVES_CFG_HEN = true ∧ 1900 < vqs.toNat ∧ ¬full ∧
          (if s.on R.EAVES_STAT_HRUN then vmpp.toNat < hvin.toNat else vmpp.toNat + 10 < hvin.toNat)) ∧
        OnlyRegs [R.EAVES_STAT] s { t with eaves := s.eaves }))

/-- Bursts to MRAM (R539 to R544), while PD0 is on. Readings and choices of the model's own that it rests on: log entries 56
and 59. -/
def Obligations.Bursts : Prop :=
  ∀ s : State, s.eaves.on = true →
    (∀ vqs vls : BitVec 16,
      (s.eaves.burst ≠ none ∨ s.eaves.reqs = [] → exec (.burstRequest vqs vls) s = .next s) ∧
      ∀ b r, s.eaves.burst = none → s.eaves.reqs = b :: r →
        let fresh := fun (t : State) => s.eaves.vio33 = false →
          t.get R.EAVES_VMEAS_VQS = vqs.toNat ∧ t.get R.EAVES_VMEAS_VLS = vls.toNat
        let starts := (if s.eaves.vio33 then s else s.storeSet vqs.toNat vls.toNat).mayStart b
        (destOk b.req b.dst b.words.length = false → Does (.burstRequest vqs vls) s fun t => t.eaves.burst = none ∧
          t.eaves.reqs = r ∧ t.mem = s.mem ∧ (b.req = .software → t.get R.EAVES_BSTAT_CODE = 5)) ∧
        (destOk b.req b.dst b.words.length = true → starts = true → Does (.burstRequest vqs vls) s fun t =>
          t.eaves.burst = some b ∧ t.eaves.reqs = r ∧ t.mem = s.mem ∧ fresh t) ∧
        (destOk b.req b.dst b.words.length = true → starts = false → Does (.burstRequest vqs vls) s fun t =>
          t.eaves.burst = none ∧ t.eaves.reqs = r ∧ t.mem = s.mem ∧ fresh t ∧ t.on R.EAVES_STAT_DEFF = true ∧
          t.get R.EAVES_DEFCNT_CNT = min 65535 (s.get R.EAVES_DEFCNT_CNT + 1) ∧
          (b.req = .software → t.get R.EAVES_BSTAT_CODE = 10 ∧ t.on R.EAVES_BSTAT_BUSY = false))) ∧
    (∀ f : Option Nat, s.eaves.burst = none → exec (.burstComplete f) s = .next s) ∧
    (∀ b, s.eaves.burst = some b →
      Does (.burstComplete none) s (fun t => t.eaves.burst = none ∧
        (∀ k (h : k < b.words.length), t.memWord (b.dst + 4 * k) = b.words[k]) ∧
        (∀ a, a < b.dst ∨ b.dst + 4 * b.words.length ≤ a → t.byte a = s.byte a) ∧
        (b.req = .software → t.get R.EAVES_BSTAT_CODE = 0 ∧ t.on R.EAVES_BSTAT_BUSY = false)) ∧
      (∀ f, b.mark < b.words.length → Does (.burstComplete (some f)) s fun t => t.eaves.burst = none ∧
        t.on R.EAVES_STAT_MFL = true ∧
        (f + 1 < b.words.length → t.memWord (b.dst + 4 * b.mark) = s.memWord (b.dst + 4 * b.mark)) ∧
        (∀ a, a < b.dst ∨ b.dst + 4 * b.words.length ≤ a → t.byte a = s.byte a) ∧
        (b.req = .software → t.get R.EAVES_BSTAT_CODE = 12))) ∧
    (let len := s.get R.EAVES_BCTL_LENW
     let mark := s.get R.EAVES_BCTL_MARK
     let src := s.get R.EAVES_BSRC_ADDR * 4
     let dst := s.get R.EAVES_BDST_ADDR * 4
     let busy := s.on R.EAVES_BSTAT_BUSY
     let shape := 0 < len ∧ mark < len ∧ inSram src (4 * len) = true
     let code := fun n => Does .burstGo s fun t => t.get R.EAVES_BSTAT_CODE = n ∧ OnlyRegs [R.EAVES_BSTAT] s t
     (busy = true → code 11) ∧ (busy = false → 512 < len → code 3) ∧
     (busy = false → len ≤ 512 → ¬shape → code 6) ∧
     (busy = false → len ≤ 512 → shape → destOk .software dst len = false → code 5) ∧
     (busy = false → len ≤ 512 → shape → destOk .software dst len = true → s.pdRun 3 = false → code 4) ∧
     (busy = false → len ≤ 512 → shape → destOk .software dst len = true → s.pdRun 3 = true → Does .burstGo s fun t =>
       t.on R.EAVES_BSTAT_BUSY = true ∧ t.get R.EAVES_BSTAT_CODE = 11 ∧ t.mem = s.mem ∧
       t.eaves.reqs = s.eaves.reqs ++ [⟨.software, dst, s.memWords src len, mark⟩]))

/-- The Thatch log (R545 to R549, R551, R555 to R557), while PD0 is on. The nonce of a clear is a free value (log entry 32).
Readings and choices of the model's own that it rests on: log entries 55, 57 and 133. -/
def Obligations.ThatchLog : Prop :=
  ∀ s : State, s.eaves.on = true →
    let room := s.thatch.fifo.length < 64
    let posted := fun (t : State) event source pay =>
      (room → ∃ p, t.thatch.fifo = s.thatch.fifo ++ [p] ∧ p.event = event ∧ p.source = source ∧ p.payload = pad12 pay ∧
        t.get R.THATCH_STAT_FIFO = s.thatch.fifo.length + 1) ∧
      (¬room → t.thatch.fifo = s.thatch.fifo ∧ t.on R.EAVES_STAT_LOGL = true ∧
        (t.rd R.THATCH_LOST).toNat = min (2 ^ 32 - 1) ((s.rd R.THATCH_LOST).toNat + 1))
    let cst := s.get R.THATCH_STAT_CST
    (∀ (e : BitVec 16) (src : BitVec 8) (pay : List Byte), Does (.thatchPost e src pay) s fun t =>
      posted t e.toNat src.toNat pay ∧ KeepsRest [.EAVES, .THATCH] s t) ∧
    (∀ (src : Master) (w : Word),
      let e := s.get R.THATCH_POST0_EVENT
      (e < 0x8000 → Does (.softwarePost src w) s fun t => t.on R.THATCH_STAT_PSTE = true ∧ t.thatch.fifo = s.thatch.fifo ∧
        KeepsRest [.THATCH] s t) ∧
      (0x8000 ≤ e → Does (.softwarePost src w) s fun t => posted t e (srcOfMaster src)
        (bytesLE 4 (s.rd R.THATCH_POST1).toNat ++ bytesLE 4 (s.rd R.THATCH_POST2).toNat ++ bytesLE 4 w.toNat) ∧
        KeepsRest [.EAVES, .THATCH] s t)) ∧
    (∀ (vqs vls : BitVec 16) (fail : Option Nat),
      (s.eaves.burst ≠ none ∨ s.thatch.fifo = [] ∨ cst = 2 → exec (.recordWrite vqs vls fail) s = .next s) ∧
      ∀ p l, s.eaves.burst = none → s.thatch.fifo = p :: l → cst ≠ 2 →
        let u := s.burstMeasure vqs.toNat vls.toNat
        let m := s.merges p
        let q := s.thatch.nextSeq
        let a := slotAddr (s.rd R.THATCH_HEAD).toNat
        (u.energyOk (if m then 1 else 9) = false → Does (.recordWrite vqs vls fail) s fun t =>
          t.on R.EAVES_STAT_DEFF = true ∧ t.mem = s.mem ∧ p ∈ t.thatch.fifo ∧ t.thatch.nextSeq = q) ∧
        (u.energyOk (if m then 1 else 9) = true → s.thatch.lostDue = false → fail = none → Does (.recordWrite vqs vls fail) s
          fun t => t.thatch.fifo = l ∧ t.get R.THATCH_STAT_FIFO = l.length % 256 ∧ KeepsRegs [.EAVES, .THATCH] s t ∧
          (m = false → t.bytes (slotAddr q.toNat) 32 = recBytes q p ∧ t.rd R.THATCH_HEAD = q ∧
            t.on R.THATCH_STAT_VALID = true ∧ t.thatch.nextSeq = q + 1 ∧
            (∀ b, b < slotAddr q.toNat ∨ slotAddr q.toNat + 32 ≤ b → t.byte b = s.byte b)) ∧
          (m = true → natLE (t.bytes (a + 28) 2) = natLE (s.bytes (a + 28) 2) + 1 ∧ t.thatch.nextSeq = q ∧
            (∀ b, b < a + 28 ∨ a + 30 ≤ b → t.byte b = s.byte b))) ∧
        (∀ k, u.energyOk (if m then 1 else 9) = true → fail = some k → Does (.recordWrite vqs vls fail) s fun t =>
          t.on R.EAVES_STAT_MFL = true ∧ t.on R.EAVES_STAT_LOGL = true ∧
          (∀ b, b < slotAddr (if m then s.rd R.THATCH_HEAD else q).toNat ∨
            slotAddr (if m then s.rd R.THATCH_HEAD else q).toNat + 32 ≤ b → t.byte b = s.byte b) ∧
          (m = false → t.thatch.nextSeq = q + 1 ∧ (t.byte (slotAddr q.toNat + 15)).getLsbD 7 = false ∧
            (2 ≤ k → t.memWord (slotAddr q.toNat) = q) ∧ (k = 0 → t.memWord (slotAddr q.toNat) = s.memWord (slotAddr q.toNat))))) ∧
    (∀ purp : Byte,
      let may := s.on R.THATCH_STAT_CLREN = true ∧ cst < 2 ∧ purp = 3
      (¬may → exec (.clrreq purp) s = .next s) ∧
      (may → Does (.clrreq purp) s fun t => t.get R.THATCH_STAT_CST = 1 ∧ t.thatch.clrHead = s.rd R.THATCH_HEAD ∧
        t.rd (R.THATCH_CH 0) ++ t.rd (R.THATCH_CH 1) = t.thatch.nonce ∧ t.freeCtr = s.freeCtr + 2 ∧
        KeepsRest [.THATCH] s t)) ∧
    (∀ w : Word,
      let key := s.fuseKey 66
      let good := rspBytes (tblSet (fun _ => 0) s.thatch.rsp 7 w) = hmac key s.clrMsg ∧ keyZero key = false ∧
        s.eaves.vio33 = true ∧ s.rd R.THATCH_HEAD = s.thatch.clrHead
      let n := s.thatch.fails + 1
      (cst ≠ 1 → exec (.clearResponse w) s = .next s) ∧
      (cst = 1 → good → s.on R.THATCH_STAT_VALID = true → Does (.clearResponse w) s fun t =>
        t.get R.THATCH_STAT_CST = 2 ∧ t.rd R.THATCH_HEAD = s.rd R.THATCH_HEAD + 1 ∧
        t.thatch.clearSeq = some (s.rd R.THATCH_HEAD + 1) ∧ t.thatch.fails = 0 ∧
        natLE (t.bytes (slotAddr (s.rd R.THATCH_HEAD + 1).toNat + 12) 2) = 3) ∧
      (cst = 1 → ¬good → Does (.clearResponse w) s fun t => t.on R.THATCH_STAT_CLF = true ∧ t.mem = s.mem ∧
        t.get R.THATCH_STAT_CST = (if n = 3 then 3 else 0) ∧ t.thatch.fails = (if n = 3 then 0 else n) ∧
        posted t 4 0 [BitVec.ofNat 8 n])) ∧
    (cst ≠ 2 → exec .clearComplete s = .next s) ∧
    (cst = 2 → Does .clearComplete s fun t => t.get R.THATCH_STAT_CST = 0 ∧ t.on R.THATCH_STAT_CLD = true ∧
      t.rd R.THATCH_TAIL = s.rd R.THATCH_HEAD ∧ t.rd R.THATCH_HEAD = s.rd R.THATCH_HEAD ∧
      (∀ a ∈ s.vmSlots, a ≠ slotAddr (s.rd R.THATCH_HEAD).toNat → (t.byte (a + 15)).getLsbD 7 = false) ∧
      KeepsRegs [.THATCH] s t) ∧
    exec .clearBlockExpiry s = .next (if cst = 3 ∧ s.past .clrBlock 600000000000 = true then s.put R.THATCH_STAT_CST 0 else s)

/-! ### Reset, islands, boot and configuration sets -/

/-- The reset sources (R564, R565, R567, R574, R579, R580, R583): scope, cause bit and failed-start count of each. The nonce of
a maintenance request is a free value (log entry 32). Readings and choices of the model's own that it rests on: log entries 95
and 134. -/
def Obligations.ResetSources : Prop :=
  ∀ s : State, Registers.wf s →
    let up := s.eaves.on = true
    let running := s.pdRun 3 = true
    let und := s.on R.SYSCTL_BOOT_UND = true ∧ s.pdRun 3 = true
    let fsc := fun (t : State) => t.get R.SYSCTL_BOOT_FSC
    let counted := fun (t : State) => up → s.on R.SYSCTL_BOOT_BC = false → fsc t = min 4 (fsc s + 1)
    let caused := fun (t : State) r => up → t.on r = true
    let again := fun (t : State) => ResetFrom s t 1 ∧ t.sys.fuseDue = true
    let restarted := fun (t : State) => ResetFrom s t 3 ∧ t.sys.void = true ∧ t.sys.fuseDue = s.sys.fuseDue
    let armed := fun (k : Fin 2) => running ∧ s.on R.SYSCTL_BOOT_UND = false ∧ s.on (R.SYSCTL_WDTCFG_EN k) = true
    let expired := fun (k : Fin 2) (t : State) => restarted t ∧ counted t ∧ (up → (t.rd R.SYSCTL_RSTCAUSE).getLsbD (12 + k) = true)
    let wdt := fun (k : Fin 2) => armed k ∧ s.past (.wdt k) (max 1 (s.get (R.SYSCTL_WDTCFG_TMO k)) * 1000000) = true
    let late := (s.timerAt .boot).getD 0 + 2000000000 ≤ s.upNs
    (∀ b, Does (.powerOnReset b) s fun t =>
      (∀ k, 1 ≤ k → k ≤ 15 → t.get (R.SYSCTL_PD_STATE k) = 1 ∧ t.get (R.SYSCTL_PD_FCNT k) = 0) ∧
      (∀ a bl, blockOf a = some bl → bl ∉ [Block.SYSCTL, .EAVES, .THATCH] → t.rd a = resetWord a) ∧
      (∀ n < 11, t.core n = coreReset) ∧ t.ctxs = [] ∧
      (∀ a, memAt a ≠ none → t.byte a = if memAt a = some .mram then s.byte a else 0) ∧ t.flash = s.flash ∧
      t.sys.fuseDue = true ∧ (up → fsc t = 0 ∧ t.on R.SYSCTL_BOOT_UND = false) ∧ caused t R.SYSCTL_RSTCAUSE_POR ∧
      (b = true → caused t R.SYSCTL_RSTCAUSE_BVCORE ∧ (up → t.on R.EAVES_STAT_LOSSV = true))) ∧
    Does .vio33BrownOut s (fun t => again t ∧ caused t R.SYSCTL_RSTCAUSE_BVIO33 ∧ fsc t = fsc s ∧
      (t.rd R.SYSCTL_SUPPLY).getLsbD 4 = false ∧ (up → t.on R.EAVES_STAT_LOSSV = true ∧ t.eaves.vio33 = false)) ∧
    Does .pinReset s (fun t => again t ∧ caused t R.SYSCTL_RSTCAUSE_PIN ∧ fsc t = fsc s) ∧
    Does .vio18BrownOut s (fun t => restarted t ∧ caused t R.SYSCTL_RSTCAUSE_BVIO18 ∧ fsc t = fsc s ∧
      (t.rd R.SYSCTL_SUPPLY).getLsbD 3 = false) ∧
    (∀ p ∈ [(Instr.softwareResetPd3, 3), (Instr.softwareResetPd1, 1)],
      (¬running → exec p.1 s = .next s) ∧
      (und → s.sys.verified = false → Does p.1 s fun t =>
        t.on R.SYSCTL_RSTCTL_RKE = true ∧ OnlyRegs [R.SYSCTL_RSTCTL] s t) ∧
      (und → s.sys.verified = true → Does p.1 s fun t => ResetFrom s t p.2 ∧ caused t R.SYSCTL_RSTCAUSE_SWR ∧
        t.sys.verified = false ∧ (up → fsc t = 0 ∧ t.on R.SYSCTL_BOOT_UND = false)) ∧
      (running → s.on R.SYSCTL_BOOT_UND = false → Does p.1 s fun t => ResetFrom s t p.2 ∧ caused t R.SYSCTL_RSTCAUSE_SWR ∧
        counted t ∧ t.sys.fuseDue = (s.sys.fuseDue || decide (p.2 = 1)))) ∧
    (∀ k : Fin 2, (¬wdt k → exec (.supervisorWatchdog k) s = .next s) ∧
      (wdt k → Does (.supervisorWatchdog k) s (expired k)) ∧
      (running → s.on (R.SYSCTL_WDTCFG_EN k) = true → exec (.wdtKick k 0x4B1C) s = .next (s.startTimer (.wdt k))) ∧
      (¬(running ∧ s.on (R.SYSCTL_WDTCFG_EN k) = true) → exec (.wdtKick k 0x4B1C) s = .next s) ∧
      ∀ key, key ≠ 0x4B1C → (¬armed k → exec (.wdtKick k key) s = .next s) ∧ (armed k → Does (.wdtKick k key) s (expired k))) ∧
    (¬(running ∧ s.sys.wdt3 = true ∧ late) → exec .bootWatchdog s = .next s) ∧
    (running → s.sys.wdt3 = true → late → Does .bootWatchdog s fun t => ResetFrom s t 3 ∧ caused t R.SYSCTL_RSTCAUSE_WDT3 ∧ counted t) ∧
    (∀ p ∈ [(Instr.mrqResetRequest, 1), (Instr.mrqUnderlayRequest, 2)],
      (¬running ∨ s.get R.SYSCTL_MRQSTAT_ST = 3 → exec p.1 s = .next s) ∧
      (running → s.get R.SYSCTL_MRQSTAT_ST ≠ 3 → Does p.1 s fun t => t.get R.SYSCTL_MRQSTAT_ST = 1 ∧
        t.sys.nonce = t.rd (R.SYSCTL_MRQCH 0) ++ t.rd (R.SYSCTL_MRQCH 1) ∧ t.sys.purpose = p.2 ∧ KeepsRest [.SYSCTL] s t)) ∧
    (∀ w, (¬running ∨ s.get R.SYSCTL_MRQSTAT_ST ≠ 1 → exec (.mrqResponse w) s = .next s) ∧
      (running → s.get R.SYSCTL_MRQSTAT_ST = 1 →
        let key := s.fuseKey 74
        let said := bytesBE 8 s.sys.nonce.toNat ++ [BitVec.ofNat 8 s.sys.purpose] ++ bytesBE 4 (s.rd R.SYSCTL_ID).toNat
        let good := rspBytes (tblSet (fun _ => 0) s.sys.rsp 7 w) = hmac key said ∧ keyZero key = false
        (good → Does (.mrqResponse w) s fun t => again t ∧ caused t R.SYSCTL_RSTCAUSE_MRQ ∧ counted t ∧
          t.get R.SYSCTL_MRQSTAT_ST = 0 ∧ (s.sys.purpose = 2 → up → t.on R.SYSCTL_BOOT_UND = true)) ∧
        (¬good → Does (.mrqResponse w) s fun t => t.on R.SYSCTL_MRQSTAT_MRF = true ∧ t.sys.nonce = 0 ∧
          t.rd (R.SYSCTL_MRQCH 0) = 0 ∧ t.rd (R.SYSCTL_MRQCH 1) = 0 ∧
          t.get R.SYSCTL_MRQSTAT_ST = (if s.sys.fails = 2 then 3 else 0) ∧
          t.sys.fails = (if s.sys.fails = 2 then 0 else s.sys.fails + 1) ∧ KeepsRest [.SYSCTL, .EAVES, .THATCH] s t ∧
          (s.sys.fails = 2 → t.timerAt .mrqBlock = some s.upNs)))) ∧
    (∀ p ∈ ([(.vanaBrownOut, 13, R.SYSCTL_RSTCAUSE_BVANA, 5), (.vlaneBrownOut false, 14, R.SYSCTL_RSTCAUSE_BVLANE, 1),
         (.vlaneBrownOut true, 14, R.SYSCTL_RSTCAUSE_BVLANEIO, 2)] : List (Instr × Nat × Ref × Nat)),
      let st := s.get (R.SYSCTL_PD_STATE p.2.1)
      (s.coveredOpen = true → st = 2 → Does p.1 s fun t => t.sys.void = true ∧ caused t p.2.2.1 ∧
        ∀ k, 3 ≤ k → k ≤ 15 → t.get (R.SYSCTL_PD_STATE k) = if s.get (R.SYSCTL_PD_STATE k) = 0 then 0 else 1) ∧
      (s.coveredOpen = false ∨ st ≠ 2 → Does p.1 s fun t => caused t p.2.2.1 ∧ (t.rd R.SYSCTL_SUPPLY).getLsbD p.2.2.2 = false ∧
        t.get (R.SYSCTL_PD_STATE p.2.1) = (if st = 2 then 3 else st) ∧
        (st = 2 → t.get (R.SYSCTL_PD_FCNT p.2.1) = min 255 (s.get (R.SYSCTL_PD_FCNT p.2.1) + 1) ∧
          ∀ c ∈ s.boundTo p.2.1, t.on (chInh c) = true) ∧
        KeepsRest [.SYSCTL, .BATTEN, .EAVES, .THATCH] s t)) ∧
    (s.get R.SYSCTL_MRQSTAT_ST ≠ 3 ∨ s.past .mrqBlock 600000000000 = false → exec .mrqBlockExpiry s = .next s) ∧
    (s.get R.SYSCTL_MRQSTAT_ST = 3 → s.past .mrqBlock 600000000000 = true → Does .mrqBlockExpiry s fun t =>
      t.get R.SYSCTL_MRQSTAT_ST = 0 ∧ OnlyRegs [R.SYSCTL_MRQSTAT] s t) ∧
    (∀ b : Bool, let here := if b then R.SYSCTL_SUPPLY_EW33 else R.SYSCTL_SUPPLY_EWV
      let other := if b then R.SYSCTL_SUPPLY_EWV else R.SYSCTL_SUPPLY_EW33
      Does (.earlyWarning b) s (fun t => t.on here = true ∧ t.on R.SYSCTL_SUPPLY_EWC = true ∧ OnlyRegs [R.SYSCTL_SUPPLY] s t) ∧
      Does (.earlyWarningClear b) s (fun t => t.on here = false ∧ t.on other = s.on other ∧
        t.on R.METER_CKSTAT_EWM = (s.on R.METER_CKSTAT_EWM && s.on other) ∧
        OnlyRegs [R.SYSCTL_SUPPLY, R.METER_CKSTAT] s t))

/-- The islands (R34, R38, R44 to R49, R561 to R563, R572, R573, R575, R650, R651): release in order, what is refused, what a
failure and a recovery leave. A second fault during the recovery of a core (R45, R49; which faults count is log entry 105): the
loss of a synthesizer that was not bypassed, a lane burst error, a store below its minimum. PD3 to PD15 are reset, and the
promise is void. Readings and choices of the model's own that it rests on: log entries 52, 53, 96, 107 and 134. -/
def Obligations.IslandCommands : Prop :=
  (∀ s : State, Registers.wf s →
     let up := s.eaves.on = true
     let st := fun k => s.get (R.SYSCTL_PD_STATE k)
     let calm := up ∧ (s.on R.EAVES_STAT_OK45 = true ∨ s.rd R.EAVES_VMEAS = 0) ∧ s.sys.recovering = [] ∧ s.sys.failed = [] ∧
       s.sys.restoreDue = [] ∧ (∀ n < 32, (s.lane n).burst = false) ∧ s.on R.SYSCTL_SUPPLY_EWV = false ∧
       s.on R.SYSCTL_SUPPLY_EW33 = false ∧
       ∀ n < 4, s.on (R.CLK_SYN_STAT_BYP n) = true → s.on (R.CLK_SYN_STAT_UPDP n) = true ∨
         (s.on (R.CLK_SYN_STAT_FBH n) = true ∧ s.on (R.CLK_SYN_STAT_STABLE n) = true)
     let order := [1, 2, 3, 13, 14, 15, 4, 5, 6, 7, 8, 9, 10, 11, 12]
     let due := fun pd => 1 ≤ pd ∧ st pd = 1 ∧ s.sys.fuseDue = false ∧ s.on (R.SYSCTL_PD_CKH pd) = false ∧
       (∀ k ∈ order.takeWhile (· ≠ pd), st k ≠ 1 ∨ s.on (R.SYSCTL_PD_CKH k) = true ∨ k ∈ s.sys.restoreDue) ∧
       (3 < pd → s.pdRun 3 = true ∧ s.on R.SYSCTL_BOOT_UND = false) ∧ (pd = 1 → up ∨ s.on (R.SYSCTL_PD_CKH 0) = true)
     let cycles := fun k => k * 100000 / s.get R.CLK_REF_NOM
     let from_ := fun pd => max s.sys.due ((s.timerAt (.held pd)).getD 0 + cycles 64)
     let next := s.upNs + cycles (s.get R.SYSCTL_FUSESTAT_RELGAP)
     let stable := fun pd => pd < 3 ∨ s.on (R.CLK_SYN_STAT_STABLE (synOf pd)) = true ∨ s.on (R.CLK_SYN_STAT_BYP (synOf pd)) = true
     (∀ pd : Fin 16,
       let goes := due pd ∧ from_ pd ≤ s.upNs ∧ stable pd ∧ pd.val ∉ s.sys.restoreDue
       let late := due pd ∧ from_ pd + 5000000 ≤ s.upNs ∧ ¬stable pd
       let p := pd.val
       let off := (4 ≤ p ∧ p ≤ 11 ∧ ∃ k < 32, s.isOpen (32 * (p - 4) + k) = false) ∨
         (p = 14 ∧ ∃ n < 32, s.on (R.PURLIN_LANE_CFG_EN n) = true) ∨ (p = 15 ∧ ∃ m < 2, s.on (R.METER_CTRL_EN m) = true) ∨
         p < 4 ∨ p = 12 ∨ p = 13
       let busy := p < 4 ∨ st p = 0 ∨ (p = 12 ∧ ∃ c ∈ allChans, s.get (chState c) ≠ 0)
       (¬goes → exec (.islandRelease pd) s = .next s) ∧
       (goes → Does (.islandRelease pd) s fun t => t.get (R.SYSCTL_PD_STATE p) = 2 ∧ t.cores = s.cores ∧ t.sys.due = next ∧ p ∉ t.sys.failed ∧
         (∀ k < 16, k ≠ p → t.rd (R.SYSCTL_PD k) = s.rd (R.SYSCTL_PD k)) ∧
         (∀ x ∈ [(0, 3), (3, 3), (4, 3), (5, 13), (1, 14), (2, 14)], x.2 = p → (t.rd R.SYSCTL_SUPPLY).getLsbD x.1 = true) ∧
         (p = 3 → t.time.sec = s.eaves.sec ∧ t.time.ns = 0 ∧ t.on R.TIME_STAT_BYPT = s.bypassed 3 ∧ (up → t.on R.EAVES_STAT_LOSSV = false) ∧
           let under := s.on R.SYSCTL_BOOT_UND = true ∨ s.get R.SYSCTL_BOOT_FSC = 4
           (under → t.on R.SYSCTL_BOOT_UND = true ∧ t.sys.wdt3 = false ∧ t.sys.inLoader = false) ∧
           (¬under → t.on R.SYSCTL_BOOT_UND = false ∧ t.sys.wdt3 = true ∧ t.sys.inLoader = true))) ∧
       (p ≠ 0 → ¬late → exec (.ckf pd) s = .next s) ∧
       (p ≠ 0 → late → Does (.ckf pd) s fun t => t.on (R.SYSCTL_PD_CKH p) = true ∧ t.get (R.SYSCTL_PD_STATE p) = 1 ∧
         t.get (R.SYSCTL_PD_FCNT p) = min 255 (s.get (R.SYSCTL_PD_FCNT p) + 1) ∧ p ∈ t.sys.failed ∧ t.sys.due = next ∧
         (up → t.on R.SYSCTL_RSTCAUSE_CKF = true ∧ t.get R.SYSCTL_RSTCAUSE_ISL = p) ∧
         KeepsRest [.SYSCTL, .BATTEN, .EAVES, .THATCH] s t) ∧
       (off → Does (.pwrOff pd) s fun t => t.on (R.SYSCTL_PD_PDE p) = true ∧ OnlyRegs [R.SYSCTL_PD p] s t) ∧
       (¬off → st p ≠ 2 → exec (.pwrOff pd) s = .next s) ∧
       (¬off → st p = 2 → Does (.pwrOff pd) s fun t => t.get (R.SYSCTL_PD_STATE p) = 0 ∧ t.on (R.SYSCTL_PD_PWR p) = false ∧
         HeldAlone s t p true) ∧
       (st p ≠ 0 → exec (.pwrOn pd) s = .next s) ∧
       (st p = 0 → Does (.pwrOn pd) s fun t => t.get (R.SYSCTL_PD_STATE p) = 1 ∧ t.on (R.SYSCTL_PD_PWR p) = true ∧
         t.timerAt (.held p) = some s.upNs ∧ OnlyRegs [R.SYSCTL_PD p] s { t with timers := s.timers }) ∧
       (busy → Does (.restart pd) s fun t => t.on (R.SYSCTL_PD_RSE p) = true ∧ OnlyRegs [R.SYSCTL_PD p] s t) ∧
       (¬busy → st p = 1 → (s.on (R.SYSCTL_PD_CKH p) = false ∨ ¬stable p → exec (.restart pd) s = .next s) ∧
         (s.on (R.SYSCTL_PD_CKH p) = true → stable p → Does (.restart pd) s fun t =>
           t.on (R.SYSCTL_PD_CKH p) = false ∧ t.get (R.SYSCTL_PD_STATE p) = 1 ∧ OnlyRegs [R.SYSCTL_PD p] s t)) ∧
       (¬busy → st p ≠ 1 → Does (.restart pd) s fun t => t.get (R.SYSCTL_PD_STATE p) = 1 ∧ p ∉ t.sys.recovering ∧
         HeldAlone s t p true) ∧
       (¬(3 ≤ p ∧ s.pdRun p = true) → exec (.islandClockStop pd) s = .next s) ∧
       (3 ≤ p → s.pdRun p = true → Does (.islandClockStop pd) s fun t => t.pdRun p = false ∧
         t.pdOpen p = true ∧ ∃ sys mir, t = { s with sys := sys, host := { s.host with mirror := mir } }) ∧
       (∀ ns, s.host.held = none → (∀ m < 11, (s.core m).stalled = none) → (p ∉ s.sys.stopped → exec (.islandClockRestart pd ns) s = .next s) ∧
         (p ∈ s.sys.stopped → Does (.islandClockRestart pd ns) s fun t => p ∉ t.sys.stopped ∧
           (p ≠ 3 → t.stamp p = s.stamp p - ns) ∧ (∀ k, k ≠ p → t.stamp k = s.stamp k) ∧
           ∃ sys time, t = { s with sys := sys, time := time })) ∧
       (¬(st p = 3 ∧ p ∈ s.sys.failed ∧ stable p) → exec (.islandRecovery pd) s = .next s) ∧
       (4 ≤ p → st p = 3 → p ∈ s.sys.failed → stable p → Does (.islandRecovery pd) s fun t =>
         t.get (R.SYSCTL_PD_STATE p) = 1 ∧ HeldAlone s t p false ∧ (p ∈ t.sys.restoreDue ↔ p ≤ 11) ∧
         ∀ c < 256, t.isCfg c = s.isCfg c) ∧
       (∀ cause, ((p < 3 ∧ cause ≠ .parity ∧ ¬(p = 2 ∧ cause = .lku) ∧ ¬(p = 0 ∧ cause = .clock ∧ up)) ∨ (4 ≤ p ∧ st p ≠ 2 ∧ st p ≠ 3) →
           exec (.islandFailed pd cause) s = .next s) ∧
         (p < 3 → cause = .parity ∨ (p = 0 ∧ cause = .clock ∧ up) → Does (.islandFailed pd cause) s fun t => t.sys.void = true ∧ t.sys.recovering = [] ∧
           (∀ k, 3 ≤ k → k ≤ 15 → t.get (R.SYSCTL_PD_STATE k) = (if st k = 0 then 0 else 1)) ∧
           (∀ k < 3, k ≠ p → t.rd (R.SYSCTL_PD k) = s.rd (R.SYSCTL_PD k)) ∧
           t.get (R.SYSCTL_PD_FCNT p) = min 255 (s.get (R.SYSCTL_PD_FCNT p) + 1)) ∧
         (p = 2 → cause = .lku → Does (.islandFailed pd cause) s fun t => LocksOut s t 0) ∧
         (p = 3 → Does (.islandFailed pd cause) s fun t => ResetFrom s t 3 ∧ t.sys.void = true ∧
           t.get (R.SYSCTL_PD_FCNT 3) = min 255 (s.get (R.SYSCTL_PD_FCNT 3) + 1) ∧
           (cause = .lku → up → t.on R.SYSCTL_RSTCAUSE_LKU = true ∧ t.get R.SYSCTL_RSTCAUSE_ISL = 3)) ∧
         (4 ≤ p → st p = 3 → Does (.islandFailed pd cause) s fun t => KeepsRegs [.EAVES, .THATCH] s t ∧
           t = { s with regs := t.regs, thatch := t.thatch }) ∧
         (let core := (cause = .lku ∨ cause = .wdt) ∧ p ≤ 11
         (4 ≤ p → st p = 2 → cause = .parity ∨ s.coveredOpen = true ∨ (core ∧ ¬calm) → Does (.islandFailed pd cause) s fun t =>
           ResetFrom s t 3 ∧ t.sys.void = true) ∧
         (4 ≤ p → st p = 2 → cause ≠ .parity → s.coveredOpen = false → (core → calm) → Does (.islandFailed pd cause) s fun t =>
           IsolatedNow s t p ∧ t.sys.recovering = (if core then [p] else []) ∧
           (cause = .lku → up → t.on R.SYSCTL_RSTCAUSE_LKU = true ∧ t.get R.SYSCTL_RSTCAUSE_ISL = p) ∧
           (cause = .wdt → up → t.on R.SYSCTL_RSTCAUSE_WDT2 = true ∧ t.get R.SYSCTL_RSTCAUSE_ISL = p)))) ∧
       ∀ dst err, exec (.fabricTransfer pd dst err) s =
         (if err = true ∧ s.pdRun p = true ∧ s.pdRun dst = true then exec (.islandFailed pd .parity) s else .next s) ∧
         (s.pdRun p = true → s.pdRun dst = true → Does (.fabricTransfer pd dst true) s fun t => t.sys.void = true ∧
           t.sys.recovering = [] ∧ ∀ k, 3 ≤ k → k ≤ 15 → t.get (R.SYSCTL_PD_STATE k) = if st k = 0 then 0 else 1)) ∧
     (let waits := s.eaves.on = false ∧ st 1 = 1 ∧ s.sys.fuseDue = false ∧ s.on (R.SYSCTL_PD_CKH 0) = false ∧ s.sys.due + 50000000 ≤ s.upNs
      (¬waits → exec (.ckf 0) s = .next s) ∧
      (waits → Does (.ckf 0) s fun t => t.on (R.SYSCTL_PD_CKH 0) = true ∧
        t.get (R.SYSCTL_PD_FCNT 0) = min 255 (s.get (R.SYSCTL_PD_FCNT 0) + 1) ∧ t.sys = { s.sys with due := next } ∧
        OnlyRegs [R.SYSCTL_PD 0] s { t with sys := s.sys })) ∧
     (∀ n : Fin 8, let pd : Fin 16 := ⟨4 + n, by omega⟩
       let runs := s.pdRun 3 = true ∧ s.pdRun (4 + n) = true ∧ s.on R.SYSCTL_BOOT_UND = false ∧
         (s.rd R.SYSCTL_WDT2CFG).getLsbD (24 + n) = true ∧ (s.core n).ctx ≠ none ∧
         s.past (.disp n) (max 1 (s.get R.SYSCTL_WDT2CFG_RWTO) * 1000) = true
       (¬runs → exec (.rafterWatchdog n) s = .next s) ∧
       (runs → ∃ u, (u.rd R.SYSCTL_WDT2STAT).getLsbD (24 + n) = true ∧ OnlyRegs [R.SYSCTL_WDT2STAT] s u ∧
         exec (.rafterWatchdog n) s = exec (.islandFailed pd .wdt) u) ∧
       (runs → s.coveredOpen = true ∨ ¬calm → Does (.rafterWatchdog n) s fun t => t.sys.void = true ∧
         ∀ k, 3 ≤ k → k ≤ 15 → t.get (R.SYSCTL_PD_STATE k) = if st k = 0 then 0 else 1) ∧
       (runs → s.coveredOpen = false → calm → Does (.rafterWatchdog n) s fun t => t.get (R.SYSCTL_PD_STATE (4 + n)) = 3 ∧
         t.sys.recovering = [4 + n.val] ∧ (t.rd R.SYSCTL_WDT2STAT).getLsbD (24 + n) = true ∧
         t.get (R.SYSCTL_PD_FCNT (4 + n)) = min 255 (s.get (R.SYSCTL_PD_FCNT (4 + n)) + 1))) ∧
     ∀ b ∈ ([(.vanaBrownOut, 13, R.SYSCTL_RSTCAUSE_BVANA, 5), (.vlaneBrownOut false, 14, R.SYSCTL_RSTCAUSE_BVLANE, 1),
         (.vlaneBrownOut true, 14, R.SYSCTL_RSTCAUSE_BVLANEIO, 2)] : List (Instr × Fin 16 × Ref × Nat)),
       ∃ u, (up → u.on b.2.2.1 = true) ∧ (u.rd R.SYSCTL_SUPPLY).getLsbD b.2.2.2 = false ∧
         OnlyRegs [R.SYSCTL_RSTCAUSE, R.SYSCTL_SUPPLY] s u ∧ exec b.1 s = exec (.islandFailed b.2.1 .brownout) u) ∧
  (∀ s : State, Registers.wf s → s.sys.recovering ≠ [] →
     let restarts := fun i => Does i s fun t => ResetFrom s t 3 ∧ t.sys.void = true ∧ t.sys.recovering = []
     (∀ n : Fin 4, s.bypassed n = false → restarts (.lossOfLock n)) ∧
     (∀ lref, (∃ n ∈ s.refUsers lref, s.bypassed n = false) → restarts (.lossOfReference lref)) ∧
     (s.eaves.on = true → (∀ n, Does (.pd0Off n) s fun t => t.eaves.on = false ∧ t.sys.void = true ∧ t.sys.recovering = [] ∧
         ∀ k, 3 ≤ k → k ≤ 15 → t.get (R.SYSCTL_PD_STATE k) = (if s.get (R.SYSCTL_PD_STATE k) = 0 then 0 else 1)) ∧
       ∀ (vqs vls : BitVec 16) (b : Bool) (temp : Int), vqs.toNat < 2000 ∨ vls.toNat < 1000 → ¬(vqs = 0 ∧ vls = 0) →
         restarts (.storeMeasure vqs vls b temp)) ∧
     ∀ n : Fin 32, s.pdRun 14 = true → s.on (R.PURLIN_LANE_CFG_EN n) = true → s.get (R.PURLIN_LANE_CFG_MODE n) = 1 →
       s.on (R.PURLIN_LANE_STAT_ALIGNED n) = true → (s.lane n).burst = false →
       restarts (.rxlockFall n) ∧
       (∀ bad, 16 ≤ bad → s.on (R.PURLIN_LANE_STAT_RXLOCK n) = true → restarts (.hbadWindow n bad)) ∧
       ∀ (g : Fin 24) (prev : BitVec 58) (line : List (BitVec 66)) (rtt : Nat), g.val = n.val →
         s.received n prev line = some none → (∀ c < 11, (s.core c).stalled = none) → restarts (.ups g prev line rtt))

/-- The fuse load, the ROM loader and the Underlay loader (R568, R569, R577 to R582). Readings and choices of the model's own
that it rests on: log entries 91, 92, 93 and 140. -/
def Obligations.BootCommands : Prop :=
  ∀ s : State,
    let up := s.eaves.on = true
    (∀ arr : List (Fin 256 × Word), (s.sys.fuseDue = false ∨ s.upNs < s.sys.fuseAt → exec (.fuseLoad arr) s = .next s) ∧
      (s.sys.fuseDue = true → s.sys.fuseAt ≤ s.upNs → ∃ u, exec (.fuseLoad arr) s = exec (.fuseLoad []) u ∧ u.sys.fuseDue = true ∧
        (∀ k : Fin 256, u.fuse k = match arr.reverse.find? (fun x => decide (x.1 = k)) with | some x => x.2 | none => s.fuse k) ∧
        u.sys.void = (s.sys.void || arr.any (fun x => decide (x.1.val ≤ 113 ∨ 139 ≤ x.1.val) && decide (s.fuse x.1 ≠ x.2))) ∧
        KeepsRest [.EAVES, .THATCH] s u)) ∧
    (s.sys.fuseDue = true → s.sys.fuseAt ≤ s.upNs →
      let n := s.get R.SYSCTL_FUSESTAT_LOADCNT + 1
      let shown := fun (t : State) =>
        t.get R.SYSCTL_FUSESTAT_RELGAP = (t.shadowWord 48).toNat % 65536 ∧
        (∀ k < 4, t.rd (R.CLK_SYN_DIV k) = t.shadowWord (49 + 2 * k) ∧ t.rd (R.CLK_SYN_ADIV k) = t.shadowWord (49 + 2 * k) ∧
          t.on (R.CLK_SYN_STAT_LOCK k) = false ∧ t.on (R.CLK_SYN_STAT_STABLE k) = false ∧ t.bypassed k = false) ∧
        (up → t.on R.THATCH_STAT_RDEN = (t.shadowWord 57).getLsbD 0 ∧ t.on R.THATCH_STAT_CLREN = (t.shadowWord 57).getLsbD 1) ∧
        (s.sys.fnomDue = true → ∀ k < 8, t.on (R.RAFTER_PU_CFG_FNOM k) = (t.shadowWord 48).getLsbD 16) ∧
        (s.sys.fnomDue = false → ∀ k < 8, t.rd (R.RAFTER_PU_CFG k) = s.rd (R.RAFTER_PU_CFG k)) ∧
        t.sys.fuseDue = false ∧ t.sys.due = t.upNs + t.get R.SYSCTL_FUSESTAT_RELGAP * 100000 / t.get R.CLK_REF_NOM ∧
        KeepsRest [.SYSCTL, .CLK, .RAFTER, .THATCH, .EAVES] s t
      (s.fusesGood = true → Does (.fuseLoad []) s fun t => shown t ∧ (∀ k, t.shadowWord k = s.fuse k) ∧
        t.on R.SYSCTL_FUSESTAT_FLD = true ∧ t.on R.SYSCTL_FUSESTAT_TRIMFAIL = false ∧ t.get R.SYSCTL_FUSESTAT_LOADCNT = 0) ∧
      (s.fusesGood = false → n < 3 → Does (.fuseLoad []) s fun t => t.get R.SYSCTL_FUSESTAT_LOADCNT = n ∧
        t.on R.SYSCTL_FUSESTAT_FLD = false ∧ t.sys = { s.sys with fuseAt := s.upNs + 10240 } ∧
        OnlyRegs [R.SYSCTL_FUSESTAT] s { t with sys := s.sys }) ∧
      (s.fusesGood = false → 3 ≤ n → Does (.fuseLoad []) s fun t => shown t ∧ t.on R.SYSCTL_FUSESTAT_TRIMFAIL = true ∧
        t.get R.SYSCTL_FUSESTAT_RELGAP = 256 ∧ (∀ k, 57 ≤ k → k ≤ 113 → t.shadowWord k = 0) ∧
        (∀ k, 16 ≤ k → k < 33 → t.shadowWord k = 0xFFFFFFFF) ∧
        t.shadowWord 33 = 0xFFFFF ∧ t.sys.void = true)) ∧
    (let first := if s.get R.SYSCTL_BOOT_FSC < 2 then s.prefSlot else 1 - s.prefSlot
     let runs := s.pdRun 3 = true ∧ s.sys.inLoader = true
     let starts := fun slot => Does .romLoader s fun t => t.get R.SYSCTL_BOOT_SLOT = slot % 4 ∧ t.on R.SYSCTL_BOOT_DEF = false ∧
       t.get R.SYSCTL_BOOT_VERL = s.slotWord slot 4 % 65536 ∧ t.mem = ((s.loadSecs slot false).cleanDescs (s.secDescs slot)).mem ∧
       t.sys = { s.sys with inLoader := false, void := t.sys.void } ∧ t.get R.CFGSET_BANK_SPLIT = s.bankMask slot % 256 ∧
       (∀ x, (s.imgSecs slot).find? (fun y => decide (memAt y.dst = some .superv)) = some x →
         (t.core 8).pc = t.memWord x.dst &&& 0xFFFFFFF8 ∧ (t.core 9).pc = t.memWord (x.dst + 4) &&& 0xFFFFFFF8) ∧
       (∀ n, n ≠ 8 → n ≠ 9 → t.core n = s.core n) ∧ KeepsRegs [.SYSCTL, .CFGSET, .RAFTER, .EAVES, .THATCH] s t
     let unsigned := fun slot => s.imgCheck slot false = 0x31
     (¬runs → exec .romLoader s = .next s) ∧
     (runs → s.imgCheck first false = 0 → starts first) ∧
     (runs → unsigned first → Does .romLoader s fun t => t.sys.void = true) ∧
     (runs → s.imgCheck first false ≠ 0 → s.imgCheck (1 - first) false = 0 → starts (1 - first)) ∧
     (runs → s.imgCheck first false ≠ 0 → s.imgCheck (1 - first) false ≠ 0 → Does .romLoader s fun t =>
       t.on R.SYSCTL_BOOT_DEF = true ∧ t.get R.SYSCTL_BOOT_SLOT = 3 ∧ t.on R.SYSCTL_BOOT_BC = true ∧
       (up → t.get R.SYSCTL_BOOT_FSC = 0) ∧ t.sys = { s.sys with inLoader := false, wdt3 := false, void := t.sys.void } ∧
       (s.pdRun 13 = true → (∀ k < 2, t.on (R.MOD_MCK_CFG_EN k) = true) ∧ ∀ k < 6, t.on (R.MOD_MD_CFG_EN k) = true) ∧
       (s.pdRun 4 = true → t.on (R.RAFTER_PU_CFG_EN 0) = true ∧ t.on (R.RAFTER_PU_CFG_QEN 0) = true) ∧
       KeepsRest [.SYSCTL, .MOD, .RAFTER, .EAVES, .THATCH] s t)) ∧
    (s.pdRun 3 = false → exec .bootDone s = .next s) ∧
    (s.pdRun 3 = true → Does .bootDone s fun t => t.on R.SYSCTL_BOOT_BC = true ∧ (up → t.get R.SYSCTL_BOOT_FSC = 0) ∧
      t.sys = { s.sys with wdt3 := false } ∧ OnlyRegs [R.SYSCTL_BOOT] s { t with sys := s.sys }) ∧
    (let und := s.on R.SYSCTL_BOOT_UND = true ∧ s.pdRun 3 = true
     ∀ (spi : Option (List Byte)) (bad : Bool),
      let taken := spi.or (s.msgs 30).head?
      let m := taken.getD []
      let op := msgWord m 0 % 256
      let known := 1 ≤ op ∧ op ≤ 5
      let mine := fun n => taken ≠ none ∧ (op = n ∨ (n = 1 ∧ ¬known))
      (∀ p ∈ [(Instr.ulInfo spi, 1), (.ulErase spi bad, 2), (.ulWrite spi bad, 3), (.underlayVerify spi, 4), (.logread spi, 5)],
        ¬(und ∧ mine p.2) → exec p.1 s = .next s) ∧
      -- a message of Q30 is popped; what it does is what the same message does from the SPI target, but for the reply's way
      (∀ p ∈ [((Instr.ulInfo ·), 1), ((Instr.ulErase · bad), 2), ((Instr.ulWrite · bad), 3), (Instr.underlayVerify, 4),
          (Instr.logread, 5)], und → mine p.2 → spi = none → (s.qPop .sc0 30 256).2.code = 0 →
        Does (p.1 none) s fun t => ∃ u, exec (p.1 (some m)) (s.qPop .sc0 30 256).1 = .next u ∧
          t = (({ u with sys := { u.sys with reply := s.sys.reply } } : State).qPush .sc0 31 u.sys.reply).1) ∧
      (∀ p ∈ [((Instr.ulInfo ·), 1), ((Instr.ulErase · bad), 2), ((Instr.ulWrite · bad), 3), (Instr.underlayVerify, 4),
          (Instr.logread, 5)], und → mine p.2 → spi = none → (s.qPop .sc0 30 256).2.code ≠ 0 →
        exec (p.1 none) s = .next (s.qPop .sc0 30 256).1) ∧
      (und → spi = some m →
        let slot := msgWord m 1
        let off := msgWord m 2
        let len := msgWord m 3
        let data := m.drop 16
        let tag := msgWord m 0 / 256 % 256
        let base := if slot = 0 then 0 else 0x00800000
        let head := fun op status => bytesLE 4 (op + tag * 256 + status * 65536)
        let flash := fun (t : State) a => tblGet flashDefault t.flash a
        let whole := 16 ≤ m.length ∧ m.length ≤ 256 ∧ len + 16 = m.length
        let bare := whole ∧ len = 0
        let fits := slot < 2 ∧ off + len ≤ 0x00800000
        let accepted := s.imgCheck slot false = 0
        let version := fun k => if s.imgCheck k false = 0 then BitVec.ofNat 32 (s.slotWord k 4) else 0xFFFFFFFF
        let rec0 := slotAddr off
        let found := s.on R.THATCH_STAT_RDEN = true ∧ up ∧ s.recValid rec0 = true ∧ (s.memWord rec0).toNat = off
        let plain := fun (t : State) => t.flash = s.flash ∧ t.sys = { s.sys with reply := t.sys.reply } ∧ t.cores = s.cores
        (¬known → Does (.ulInfo spi) s fun t => plain t ∧ t.sys.reply = head op 2) ∧
        (∀ p ∈ [(Instr.ulInfo spi, 1), (.ulErase spi bad, 2), (.underlayVerify spi, 4), (.logread spi, 5)],
          op = p.2 → ¬bare → Does p.1 s fun t => plain t ∧ t.sys.reply = head p.2 2) ∧
        (op = 3 → ¬whole ∨ ¬fits → Does (.ulWrite spi bad) s fun t => plain t ∧ t.sys.reply = head 3 2) ∧
        (op = 1 → bare → Does (.ulInfo spi) s fun t => plain t ∧ t.sys.reply = head 1 0 ++ wordsBytes [s.rd R.SYSCTL_ID,
          s.rd R.SYSCTL_RSTCAUSE, BitVec.ofNat 32 (s.get R.SYSCTL_BOOT_FSC), version 0, version 1]) ∧
        (op = 2 → bare → 2 ≤ slot → Does (.ulErase spi bad) s fun t => plain t ∧ t.sys.reply = head 2 2) ∧
        (op = 2 → bare → slot < 2 → bad = true → Does (.ulErase spi bad) s fun t => plain t ∧ t.sys.reply = head 2 3) ∧
        (op = 2 → bare → slot < 2 → bad = false → Does (.ulErase spi bad) s fun t => t.sys.reply = head 2 0 ∧
          ∀ a, flash t a = if base ≤ a ∧ a < base + 0x00800000 then 0xFF else flash s a) ∧
        (op = 3 → whole → fits → bad = true → Does (.ulWrite spi bad) s fun t => plain t ∧ t.sys.reply = head 3 3) ∧
        (op = 3 → whole → fits → bad = false → Does (.ulWrite spi bad) s fun t => t.sys.reply = head 3 0 ∧
          ∀ a, flash t a = if base + off ≤ a ∧ a < base + off + len then data.getD (a - (base + off)) 0 else flash s a) ∧
        (op = 4 → bare → 2 ≤ slot → Does (.underlayVerify spi) s fun t => plain t ∧ t.sys.reply = head 4 2) ∧
        (op = 4 → bare → slot < 2 → ¬accepted → Does (.underlayVerify spi) s fun t => t.flash = s.flash ∧ t.cores = s.cores ∧
          t.sys = { s.sys with reply := t.sys.reply, void := s.sys.void || decide (s.imgCheck slot false = 0x31) } ∧
          t.sys.reply = head 4 4) ∧
        (op = 4 → bare → slot < 2 → accepted → Does (.underlayVerify spi) s fun t => t.sys.reply = head 4 0 ∧
          t.sys.verified = true ∧ t.flash = s.flash ∧ (up → ∃ b, t.eaves.reqs = s.eaves.reqs ++ [b] ∧
            b.dst = 0x0107E000 ∧ b.mark = 1023 ∧ b.words.length = 1024 ∧ (b.words.getD 0 0).getLsbD 0 = slot.testBit 0)) ∧
        (op = 5 → bare → found → Does (.logread spi) s fun t => plain t ∧ t.sys.reply = head 5 0 ++ wordsBytes (s.memWords rec0 8)) ∧
        (op = 5 → bare → ¬found → Does (.logread spi) s fun t => plain t ∧ t.sys.reply = head 5 1)))

/-- Configuration sets and images (R584, R586 to R594): SWAP and CHECK with their codes, LOAD, what B and the end of the swap
period do, the completion, the stored set, and the image engine. Readings and choices of the model's own that it rests on: log
entries 94 and 134. -/
def Obligations.ConfigurationSets : Prop :=
  ∀ s : State,
    let on := s.pdRun 3 = true
    let busy := s.get R.CFGSET_STAT_STATE ≠ 0 ∨ s.on R.CFGSET_STAT_STU = true
    let len := (s.memWord 0x00AE0004).toNat
    let entries := (s.cfgRead 0x00AE0000).1
    let sch := s.get R.CFGSET_CTRL_SCH
    (let code := s.swapTest.1
      let idx := s.swapTest.2
      let told := fun (t : State) => t.get R.CFGSET_STAT_CODE = code ∧
        (code = 0x06 ∨ code = 0x20 → t.get R.CFGSET_STAT_ERRIDX = idx % 65536)
      (¬on → exec .cfgCheck s = .next s ∧ exec (.cfgSwap []) s = .next s) ∧
      (on → Does .cfgCheck s fun t => told t ∧ OnlyRegs [R.CFGSET_STAT] s t) ∧
      (on → code ≠ 0 → Does (.cfgSwap []) s fun t => told t ∧ OnlyRegs [R.CFGSET_STAT] s t) ∧
      (on → code = 0 → Does (.cfgSwap []) s fun t => told t ∧ t.timerAt .armed = some s.upNs ∧ t.get R.CFGSET_STAT_STATE = 1 ∧
        t.cfg.todo = entries.map (fun e => (e.tgt, e.pos)) ∧ t.cfg.withImg = s.on R.CFGSET_CTRL_IMG ∧
        (∀ c < 256, c ∈ t.cfg.changed ↔ (s.on R.CFGSET_CTRL_IMG = true ∧ s.cfg.imgMask.testBit (c / 32) = true) ∨
          ∃ e ∈ entries, e.tgt < 0x00800000 ∧ (descCtx e.tgt = some c ∨
            (s.isCfg c = true ∧ s.coefAddr c ≤ e.tgt ∧ e.tgt < s.coefAddr c + (s.coefArea c).2))) ∧
        OnlyRegs [R.CFGSET_STAT] s { t with cfg := s.cfg, timers := s.timers }) ∧
      (busy → code = 0x0B) ∧
      (¬busy → s.memWord 0x00AE0000 ≠ 0x43534554 → code = 0x06 ∧ idx = 0) ∧
      (¬busy → s.memWord 0x00AE0000 = 0x43534554 → 0x1E000 < len → code = 0x03) ∧
      (code = 0 → s.swapLate = false ∧ (∀ e ∈ entries, s.cfgClass e.tgt ≠ none ∧ s.pdOpen (cfgPd e.tgt) = true) ∧
        (entries.map CfgVal.tgt).Nodup ∧ s.memWord 0x00AE000C = BitVec.ofNat 32 (crc32 (s.bytes 0x00AE0040 len)) ∧
        sch < 48 ∧ s.get (R.BATTEN_CH_STAT_STATE sch) = 2 ∧
        (s.on R.CFGSET_CTRL_IMG = true → s.get R.CFGSET_IMGSTAT_ST = 2))) ∧
    (let told := fun (n : Nat) (t : State) => t.get R.CFGSET_STAT_CODE = n ∧ KeepsRegs [.CFGSET] s t
     (¬on → exec .cfgLoad s = .next s) ∧
     (on → busy → Does .cfgLoad s fun t => told 0x0B t ∧ t.mem = s.mem) ∧
     (on → ¬busy → s.newerSet = none → Does .cfgLoad s fun t => told 0x06 t ∧ t.mem = s.mem) ∧
     (∀ k, on → ¬busy → s.newerSet = some k →
       let n := 64 + (((s.memWord (setBase k + 4)).toNat + 3) / 4) * 4
       (∀ j < n, s.marked (0x00AE0000 + j) = false) → Does .cfgLoad s fun t => told 0 t ∧
       (∀ j < n, t.byte (0x00AE0000 + j) = s.byte (setBase k + j)) ∧
       ∀ a, a < 0x00AE0000 ∨ 0x00AE0000 + n ≤ a → t.byte a = s.byte a)) ∧
    (let at_ := s.get R.CFGSET_STAT_STATE = 1 ∧ s.pdRun 12 = true ∧
       (s.on R.CFGSET_CTRL_NEXT = true → s.past .armed 20000 = true) ∧
       (s.on R.CFGSET_CTRL_NEXT = false → (s.get (R.BATTEN_CH_COUNT_PCNT sch) + 1) % 65536 = s.get R.CFGSET_CTRL_PCNT)
     (¬at_ → exec .swapBoundary s = .next s) ∧
     (at_ → Does .swapBoundary s fun t => t.get R.CFGSET_STAT_STATE = 2 ∧
       (∀ e ∈ t.cfg.todo, e ∈ s.cfg.todo ∧ (0x00800000 ≤ e.1 → regClass e.1 = some .atB → s.pdOpen (cfgPd e.1) = false) ∧
         ∀ c, regClass e.1 ≠ some (.value c)) ∧
       (∀ c ∈ s.cfg.changed, c < 256 → s.isRunning c = false → t.isOpen c = true) ∧
       (∀ n ∈ t.cfg.cores, n ∈ s.cfg.cores))) ∧
    (let ends := s.get R.CFGSET_STAT_STATE = 2 ∧ s.cfg.periodOver = false ∧ (s.cfg.begun = true ∨ s.pdOpen 12 = false)
     (¬ends → exec .swapPeriodEnd s = .next s) ∧
     (ends → Does .swapPeriodEnd s fun t => t.cfg.periodOver = true ∧ t.mem = s.mem ∧
       t.on R.CFGSET_STAT_SWL = (s.on R.CFGSET_STAT_SWL || !s.cfg.cores.isEmpty) ∧
       (∀ c ∈ s.cfg.reclose, c < 256 → coreOf c ∉ s.cfg.cores → (t.ctx c).pendClose = true ∧
         t.on (R.RAFTER_CTX_STAT_PEND c) = true ∧ t.on (R.RAFTER_CTX_STAT_FIRST c) = true) ∧
       (Sound s → KeepsRegs [.RAFTER, .CFGSET] s t) ∧ t.cores = s.cores)) ∧
    (let ends := s.get R.CFGSET_STAT_STATE = 2 ∧ s.cfg.todo = [] ∧ s.cfg.cores = [] ∧ s.cfg.periodOver = true
     (¬ends → exec .swapDone s = .next s) ∧
     (ends → s.marked 0x00AE000C = false → Does .swapDone s fun t => t.get R.CFGSET_STAT_STATE = 0 ∧ t.on R.CFGSET_STAT_DONE = true ∧
       t.on R.CFGSET_STAT_STU = true ∧ t.cfg.changed = [] ∧
       t.memWord 0x00AE000C = BitVec.ofNat 32 (crc32 (s.bytes 0x00AE0040 len)) ∧
       (∀ a, a < 0x00AE000C ∨ 0x00AE0010 ≤ a → t.byte a = s.byte a) ∧ KeepsRegs [.CFGSET, .EAVES, .THATCH] s t ∧
       (s.cfg.withImg = false → t.eaves.reqs = s.eaves.reqs) ∧
       (s.cfg.withImg = true → t.get R.CFGSET_IMGSTAT_ST = 0 ∧ (s.eaves.on = true → ∃ b, t.eaves.reqs = s.eaves.reqs ++ [b] ∧
         b.dst = 0x0107E000 ∧ b.mark = 1023 ∧ (b.words.getD 0 0).getLsbD 0 = s.cfg.imgSlot.testBit 0)))) ∧
    (let goes := s.on R.CFGSET_STAT_STU = true ∧
       (∀ b, b ∈ s.eaves.reqs ∨ s.eaves.burst = some b → b.dst ≠ setBase 0 ∧ b.dst ≠ setBase 1) ∧
       (s.timerAt .setRetry = none ∨ s.past .setRetry 64000000 = true)
     (¬goes → exec .storedSetWrite s = .next s) ∧
     (goes → s.eaves.on = false → exec .storedSetWrite s = .next (s.stopTimer .setRetry)) ∧
     (goes → s.eaves.on = true → Does .storedSetWrite s fun t =>
      ∃ b, t = { s.stopTimer .setRetry with eaves := { s.eaves with reqs := s.eaves.reqs ++ [b] } } ∧ b.req = .cfgset ∧ b.mark = 0 ∧
        b.words.getD 0 0 = 0x43534554 ∧ b.words.getD 1 0 = s.memWord 0x00AE0004 ∧
        b.words.getD 3 0 = BitVec.ofNat 32 (crc32 (wordsBytes (b.words.drop 16))) ∧
        b.dst = setBase (match s.newerSet with | some k => 1 - k | none => 0) ∧
        b.words.getD 2 0 = (match s.newerSet with | some k => s.memWord (setBase k + 8) + 1 | none => 1))) ∧
    (∀ slot : Fin 2, (¬on → exec (.imgVerify slot) s = .next s) ∧
      (on → Does (.imgVerify slot) s fun t => t.get R.CFGSET_IMG_SLOT = slot ∧ t.get R.CFGSET_IMGSTAT_ST = 1 ∧
        t.get R.CFGSET_IMGSTAT_CODE = 0 ∧ OnlyRegs [R.CFGSET_IMG, R.CFGSET_IMGSTAT] s t)) ∧
    (let loading := on ∧ s.get R.CFGSET_IMGSTAT_ST = 1
     let slot := s.get R.CFGSET_IMG_SLOT
     (¬loading → ∀ bad, exec (.imageReady bad) s = .next s) ∧
     (loading → Does (.imageReady true) s fun t => t.get R.CFGSET_IMGSTAT_ST = 3 ∧ t.get R.CFGSET_IMGSTAT_CODE = 0x35 ∧
       OnlyRegs [R.CFGSET_IMGSTAT] s t) ∧
     (loading → s.imgCheck slot true ≠ 0 → Does (.imageReady false) s fun t => t.get R.CFGSET_IMGSTAT_ST = 3 ∧
       t.get R.CFGSET_IMGSTAT_CODE = s.imgCheck slot true ∧ (s.imgCheck slot true = 0x31 → t.sys.void = true) ∧
       KeepsRest [.CFGSET, .EAVES, .THATCH] s t) ∧
     (loading → s.imgCheck slot true = 0 → Does (.imageReady false) s fun t => t.get R.CFGSET_IMGSTAT_ST = 2 ∧
       t.get R.CFGSET_IMGSTAT_CODE = 0 ∧ t.get R.CFGSET_IMGSTAT_VERL = s.slotWord slot 4 % 65536 ∧ t.cfg.imgSlot = slot ∧
       t.cfg.imgMask = s.bankMask slot ∧ t.mem = (s.loadSecs slot true).mem ∧
       OnlyRegs [R.CFGSET_IMGSTAT] s { t with mem := s.mem, ecc := s.ecc, cfg := s.cfg }))

/-! ### Rafter islands beside the instructions -/

/-- Dispatch events and the scheduler (R153 to R155, R166, R648): which contexts an event readies, which one an idle core
starts, with G1 to G4, and the seeds of a close that takes effect. A dispatch of the grid law does one step of it (R319, R323
to R330, R332, R333, R338): its measures are open values (log entry 76), and what it decides from them holds for all of them:
lock, ramp, entry into RIDE and exit from it, the current limit in RIDE, and the start of a hand-over. Readings and choices of
the model's own that it rests on: log entries 35, 48 and 102. -/
def Obligations.Dispatches : Prop :=
  ∀ (s : State) (n : Fin 8),
    let pd := 4 + n.val
    let mine := fun c => 32 * n.val ≤ c ∧ c < 32 * n.val + 32
    (∀ (ch : Chan) (evt : BattenEvent),
      let e := s.evOf ch evt n
      let runs := s.pdRun pd = true ∧ e.2 = true
      (¬runs → exec (.dispatchEvent n ch evt) s = .next s) ∧
      (runs → Does (.dispatchEvent n ch evt) s fun t => (t.evOf ch evt n).2 = false ∧ t.cores = s.cores ∧ t.mem = s.mem ∧
        KeepsRegs [.RAFTER, .EAVES, .THATCH] s t ∧
        ∀ c < 256,
          let x := s.ctx c
          let y := t.ctx c
          let kind := s.df c 0x0C 23 22
          let hit := mine c ∧ s.isCfg c = true ∧ chanOfCode (s.df c 0x0C 31 24) = some ch ∧
            (kind = 2 ∨ (evt = .reload ∧ kind = 0) ∨ (evt = .sampling ∧ kind = 1))
          let due := s.df c 0x0C 21 16 ≤ x.divCount
          (¬hit → y = x) ∧ (hit → ¬due → y = { x with divCount := x.divCount + 1 }) ∧
          (hit → due → y.divCount = 0 ∧ y.ready = true ∧ y.fbCount = x.fbCount + (s.fbl c).toNat ∧
            (x.ready = false → y.readyStamp = e.1 ∧ y.waits = (if s.ncomp c = 0 then x.waits else x.waits ++ [⟨e.1, [], false⟩]) ∧
              t.rd (R.RAFTER_CTX_STAT c) = s.rd (R.RAFTER_CTX_STAT c)) ∧
            (x.ready = true → y.readyStamp = x.readyStamp ∧ t.on (R.RAFTER_CTX_STAT_OVRN c) = true)))) ∧
    (let k := s.core n
     let idle := s.pdRun pd = true ∧ s.on (R.RAFTER_CORE_MODE_DSPEN n) = true ∧ k.survey = false ∧ k.surveyReq = false ∧
       k.lockup = false ∧ k.ctx = none ∧ k.stalled = none ∧ (((k.waiting = true ∨ k.bgWait = true) ∧ s.intSeen n = false) ∨
         (k.between = true ∧ k.bgWait = false ∧ k.waiting = false))
     let ready := fun c => mine c ∧ s.isCfg c = true ∧ (s.ctx c).ready = true
     let prio := fun c => s.df c 0 30 28
     (¬idle ∨ (∀ c, ¬ready c) → exec (.dispatch n []) s = .next s) ∧
     ∀ c, idle → ready c → (∀ d, ready d → prio c < prio d ∨ (prio c = prio d ∧ c ≤ d)) → s.descOk c = true →
       Does (.dispatch n []) s fun t =>
         let z := t.core n
         let x := s.ctx c
         let first := x.pendClose || (s.on (R.RAFTER_CTX_STAT_FIRST c) && !s.isOpen c)
         let law := s.lawCtx = some c
         z.ctx = some c ∧ z.real = x.vec ∧ z.region = .none ∧ z.cb = [] ∧ z.between = false ∧
         z.pc = BitVec.ofNat 32 (n * 0x100000 + 0x80000 + s.df c 0x10 16 3 * 8) ∧
         (∀ j, gReg z j = if j = 1 then BitVec.ofNat 32 (c + 256 * first.toNat + 512 * (s.fbl c).toNat)
           else if j = 2 then BitVec.ofNat 32 (n * 0x100000 + s.df c 4 31 19 * 64)
           else if j = 3 then BitVec.ofNat 32 (n * 0x100000 + s.df c 8 31 19 * 64)
           else if j = 4 then x.readyStamp else gReg k j) ∧
         z.acc = k.acc ∧ z.f = k.f ∧ z.k = k.k ∧ z.csr = k.csr ∧ (∀ m, m ≠ n.val → t.core m = s.core m) ∧
         (t.ctx c).ready = false ∧ (t.ctx c).dispStamp = x.readyStamp ∧ (t.ctx c).pred = x.last ∧
         (∀ d, d ≠ c → t.ctx d = s.ctx d) ∧ KeepsRegs [.RAFTER, .QUEUE] s t ∧
         (¬law → t.law = s.law ∧ (∀ a, a ≠ R.RAFTER_CTX_STAT c → t.rd a = s.rd a) ∧
           (x.pendClose = false → t.regs = s.regs ∧ t.mem = s.mem)) ∧
         (law → x.pendClose = false →
           let p := { s.lawPar c with bias := s.lawBias c x.readyStamp (s.lawF0 c) }
           let l := { s.law with ctx := some c, recOk := if first then s.gprValid c else s.law.recOk }
           let cmds := s.msgs (fieldOf s.qsel 4 0)
           ∃ m, let u := lawTold p (lawStep p m l)
             (lawNews p l (lawStep p m l) = [] → cmds = [] → t.law = u) ∧
             t.law = { u with pset := t.law.pset, qset := t.law.qset, want := t.law.want, cmds := t.law.cmds,
                              events := t.law.events, harm := t.law.harm }) ∧
         (x.pendClose = true → t.isOpen c = false) ∧
         (x.pendClose = true → ¬law → t.on (R.RAFTER_CTX_STAT_PEND c) = false ∧
           (∀ a, a < s.blockAddr c ∨ s.blockAddr c + (s.blockArea c).2 ≤ a → t.byte a = s.byte a) ∧
           ∀ j < 4,
             let w := fun i => s.desc c (0x140 + 4 * i)
             let place := fun i => (w i).toNat / 2 ^ 21 % 128
             let sh := (w j).toNat / 2 ^ 16 % 32
             let h := s.heldDuty c ((w j).toNat / 2 ^ 28 % 8)
             (w j).getLsbD 31 = true → s.marked (s.blockAddr c + 4 * place j) = false → (∀ i, j < i → i < 4 → (w i).getLsbD 31 = true → place i ≠ place j) →
               t.memWord (s.blockAddr c + 4 * place j) =
                 sat32 ((h.toInt * (s.desc c (0x150 + 4 * j)).toInt + (if sh = 31 then 0 else 2 ^ (30 - sh))) / 2 ^ (31 - sh)))) ∧
    ∀ (c : LawPar) (m : LawMeas) (l : LawSt),
      let u := lawStep c m l
      let out := m.vp < c.u 0x5C ∨ c.u 0x60 < m.vp
      let inBand := c.u 0x5C + c.u 0x64 ≤ m.vp ∧ m.vp + c.u 0x64 ≤ c.u 0x60
      let quiet := c.now < l.quiet
      let on := seqConnected c.seqSt = true
      u.last = some c.now ∧
      (¬quiet → u.lockRun = (if m.vq.toInt.natAbs ≤ c.u 0x28 * 32768 then l.lockRun + 1 else 0) ∧
        (u.locked = true ↔ c.u 0x2C ≤ u.lockRun)) ∧
      (l.ride = false → (u.ride = true ↔ ¬quiet ∧ out ∧ l.outRun ≠ 0)) ∧
      (l.ride = false → u.ride = true → u.rideAt = c.now) ∧
      (l.ride = true → (u.ride = false ↔ ¬quiet ∧ inBand ∧ l.inSince.getD c.now + c.u 0x68 * 1000000 ≤ c.now)) ∧
      (l.ride = true → u.ride = false → u.leftAt = some c.now ∧ u.recover = true) ∧
      (quiet → u.idRef = l.idRef ∧ u.iqRef = l.iqRef ∧ u.iqNeg = l.iqNeg ∧ u.violated = l.violated ∧ u.locked = l.locked) ∧
      (¬quiet → l.ride = true ∨ u.ride = true → u.idRef ≤ l.idPre ∧ u.iqNeg ≤ 0 ∧
        (u.iqRef.natAbs + u.iqNeg.natAbs : Nat) ≤ (c.u 0x38 + 2 : Nat)) ∧
      (l.ride = false → u.ride = false → ¬on → u.p = 0) ∧
      (l.ride = false → u.ride = false → on → (u.p - l.p).natAbs ≤ lawVmax c l ∧
        (lawVmax c l = 0 → u.p = l.p) ∧
        (lawVmax c l ≠ 0 → ∃ am jm : Nat, 0 < am ∧ 0 < jm ∧
          let r := profVal l.p l.vel l.acc (lawVmax c l) am jm (c.pset * 65536)
          u.p = r.pos ∧ u.vel = r.vel ∧ u.acc = r.acc)) ∧
      (¬on → u.gfm = bitAt (c.word 4) 1 ∧ u.want = u.gfm ∧ u.hand = none) ∧
      (on → l.hand = none → l.gfm ≠ l.want →
        (l.want = false → u.theta = l.angle) ∧
        (m.d ≤ c.u 0xB4 → u.gfm = l.want ∧ u.hand = none) ∧
        (c.u 0xB4 < m.d → u.gfm = l.gfm ∧ u.hand = some ⟨l.want, 0, 0, 0⟩)) ∧
      (on → l.hand ≠ none → u.ride = true → u.hand = l.hand ∧ u.gfm = l.gfm)

/-- Sample vectors and feedback (R115, R156, R157, R163, R168 to R173): a vector that completes resolves the region that waits
for it, or is held; the flag, its policy, its count of good vectors and its end; the yealm copy. A bundle that waits tries
again afterwards. Readings and choices of the model's own that it rests on: log entries 47, 50, 51 and 116. -/
def Obligations.VectorsAndFeedback : Prop :=
  ∀ (s : State) (c : Fin 256),
    let n := c.val / 32
    let x := s.ctx c
    let k := s.core n
    let live := s.pdRun (4 + n) = true
    let bad := s.boundInputBad c = true
    let fbp := s.get (R.RAFTER_CTX_STAT_FBP c)
    let again := fun (i : Instr) (p : State → Prop) => ∃ u, exec i s = .next (u.retry n) ∧ p u
    let whole := s.isCfg c = true ∧ live ∧ s.wholeVector c ≠ none
    let calm := ∀ j < 8, s.bcState j = 0
    let log := ∀ e ∈ k.undo, ∀ j < 4, descCtx (e.1 + j) = none
    let raised := fun (u : State) => u.fbl c = true ∧ (u.ctx c).good = 0 ∧ (∀ d, d ≠ c.val → u.ctx d = s.ctx d) ∧
      (s.fbl c = true → u = { s with ctxs := u.ctxs }) ∧
      (s.fbl c = false → u.on (R.RAFTER_CTX_STAT_FBEV c) = true ∧ (u.ctx c).fbCount = 0 ∧
        (k.ctx = some c.val → k.region = .spec → (u.core n).region = .live ∧ (u.core n).pc = k.ckpt.pc ∧
          (k.specDst ≠ 0 → gReg (u.core n) k.specDst = 5)) ∧
        (log → fbp = 0 → let p := s.fbpol c
          u.get (R.RAFTER_CTX_STAT_FBP c) = (if p = 0 then 1 else if p = 1 then 2 else 3) ∧
          (p < 2 → u.isOpen c = true ∧ u.on (R.RAFTER_CTX_STAT_PEND c) = false) ∧
          (p = 1 → calm → ∀ ch ∈ s.boundChans c, u.on (chEn ch) = false) ∧ (2 ≤ p → u.isOpen c = s.isOpen c)) ∧
        (fbp ≠ 0 → u.get (R.RAFTER_CTX_STAT_FBP c) = fbp ∧ u.isOpen c = s.isOpen c))
    (¬whole → exec (.sampleVectorArrival c) s = .next (s.retry n)) ∧
    (∀ a v, whole → s.wholeVector c = some (a, v) → again (.sampleVectorArrival c) fun u =>
      let y := u.ctx c
      let z := u.core n
      let rest := a.rep = true ∨ bad
      let left := x.waits.erase a
      let taken := s.fbl c = false ∨ (¬rest ∧ 7 ≤ x.good)
      let waits := k.ctx = some c.val ∧ k.real = none ∧ x.dispStamp = a.stamp
      let passes := ∀ j < s.ncomp c,
        ((v.getD j 0).toInt - (tblGet (fun _ => 0) x.pred j).toInt).natAbs ≤ (s.desc c (0x80 + 4 * j)).toNat
      y.waits = left ∧ (∀ m, m ≠ n → u.core m = s.core m) ∧ (∀ d, d ≠ c.val → u.ctx d = s.ctx d) ∧
      (s.fbl c = true → rest → y = { x with waits := left, good := 0 } ∧ u = { s with ctxs := u.ctxs }) ∧
      (s.fbl c = true → ¬rest → x.good < 7 → y = { x with waits := left, good := x.good + 1 } ∧ u = { s with ctxs := u.ctxs }) ∧
      (taken → u.fbl c = false ∧ (s.fbl c = true → u.get (R.RAFTER_CTX_STAT_FBP c) = 0) ∧
        (∀ j, tblGet (fun _ => 0) y.last j = v.getD j 0) ∧
        (¬waits → y.vec = some v ∧ z = k ∧ u.mem = s.mem ∧ (x.vec ≠ none → u.on (R.RAFTER_CTX_STAT_OVRN c) = true)) ∧
        (waits → k.region ≠ .spec → z = { k with real := some v } ∧ u.mem = s.mem) ∧
        (waits → k.region = .spec → passes → z.region = .live ∧ z.undo = [] ∧ csrOf z 0x102 = csrOf k 0x102 + 1 ∧
          z.g = k.g ∧ z.pc = k.pc ∧ z.cb = k.cb ∧ z.real = some v ∧ u.mem = s.mem) ∧
        (waits → k.region = .spec → ¬passes → z.region = .live ∧ z.undo = [] ∧ csrOf z 0x101 = csrOf k 0x101 + 1 ∧
          z.pc = k.ckpt.pc ∧ z.cb = k.cb.take k.ckpt.cbLen ∧ z.real = some v ∧ (k.specDst ≠ 0 → gReg z k.specDst = 3) ∧
          u.mem = (s.undoAll k.undo).mem))) ∧
    (s.fbl c = true ∧ x.good = 7 → exec (.feedbackClear c) s = exec (.sampleVectorArrival c) s) ∧
    (∀ a v, s.fbl c = true → x.good = 7 → whole → s.wholeVector c = some (a, v) → a.rep = false → ¬bad →
      again (.feedbackClear c) fun u => u.fbl c = false ∧ u.get (R.RAFTER_CTX_STAT_FBP c) = 0 ∧ (u.ctx c).waits = x.waits.erase a ∧
        ∀ j, tblGet (fun _ => 0) (u.ctx c).last j = v.getD j 0) ∧
    (¬(s.fbl c = true ∧ x.good = 7) → exec (.feedbackClear c) s = .next (s.retry n)) ∧
    (let out := s.isCfg c = true ∧ live ∧ x.waits ≠ []
     (¬out → exec (.vectorTimeout c) s = .next (s.retry n)) ∧
     (out → again (.vectorTimeout c) fun u => (u.ctx c).waits.map (·.stamp) = x.waits.tail.map (·.stamp) ∧ raised u)) ∧
    (¬(live ∧ s.isCfg c = true ∧ bad) → exec (.feedbackLost c) s = .next s) ∧
    (live → s.isCfg c = true → bad → again (.feedbackLost c) raised) ∧
    (let out := live ∧ s.fbl c = true ∧ max 1 (s.df c 0 15 8) ≤ x.fbCount ∧ (fbp = 1 ∨ fbp = 3)
     (¬out → exec (.holdnExpiry c) s = .next s) ∧
     (out → Does (.holdnExpiry c) s fun t => t.get (R.RAFTER_CTX_STAT_FBP c) = 2 ∧ t.mem = s.mem ∧
       (calm → ∀ ch ∈ s.boundChans c, t.on (chEn ch) = false) ∧ (fbp = 3 → t.isOpen c = true) ∧
       (fbp = 1 → t.isOpen c = s.isOpen c ∧ t.cores = s.cores ∧ t.ctxs = s.ctxs))) ∧
    (¬live ∨ x.copy = none → exec (.yealmCopyDone c) s = .next s) ∧
    ∀ y, live → x.copy = some y → Does (.yealmCopyDone c) s fun t => t = { s with ctxs := t.ctxs } ∧
      (∀ d, d ≠ c.val → t.ctx d = s.ctx d) ∧
      t.ctx c = (if x.yealmA.age ≤ x.yealmB.age then { x with copy := none, yealmA := y } else { x with copy := none, yealmB := y })

/-- Restore, Survey mode, CTXCMD and UTIL (R161, R174, R175, R178, R188, R189). Readings and choices of the model's own that it
rests on: log entries 52 and 54. -/
def Obligations.CoreService : Prop :=
  ∀ (s : State) (n : Fin 8),
    let pd := 4 + n.val
    let k := s.core n
    let live := s.pdRun pd = true
    let mine := fun c => 32 * n.val ≤ c ∧ c < 32 * n.val + 32
    let core := fun (t : State) (z : CoreSt) => t.core n = z ∧ ∀ m, m ≠ n.val → t.core m = s.core m
    (¬(live ∧ k.reexec = true ∧ k.ctx ≠ none) → exec (.reexecLimit n) s = .next s) ∧
    (∀ c < 256, live → k.reexec = true → k.ctx = some c → Does (.reexecLimit n) s fun t =>
      t.on (R.RAFTER_CTX_STAT_RLX c) = true ∧ KeepsRest [.RAFTER, .EAVES, .THATCH] s t) ∧
    (∀ bad : List (Fin 256 × Bool),
      let judged := s.applyStored pd
      let slot := fun c => (yealmSlots (s.ctx c)).find? (fun y => decide (y.2.crc = yealmCrc y.2) &&
        !bad.any (fun b => decide (b.1.val = c) && b.2 == y.1))
      let lost := fun c => judged.isCfg c = true ∧ yealmSlots (s.ctx c) ≠ [] ∧ slot c = none
      (pd ∉ s.sys.restoreDue ∨ s.upNs < s.heldTill pd → exec (.restore n bad) s = .next s) ∧
      (pd ∈ s.sys.restoreDue → s.heldTill pd ≤ s.upNs → Registers.wf s → (∃ c, mine c ∧ lost c) → Does (.restore n bad) s fun t =>
        t.sys.void = true ∧ t.sys.restoreDue = [] ∧ (s.get (R.SYSCTL_PD_STATE pd) ≠ 0 → t.get (R.SYSCTL_PD_STATE pd) = 1)) ∧
      (pd ∈ s.sys.restoreDue → s.heldTill pd ≤ s.upNs → (∀ c, mine c → ¬lost c) → Does (.restore n bad) s fun t =>
        t.get (R.SYSCTL_PD_STATE pd) = 2 ∧ pd ∉ t.sys.restoreDue ∧ (t.core n).survey = false ∧
        t.on (R.RAFTER_CORE_STAT_RSTR n) = false ∧
        t.get (R.RAFTER_CORE_STAT_RCNT n) = min 255 (s.get (R.RAFTER_CORE_STAT_RCNT n) + 1) ∧
        t.on (R.RAFTER_CORE_MODE_SVY n) = false ∧ t.on (R.RAFTER_CORE_MODE_DSPEN n) = true ∧
        ∀ c, mine c → judged.isCfg c = true → (t.ctx c).restoring = true ∧ t.isCfg c = true ∧
          ∀ y, slot c = some y → (t.ctx c).last = y.2.last ∧ (t.ctx c).pred = y.2.pred ∧
            (t.ctx c).committed = y.2.committed ∧ (t.ctx c).fbCount = y.2.fbCount ∧
            t.get (R.RAFTER_CTX_STAT_FBP c) = y.2.fbp % 4 ∧ (t.ctx c).pendOpen = false ∧
            (t.ctx c).pendClose = (!y.2.opn || y.2.pendClose) ∧
            t.on (R.RAFTER_CTX_STAT_PEND c) = (!y.2.opn || y.2.pendClose))) ∧
    (¬live → exec (.surveyRequest n) s = .next s ∧ exec (.surveyEnd n) s = .next s) ∧
    (live → (∃ c, mine c ∧ s.isOpen c = false) → Does (.surveyRequest n) s fun t =>
      t.on (R.RAFTER_CORE_MODE_SVYR n) = true ∧ t.on (R.RAFTER_CORE_MODE_SVY n) = s.on (R.RAFTER_CORE_MODE_SVY n) ∧
      OnlyRegs [R.RAFTER_CORE_MODE n] s t) ∧
    (live → (∀ c, mine c → s.isOpen c = true) → Does (.surveyRequest n) s fun t => t.on (R.RAFTER_CORE_MODE_SVY n) = true ∧
      core t { k with surveyReq := true } ∧ OnlyRegs [R.RAFTER_CORE_MODE n] s { t with cores := s.cores }) ∧
    (¬(live ∧ k.surveyReq = true ∧ k.ctx = none) → exec (.surveyEntry n) s = .next s) ∧
    (live → k.surveyReq = true → k.ctx = none → Does (.surveyEntry n) s fun t =>
      core t { k with survey := true } ∧ t = { s with cores := t.cores }) ∧
    (live → Does (.surveyEnd n) s fun t => t.on (R.RAFTER_CORE_MODE_SVY n) = false ∧
      core t { k with survey := false, surveyReq := false } ∧ OnlyRegs [R.RAFTER_CORE_MODE n] s { t with cores := s.cores }) ∧
    (∀ (src : Master) (b : Byte),
      let c := b.toNat
      let who := match src with | .host => 0 | .sc0 => 1 | .sc1 => 2 | .rc j => 3 + j.val
      let code := fun (opn : Bool) => if c / 32 ≠ n.val then 0x11
        else if s.cfg.changed.contains c || s.on (R.RAFTER_CTX_STAT_PEND c) then 0x12
        else if s.isOpen c = opn then 0x10 else if opn then 0 else if s.isCfg c = false then 0x14 else if s.fbl c then 0x13 else 0
      let shows := fun (t : State) m => t.rd (R.RAFTER_CORE_CTXRES n) = BitVec.ofNat 32 (who * 65536 + c * 256 + m)
      (¬live → exec (.ctxcmdOpen n src b) s = .next s ∧ exec (.ctxcmdClose n src b) s = .next s) ∧
      (∀ p ∈ [(Instr.ctxcmdOpen n src b, true), (.ctxcmdClose n src b, false)], live → code p.2 ≠ 0 → Does p.1 s fun t =>
        shows t (code p.2) ∧ OnlyRegs [R.RAFTER_CORE_CTXRES n] s t) ∧
      (live → code false = 0 → Does (.ctxcmdClose n src b) s fun t => shows t 0 ∧ (t.ctx c).pendClose = true ∧
        t.on (R.RAFTER_CTX_STAT_PEND c) = true ∧ t.on (R.RAFTER_CTX_STAT_FIRST c) = true ∧ t.isOpen c = true ∧
        t.mem = s.mem ∧ t.cores = s.cores) ∧
      (live → code true = 0 → Does (.ctxcmdOpen n src b) s fun t => shows t 0 ∧ t.mem = s.mem ∧
        (s.isRunning c = true → (t.ctx c).pendOpen = true ∧ t.on (R.RAFTER_CTX_STAT_PEND c) = true ∧ t.isOpen c = false) ∧
        (s.isRunning c = false → t.isOpen c = true ∧ t.on (R.RAFTER_CTX_STAT_PEND c) = false))) ∧
    ∀ busy, (¬live → exec (.utilWindow n busy) s = .next s) ∧
      (live → Does (.utilWindow n busy) s fun t => t.get (R.RAFTER_CORE_UTIL_BUSY n) = min 65535 busy ∧
        OnlyRegs [R.RAFTER_CORE_UTIL n] s t)

/-! ### The queue, reset and what every step keeps -/

/-- The command at the front of the queue takes its effect on the state with the rest of the queue; with no command waiting a
cycle passes (the model's choice, log entry 2): the time base advances while PD3 runs (R472), the slow clock while it does not
(R534), with the nanoseconds that the timers count, and nothing else. -/
def Obligations.StepRunsFront : Prop :=
  (∀ (s : State) (c : Instr) (rest : List Instr), step { s with pending := c :: rest } = exec c { s with pending := rest }) ∧
  ∀ s : State, s.pending = [] →
    (s.pdRun 3 = true → ∃ x y, step s = .next { s with
        time := x, syns := y, upNs := s.upNs + (if s.on R.TIME_STAT_BYPT then 10 else 1) } ∧
      (∀ n : Fin 4, s.on (R.CLK_SYN_CFG_EN n) = false ∨ (s.syn n).waitRef = true → ({ s with syns := y } : State).syn n = s.syn n) ∧
      x.lag = s.time.lag ∧ x.ns < 1000000000 ∧ x.frac < 2 ^ 32 ∧
      let units := fun (y : TimeSt) => (y.sec * 1000000000 + y.ns) * 2 ^ 32 + y.frac
      let add := if s.on R.TIME_STAT_BYPT then s.timeInc
        else (2 ^ 32 + max (-4294967) (min 4294967 (s.rd R.TIME_ADJ).toInt)).toNat
      units x = (units s.time + add) % (2 ^ 48 * 1000000000 * 2 ^ 32)) ∧
    (s.pdRun 3 = false → s.eaves.on = true → s.eaves.ticks + 1 < 2 ^ 20 → s.eaves.sub < 32768 → s.eaves.sec + 1 < 2 ^ 48 →
      step s = .next { s with upNs := s.upNs + 30518, eaves := { s.eaves with
        ticks := s.eaves.ticks + 1, sec := s.eaves.sec + (s.eaves.sub + 1) / 32768, sub := (s.eaves.sub + 1) % 32768 } }) ∧
    (s.pdRun 3 = false → s.eaves.on = false → step s = .next { s with upNs := s.upNs + 30518 })

/-- No command stops the device, whatever state it finds: the spec gives every row an effect, or none, and no row a stop.
Readings and choices of the model's own that it rests on: log entry 4. -/
def Obligations.EveryCommandAnswers : Prop :=
  ∀ s : State, Runs s

/-- Right after reset: the values that the register maps give (R16, R63, R147, R178, R220, R595), every island in RUN, every
context open and unconfigured, every output disabled, and no command waiting. Readings and choices of the model's own that it
rests on: log entries 5 and 6. -/
def Obligations.ResetValues : Prop :=
  let s := State.reset
  s.pending = [] ∧ s.rd R.SYSCTL_RSTCAUSE = 0x00000001 ∧ s.rd (R.SYSCTL_WDTCFG 0) = 0x3E8 ∧ s.rd (R.SYSCTL_WDTCFG 1) = 0x3E8 ∧
  s.rd R.SYSCTL_WDT2CFG = 0x64 ∧ (∀ k < 16, s.rd (R.SYSCTL_PD k) = 0x44000000 ∧ s.pdRun k = true) ∧
  (∀ c < 256, s.isOpen c = true ∧ s.isCfg c = false) ∧
  (∀ n < 11, csrOf (s.core n) 0 = 0x40 ∧ csrOf (s.core n) 5 = 0 ∧ ∀ j < 32, gReg (s.core n) j = 0) ∧
  (∀ n < 8, s.on (R.RAFTER_CORE_MODE_SVY n) = true ∧ s.on (R.RAFTER_CORE_MODE_DSPEN n) = false) ∧
  (∀ c ∈ allChans, s.get (chState c) = 0 ∧ s.on (chEn c) = false) ∧ s.on R.SAFE_STAT_PW = false ∧ s.on R.SAFE_STAT_PF = false

/-- The registers and memories stay in canonical form, and a configuration set names contexts of the device alone, whatever
command runs. -/
def Obligations.SoundKept : Prop :=
 ∀ s t : State, Sound s → step s = .next t → Sound t

/-- The state after reset is sound. -/
def Obligations.SoundAtReset : Prop :=
 Sound State.reset
end

