-- ==== Sys2Proof/Laws/Fields.lean ====
section
/-!
SUPPORT. The laws of bit fields: a field read after a field written.
-/

namespace Sys2Proof.Laws

open Sys2Proof.Machine

/-- A bit of a field. -/
theorem testBit_bitsOf (w hi lo i : Nat) :
    (bitsOf w hi lo).testBit i = (decide (i < hi + 1 - lo) && w.testBit (lo + i)) := by
  unfold bitsOf
  rw [Nat.testBit_mod_two_pow, Nat.testBit_shiftRight]

/-- A bit of a number with a field replaced. -/
theorem testBit_putBits (w hi lo v i : Nat) :
    (putBits w hi lo v).testBit i =
      if lo ≤ i ∧ i < hi + 1 then v.testBit (i - lo) else w.testBit i := by
  unfold putBits
  rw [Nat.testBit_xor, Nat.testBit_shiftLeft, Nat.testBit_xor, testBit_bitsOf, Nat.testBit_mod_two_pow]
  by_cases h1 : lo ≤ i
  · by_cases h2 : i < hi + 1
    · have : i - lo < hi + 1 - lo := by omega
      have e : lo + (i - lo) = i := by omega
      simp [h1, h2, this, e]
    · have : ¬ i - lo < hi + 1 - lo := by omega
      simp [h1, h2, this]
  · simp [h1]

/-- A bit of a field of a word. -/
theorem testBit_fieldOf (w : Word) (hi lo i : Nat) :
    (fieldOf w hi lo).testBit i = (decide (i < hi + 1 - lo) && w.getLsbD (lo + i)) := by
  unfold fieldOf; rw [testBit_bitsOf]; rfl

/-- A bit of a word with a field replaced. -/
theorem getLsbD_putField (w : Word) (hi lo v i : Nat) (h : i < 32) :
    (putField w hi lo v).getLsbD i = if lo ≤ i ∧ i < hi + 1 then v.testBit (i - lo) else w.getLsbD i := by
  unfold putField
  rw [BitVec.getLsbD_ofNat, testBit_putBits]
  simp [h]
  rfl

/-- The field written reads back, cut to its width. -/
@[simp] theorem fieldOf_putField (w : Word) (hi lo v : Nat) (h : hi < 32) :
    fieldOf (putField w hi lo v) hi lo = v % 2 ^ (hi + 1 - lo) := by
  apply Nat.eq_of_testBit_eq
  intro i
  rw [testBit_fieldOf, Nat.testBit_mod_two_pow]
  by_cases hi' : i < hi + 1 - lo
  · have a : lo + i < 32 := by omega
    have b : lo ≤ lo + i ∧ lo + i < hi + 1 := by omega
    rw [getLsbD_putField _ _ _ _ _ a, if_pos b]
    simp
  · simp [hi']

/-- A field that shares no bit with the one written is unchanged. -/
theorem fieldOf_putField_disjoint (w : Word) (hi lo hi' lo' v : Nat) (h : hi' < lo ∨ hi < lo') (hb : hi' < 32) :
    fieldOf (putField w hi lo v) hi' lo' = fieldOf w hi' lo' := by
  apply Nat.eq_of_testBit_eq
  intro i
  rw [testBit_fieldOf, testBit_fieldOf]
  by_cases hi1 : i < hi' + 1 - lo'
  · have a : lo' + i < 32 := by omega
    have b : ¬ (lo ≤ lo' + i ∧ lo' + i < hi + 1) := by omega
    rw [getLsbD_putField _ _ _ _ _ a, if_neg b]
  · simp [hi1]

/-- A field lies below the power of two of its width. -/
theorem fieldOf_lt (w : Word) (hi lo : Nat) : fieldOf w hi lo < 2 ^ (hi + 1 - lo) := by
  unfold fieldOf bitsOf; exact Nat.mod_lt _ (by positivity)

end Sys2Proof.Laws
end

