-- ==== Sys2Proof/Laws/Table.lean ====
section
/-!
SUPPORT. The laws of sparse tables: a read after a write, and the canonical form, which every operation keeps.
-/

namespace Sys2Proof.Laws

open Sys2Proof.Machine

variable {α : Type}

/-- A read after an erase. -/
theorem tblGet_tblErase (d : Nat → α) (t : Tbl α) (k j : Nat) :
    tblGet d (tblErase t k) j = if j = k then d j else tblGet d t j := by
  induction t with
  | nil => by_cases h : j = k <;> simp [tblErase, tblGet, h]
  | cons x t ih =>
    obtain ⟨i, v⟩ := x
    by_cases hk : k = i
    · subst hk
      by_cases hj : j = k
      · subst hj; simpa [tblErase] using ih
      · simp [tblErase, tblGet, ih, hj]
    · by_cases hj : j = i
      · subst hj
        have : ¬ j = k := fun e => hk e.symm
        simp [tblErase, tblGet, hk, this]
      · simp [tblErase, tblGet, hk, hj, ih]

/-- A read after an insertion. -/
theorem tblGet_tblInsert (d : Nat → α) (t : Tbl α) (k j : Nat) (v : α) :
    tblGet d (tblInsert t k v) j = if j = k then v else tblGet d t j := by
  induction t with
  | nil => simp [tblInsert, tblGet]
  | cons x t ih =>
    obtain ⟨i, w⟩ := x
    by_cases h1 : k < i
    · simp [tblInsert, h1, tblGet]
    · by_cases h2 : k = i
      · subst h2
        by_cases hj : j = k <;> simp [tblInsert, tblGet, hj]
      · by_cases hj : j = i
        · subst hj
          have : ¬ j = k := fun e => h2 e.symm
          simp [tblInsert, h1, h2, tblGet, this]
        · simp [tblInsert, h1, h2, tblGet, hj, ih]

/-- A read after a write gives the value written at its key, and leaves every other key alone. -/
@[simp] theorem tblGet_tblSet [DecidableEq α] (d : Nat → α) (t : Tbl α) (k j : Nat) (v : α) :
    tblGet d (tblSet d t k v) j = if j = k then v else tblGet d t j := by
  unfold tblSet
  by_cases h : v = d k
  · rw [if_pos h, tblGet_tblErase]
    by_cases hj : j = k
    · subst hj; simp [h]
    · simp [hj]
  · rw [if_neg h, tblGet_tblInsert]

@[simp] theorem tblGet_nil (d : Nat → α) (k : Nat) : tblGet d [] k = d k := rfl

/-- A table canonical above a bound is so above a lower one. -/
theorem tblWfFrom_lower [DecidableEq α] (d : Nat → α) (t : Tbl α) (a : Option Nat) (j : Nat)
    (ha : (match a with | none => true | some i => decide (i < j)) = true)
    (h : tblWfFrom d (some j) t = true) : tblWfFrom d a t = true := by
  cases t with
  | nil => rfl
  | cons x t =>
    obtain ⟨k, v⟩ := x
    simp only [tblWfFrom, Bool.and_eq_true, decide_eq_true_eq] at h ⊢
    refine ⟨⟨?_, h.1.2⟩, h.2⟩
    cases a with
    | none => rfl
    | some i => simp only [decide_eq_true_eq] at *; omega

theorem tblErase_wfFrom [DecidableEq α] (d : Nat → α) (t : Tbl α) (a : Option Nat) (k : Nat)
    (h : tblWfFrom d a t = true) : tblWfFrom d a (tblErase t k) = true := by
  induction t generalizing a with
  | nil => rfl
  | cons x t ih =>
    obtain ⟨i, v⟩ := x
    simp only [tblWfFrom, Bool.and_eq_true] at h
    by_cases hk : k = i
    · simp only [tblErase, hk, if_true]
      subst hk
      exact ih a (tblWfFrom_lower d t a k h.1.1 h.2)
    · simp only [tblErase, hk, if_false, tblWfFrom, Bool.and_eq_true]
      exact ⟨h.1, ih _ h.2⟩

theorem tblInsert_wfFrom [DecidableEq α] (d : Nat → α) (t : Tbl α) (a : Option Nat) (k : Nat) (v : α) (hv : v ≠ d k)
    (ha : (match a with | none => true | some i => decide (i < k)) = true)
    (h : tblWfFrom d a t = true) : tblWfFrom d a (tblInsert t k v) = true := by
  induction t generalizing a with
  | nil => simp only [tblInsert, tblWfFrom, Bool.and_eq_true]; exact ⟨⟨ha, by simp [hv]⟩, trivial⟩
  | cons x t ih =>
    obtain ⟨i, w⟩ := x
    simp only [tblWfFrom, Bool.and_eq_true] at h
    by_cases h1 : k < i
    · simp only [tblInsert, h1, if_true, tblWfFrom, Bool.and_eq_true]
      exact ⟨⟨ha, by simp [hv]⟩, ⟨by simpa using h1, h.1.2⟩, h.2⟩
    · by_cases h2 : k = i
      · subst h2
        simp only [tblInsert, lt_irrefl, if_false, if_true, tblWfFrom, Bool.and_eq_true]
        exact ⟨⟨ha, by simp [hv]⟩, h.2⟩
      · simp only [tblInsert, h1, h2, if_false, tblWfFrom, Bool.and_eq_true]
        exact ⟨h.1, ih _ (by simp only [decide_eq_true_eq]; omega) h.2⟩

/-- A write keeps the canonical form. -/
theorem tblSet_wf [DecidableEq α] (d : Nat → α) (t : Tbl α) (k : Nat) (v : α) (h : tblWf d t = true) :
    tblWf d (tblSet d t k v) = true := by
  unfold tblWf tblSet at *
  by_cases hv : v = d k
  · rw [if_pos hv]; exact tblErase_wfFrom d t _ k h
  · rw [if_neg hv]; exact tblInsert_wfFrom d t _ k v hv rfl h

theorem tblKeep_wfFrom [DecidableEq α] (d : Nat → α) (p : Nat → Bool) (t : Tbl α) (a : Option Nat)
    (h : tblWfFrom d a t = true) : tblWfFrom d a (tblKeep p t) = true := by
  induction t generalizing a with
  | nil => rfl
  | cons x t ih =>
    obtain ⟨i, v⟩ := x
    simp only [tblWfFrom, Bool.and_eq_true] at h
    by_cases hp : p i = true
    · simp only [tblKeep, hp, if_true, tblWfFrom, Bool.and_eq_true]; exact ⟨h.1, ih _ h.2⟩
    · simp only [tblKeep, hp]; exact ih a (tblWfFrom_lower d t a i h.1.1 h.2)

/-- Keeping some of the keys keeps the canonical form. -/
theorem tblKeep_wf [DecidableEq α] (d : Nat → α) (p : Nat → Bool) (t : Tbl α) (h : tblWf d t = true) :
    tblWf d (tblKeep p t) = true := tblKeep_wfFrom d p t none h

/-- A read after the keys outside a test have returned to their defaults. -/
theorem tblGet_tblKeep (d : Nat → α) (p : Nat → Bool) (t : Tbl α) (k : Nat) :
    tblGet d (tblKeep p t) k = if p k then tblGet d t k else d k := by
  induction t with
  | nil => simp [tblKeep]
  | cons x t ih =>
    obtain ⟨i, v⟩ := x
    by_cases hp : p i = true
    · by_cases hk : k = i
      · subst hk; simp [tblKeep, hp, tblGet]
      · simp [tblKeep, hp, tblGet, hk, ih]
    · by_cases hk : k = i
      · subst hk; simp [tblKeep, hp, tblGet, ih]
      · simp [tblKeep, hp, tblGet, hk, ih]

end Sys2Proof.Laws
end

