-- ==== Sys2Proof/Laws/Ops.lean ====
section
/-!
SUPPORT. The laws of the named operations: registers and their fields, memory, cores and contexts.
-/

namespace Sys2Proof.Laws

open Sys2Proof.Machine

/-! ### Registers -/

/-- A register read after a register write. -/
@[simp] theorem rd_wr (s : State) (a b : Nat) (v : Word) : (s.wr a v).rd b = if b = a then v else s.rd b := by
  unfold State.rd State.wr; exact tblGet_tblSet _ _ _ _ _

/-- A register read after a field write. -/
theorem rd_put (s : State) (r : Ref) (v b : Nat) :
    (s.put r v).rd b = if b = r.addr then putField (s.rd r.addr) r.hi r.lo v else s.rd b := by
  unfold State.put; exact rd_wr _ _ _ _

/-- The field written reads back, cut to its width. -/
theorem get_put_same (s : State) (r : Ref) (v : Nat) (h : r.hi < 32) :
    (s.put r v).get r = v % 2 ^ (r.hi + 1 - r.lo) := by
  unfold State.get; rw [rd_put, if_pos rfl, fieldOf_putField _ _ _ _ h]

/-- A field that shares no bit of the register written is unchanged. -/
theorem get_put_other (s : State) (r q : Ref) (v : Nat) (hb : q.hi < 32)
    (h : q.addr ≠ r.addr ∨ q.hi < r.lo ∨ r.hi < q.lo) : (s.put r v).get q = s.get q := by
  unfold State.get
  rw [rd_put]
  by_cases ha : q.addr = r.addr
  · rw [if_pos ha, ha]
    exact fieldOf_putField_disjoint _ _ _ _ _ _ (by tauto) hb
  · rw [if_neg ha]

/-- A one-bit field once raised. -/
theorem get_raise (s : State) (r : Ref) (h : r.hi < 32) (hw : r.lo ≤ r.hi) : (s.raise r).get r = 1 := by
  unfold State.raise
  rw [get_put_same _ _ _ h]
  refine Nat.mod_eq_of_lt (Nat.one_lt_two_pow ?_)
  omega

/-- A field once cleared. -/
theorem get_clear (s : State) (r : Ref) (h : r.hi < 32) : (s.clear r).get r = 0 := by
  unfold State.clear
  rw [get_put_same _ _ _ h, Nat.zero_mod]

/-- A register write keeps the canonical form of the registers. -/
theorem wr_wf (s : State) (a : Nat) (v : Word) (h : Safety.Registers.wf s) : Safety.Registers.wf (s.wr a v) :=
  tblSet_wf _ _ _ _ h

/-- A field write keeps it. -/
theorem put_wf (s : State) (r : Ref) (v : Nat) (h : Safety.Registers.wf s) : Safety.Registers.wf (s.put r v) :=
  wr_wf _ _ _ h

/-! ### Memory -/

/-- A byte read after a byte written. -/
@[simp] theorem byte_setByte (s : State) (a b : Nat) (v : Byte) :
    (s.setByte a v).byte b = if b = a then v else s.byte b := by
  unfold State.byte State.setByte; exact tblGet_tblSet _ _ _ _ _

/-- Bytes written from an address: which one lies where. -/
theorem byte_setBytes (s : State) (a b : Nat) (l : List Byte) :
    (s.setBytes a l).byte b = if a ≤ b ∧ b < a + l.length then l.getD (b - a) 0 else s.byte b := by
  induction l generalizing s a with
  | nil =>
    have : ¬ (a ≤ b ∧ b < a + 0) := by omega
    simp [State.setBytes, this]
  | cons x l ih =>
    rw [State.setBytes, ih, byte_setByte]
    by_cases h1 : b = a
    · subst h1
      have : ¬ (b + 1 ≤ b ∧ b < b + 1 + l.length) := by omega
      simp
    · by_cases h2 : a + 1 ≤ b ∧ b < a + 1 + l.length
      · have h3 : a ≤ b ∧ b < a + (x :: l).length := by simp only [List.length_cons]; omega
        rw [if_pos h2, if_pos h3]
        have e : b - a = (b - (a + 1)) + 1 := by omega
        rw [e, List.getD_cons_succ]
      · have h3 : ¬ (a ≤ b ∧ b < a + (x :: l).length) := by simp only [List.length_cons]; omega
        rw [if_neg h2, if_neg h3, if_neg h1]

@[simp] theorem bytesLE_length (n v : Nat) : (bytesLE n v).length = n := by
  induction n generalizing v with
  | zero => rfl
  | succ n ih => simp [bytesLE, ih]

/-- The bytes of a number spell it, modulo the width. -/
theorem natLE_bytesLE (n v : Nat) : natLE (bytesLE n v) = v % 256 ^ n := by
  induction n generalizing v with
  | zero => simp [bytesLE, natLE, Nat.mod_one]
  | succ n ih =>
    simp only [bytesLE, natLE, ih, BitVec.toNat_ofNat]
    have e : 256 ^ (n + 1) = 256 * 256 ^ n := by rw [Nat.pow_succ, Nat.mul_comm]
    rw [e, Nat.mod_mul]

/-- Bytes that a write does not touch. -/
theorem bytes_setBytes_other (s : State) (a b n : Nat) (l : List Byte) (h : b + n ≤ a ∨ a + l.length ≤ b) :
    (s.setBytes a l).bytes b n = s.bytes b n := by
  induction n generalizing b with
  | zero => rfl
  | succ n ih =>
    have hb : ¬ (a ≤ b ∧ b < a + l.length) := by omega
    simp only [State.bytes, byte_setBytes, if_neg hb]
    rw [ih (b + 1) (by omega)]

theorem bytes_setBytes_same (s : State) (a : Nat) (l : List Byte) : (s.setBytes a l).bytes a l.length = l := by
  have key : ∀ (n : Nat) (b : Nat), n ≤ l.length → b + n = a + l.length →
      (s.setBytes a l).bytes b n = l.drop (b - a) := by
    intro n
    induction n with
    | zero =>
      intro b _ hb
      have : b - a = l.length := by omega
      simp [State.bytes, this]
    | succ n ih =>
      intro b hn hb
      have h1 : a ≤ b ∧ b < a + l.length := by omega
      rw [State.bytes, byte_setBytes, if_pos h1, ih (b + 1) (by omega) (by omega)]
      have h2 : b - a < l.length := by omega
      have e : b + 1 - a = b - a + 1 := by omega
      rw [e, List.getD_eq_getElem _ _ h2]
      exact (List.drop_eq_getElem_cons h2).symm
  have := key l.length a (le_refl _) rfl
  simpa using this

/-- The word written reads back. -/
@[simp] theorem memWord_setMemWord_same (s : State) (a : Nat) (v : Word) : (s.setMemWord a v).memWord a = v := by
  unfold State.memWord State.setMemWord
  have h := bytes_setBytes_same s a (bytesLE 4 v.toNat)
  rw [bytesLE_length] at h
  rw [h, natLE_bytesLE]
  apply BitVec.eq_of_toNat_eq
  have : v.toNat < 2 ^ 32 := v.isLt
  simp only [BitVec.toNat_ofNat]
  omega

/-- A word that shares no byte with the one written is unchanged. -/
theorem memWord_setMemWord_other (s : State) (a b : Nat) (v : Word) (h : b + 4 ≤ a ∨ a + 4 ≤ b) :
    (s.setMemWord a v).memWord b = s.memWord b := by
  unfold State.memWord State.setMemWord
  rw [bytes_setBytes_other _ _ _ _ _ (by simpa using h)]

/-- A byte write keeps the canonical form of memory. -/
theorem setByte_wf (s : State) (a : Nat) (b : Byte) (h : Safety.Memory.wf s) : Safety.Memory.wf (s.setByte a b) :=
  tblSet_wf _ _ _ _ h

/-- Writing bytes keeps it. -/
theorem setBytes_wf (s : State) (a : Nat) (l : List Byte) (h : Safety.Memory.wf s) : Safety.Memory.wf (s.setBytes a l) := by
  induction l generalizing s a with
  | nil => exact h
  | cons b l ih => exact ih _ _ (setByte_wf _ _ _ h)

/-- Writing a word keeps it. -/
theorem setMemWord_wf (s : State) (a : Nat) (v : Word) (h : Safety.Memory.wf s) : Safety.Memory.wf (s.setMemWord a v) :=
  setBytes_wf _ _ _ h

/-- Writing words keeps it. -/
theorem setMemWords_wf (s : State) (a : Nat) (l : List Word) (h : Safety.Memory.wf s) :
    Safety.Memory.wf (s.setMemWords a l) := by
  induction l generalizing s a with
  | nil => exact h
  | cons w l ih => exact ih _ _ (setMemWord_wf _ _ _ h)

/-! ### Cores, contexts and the like -/

/-- A core after a core has been replaced. -/
@[simp] theorem core_setCore (s : State) (n m : Nat) (x : CoreSt) :
    (s.setCore n x).core m = if m = n then x else s.core m := by
  unfold State.core State.setCore; exact tblGet_tblSet _ _ _ _ _

@[simp] theorem ctx_setCtx (s : State) (n m : Nat) (x : CtxSt) : (s.setCtx n x).ctx m = if m = n then x else s.ctx m := by
  unfold State.ctx State.setCtx; exact tblGet_tblSet _ _ _ _ _

@[simp] theorem bch_setBch (s : State) (n m : Nat) (x : BCh) : (s.setBch n x).bch m = if m = n then x else s.bch m := by
  unfold State.bch State.setBch; exact tblGet_tblSet _ _ _ _ _

@[simp] theorem brl_setBrl (s : State) (n m : Nat) (x : BRl) : (s.setBrl n x).brl m = if m = n then x else s.brl m := by
  unfold State.brl State.setBrl; exact tblGet_tblSet _ _ _ _ _

@[simp] theorem syn_setSyn (s : State) (n m : Nat) (x : SynSt) : (s.setSyn n x).syn m = if m = n then x else s.syn m := by
  unfold State.syn State.setSyn; exact tblGet_tblSet _ _ _ _ _

end Sys2Proof.Laws
end

