-- ==== Sys2Proof/Laws/State.lean ====
section
/-!
SUPPORT. What the elementary updates of the state leave alone: one lemma per update and field.
-/

namespace Sys2Proof.Laws

open Sys2Proof.Machine

/-! ### A register write -/

@[simp] theorem wr_mem (s : State) (a : Nat) (v : Word) : (s.wr a v).mem = s.mem := rfl
@[simp] theorem wr_flash (s : State) (a : Nat) (v : Word) : (s.wr a v).flash = s.flash := rfl
@[simp] theorem wr_wram (s : State) (a : Nat) (v : Word) : (s.wr a v).wram = s.wram := rfl
@[simp] theorem wr_ecc (s : State) (a : Nat) (v : Word) : (s.wr a v).ecc = s.ecc := rfl
@[simp] theorem wr_timers (s : State) (a : Nat) (v : Word) : (s.wr a v).timers = s.timers := rfl
@[simp] theorem wr_upNs (s : State) (a : Nat) (v : Word) : (s.wr a v).upNs = s.upNs := rfl
@[simp] theorem wr_ptp (s : State) (a : Nat) (v : Word) : (s.wr a v).ptp = s.ptp := rfl
@[simp] theorem wr_fbDue (s : State) (a : Nat) (v : Word) : (s.wr a v).fbDue = s.fbDue := rfl
@[simp] theorem wr_mds (s : State) (a : Nat) (v : Word) : (s.wr a v).mds = s.mds := rfl
@[simp] theorem wr_mcks (s : State) (a : Nat) (v : Word) : (s.wr a v).mcks = s.mcks := rfl
@[simp] theorem wr_law (s : State) (a : Nat) (v : Word) : (s.wr a v).law = s.law := rfl
@[simp] theorem wr_eccFixed (s : State) (a : Nat) (v : Word) : (s.wr a v).eccFixed = s.eccFixed := rfl
@[simp] theorem wr_cores (s : State) (a : Nat) (v : Word) : (s.wr a v).cores = s.cores := rfl
@[simp] theorem wr_ctxs (s : State) (a : Nat) (v : Word) : (s.wr a v).ctxs = s.ctxs := rfl
@[simp] theorem wr_bchs (s : State) (a : Nat) (v : Word) : (s.wr a v).bchs = s.bchs := rfl
@[simp] theorem wr_brls (s : State) (a : Nat) (v : Word) : (s.wr a v).brls = s.brls := rfl
@[simp] theorem wr_bat (s : State) (a : Nat) (v : Word) : (s.wr a v).bat = s.bat := rfl
@[simp] theorem wr_legs (s : State) (a : Nat) (v : Word) : (s.wr a v).legs = s.legs := rfl
@[simp] theorem wr_sls (s : State) (a : Nat) (v : Word) : (s.wr a v).sls = s.sls := rfl
@[simp] theorem wr_rlLoops (s : State) (a : Nat) (v : Word) : (s.wr a v).rlLoops = s.rlLoops := rfl
@[simp] theorem wr_gate (s : State) (a : Nat) (v : Word) : (s.wr a v).gate = s.gate := rfl
@[simp] theorem wr_cmps (s : State) (a : Nat) (v : Word) : (s.wr a v).cmps = s.cmps := rfl
@[simp] theorem wr_wins (s : State) (a : Nat) (v : Word) : (s.wr a v).wins = s.wins := rfl
@[simp] theorem wr_hadc (s : State) (a : Nat) (v : Word) : (s.wr a v).hadc = s.hadc := rfl
@[simp] theorem wr_sense (s : State) (a : Nat) (v : Word) : (s.wr a v).sense = s.sense := rfl
@[simp] theorem wr_bcs (s : State) (a : Nat) (v : Word) : (s.wr a v).bcs = s.bcs := rfl
@[simp] theorem wr_mpps (s : State) (a : Nat) (v : Word) : (s.wr a v).mpps = s.mpps := rfl
@[simp] theorem wr_syns (s : State) (a : Nat) (v : Word) : (s.wr a v).syns = s.syns := rfl
@[simp] theorem wr_time (s : State) (a : Nat) (v : Word) : (s.wr a v).time = s.time := rfl
@[simp] theorem wr_eaves (s : State) (a : Nat) (v : Word) : (s.wr a v).eaves = s.eaves := rfl
@[simp] theorem wr_thatch (s : State) (a : Nat) (v : Word) : (s.wr a v).thatch = s.thatch := rfl
@[simp] theorem wr_pus (s : State) (a : Nat) (v : Word) : (s.wr a v).pus = s.pus := rfl
@[simp] theorem wr_seq (s : State) (a : Nat) (v : Word) : (s.wr a v).seq = s.seq := rfl
@[simp] theorem wr_lanes (s : State) (a : Nat) (v : Word) : (s.wr a v).lanes = s.lanes := rfl
@[simp] theorem wr_enets (s : State) (a : Nat) (v : Word) : (s.wr a v).enets = s.enets := rfl
@[simp] theorem wr_ridge (s : State) (a : Nat) (v : Word) : (s.wr a v).ridge = s.ridge := rfl
@[simp] theorem wr_safe (s : State) (a : Nat) (v : Word) : (s.wr a v).safe = s.safe := rfl
@[simp] theorem wr_meters (s : State) (a : Nat) (v : Word) : (s.wr a v).meters = s.meters := rfl
@[simp] theorem wr_met (s : State) (a : Nat) (v : Word) : (s.wr a v).met = s.met := rfl
@[simp] theorem wr_sys (s : State) (a : Nat) (v : Word) : (s.wr a v).sys = s.sys := rfl
@[simp] theorem wr_cfg (s : State) (a : Nat) (v : Word) : (s.wr a v).cfg = s.cfg := rfl
@[simp] theorem wr_host (s : State) (a : Nat) (v : Word) : (s.wr a v).host = s.host := rfl
@[simp] theorem wr_limits (s : State) (a : Nat) (v : Word) : (s.wr a v).limits = s.limits := rfl
@[simp] theorem wr_freeCtr (s : State) (a : Nat) (v : Word) : (s.wr a v).freeCtr = s.freeCtr := rfl
@[simp] theorem wr_pending (s : State) (a : Nat) (v : Word) : (s.wr a v).pending = s.pending := rfl

/-! ### A field write -/

@[simp] theorem put_mem (s : State) (r : Ref) (v : Nat) : (s.put r v).mem = s.mem := rfl
@[simp] theorem put_flash (s : State) (r : Ref) (v : Nat) : (s.put r v).flash = s.flash := rfl
@[simp] theorem put_wram (s : State) (r : Ref) (v : Nat) : (s.put r v).wram = s.wram := rfl
@[simp] theorem put_ecc (s : State) (r : Ref) (v : Nat) : (s.put r v).ecc = s.ecc := rfl
@[simp] theorem put_timers (s : State) (r : Ref) (v : Nat) : (s.put r v).timers = s.timers := rfl
@[simp] theorem put_upNs (s : State) (r : Ref) (v : Nat) : (s.put r v).upNs = s.upNs := rfl
@[simp] theorem put_ptp (s : State) (r : Ref) (v : Nat) : (s.put r v).ptp = s.ptp := rfl
@[simp] theorem put_fbDue (s : State) (r : Ref) (v : Nat) : (s.put r v).fbDue = s.fbDue := rfl
@[simp] theorem put_mds (s : State) (r : Ref) (v : Nat) : (s.put r v).mds = s.mds := rfl
@[simp] theorem put_mcks (s : State) (r : Ref) (v : Nat) : (s.put r v).mcks = s.mcks := rfl
@[simp] theorem put_law (s : State) (r : Ref) (v : Nat) : (s.put r v).law = s.law := rfl
@[simp] theorem put_eccFixed (s : State) (r : Ref) (v : Nat) : (s.put r v).eccFixed = s.eccFixed := rfl
@[simp] theorem put_cores (s : State) (r : Ref) (v : Nat) : (s.put r v).cores = s.cores := rfl
@[simp] theorem put_ctxs (s : State) (r : Ref) (v : Nat) : (s.put r v).ctxs = s.ctxs := rfl
@[simp] theorem put_bchs (s : State) (r : Ref) (v : Nat) : (s.put r v).bchs = s.bchs := rfl
@[simp] theorem put_brls (s : State) (r : Ref) (v : Nat) : (s.put r v).brls = s.brls := rfl
@[simp] theorem put_bat (s : State) (r : Ref) (v : Nat) : (s.put r v).bat = s.bat := rfl
@[simp] theorem put_legs (s : State) (r : Ref) (v : Nat) : (s.put r v).legs = s.legs := rfl
@[simp] theorem put_sls (s : State) (r : Ref) (v : Nat) : (s.put r v).sls = s.sls := rfl
@[simp] theorem put_rlLoops (s : State) (r : Ref) (v : Nat) : (s.put r v).rlLoops = s.rlLoops := rfl
@[simp] theorem put_gate (s : State) (r : Ref) (v : Nat) : (s.put r v).gate = s.gate := rfl
@[simp] theorem put_cmps (s : State) (r : Ref) (v : Nat) : (s.put r v).cmps = s.cmps := rfl
@[simp] theorem put_wins (s : State) (r : Ref) (v : Nat) : (s.put r v).wins = s.wins := rfl
@[simp] theorem put_hadc (s : State) (r : Ref) (v : Nat) : (s.put r v).hadc = s.hadc := rfl
@[simp] theorem put_sense (s : State) (r : Ref) (v : Nat) : (s.put r v).sense = s.sense := rfl
@[simp] theorem put_bcs (s : State) (r : Ref) (v : Nat) : (s.put r v).bcs = s.bcs := rfl
@[simp] theorem put_mpps (s : State) (r : Ref) (v : Nat) : (s.put r v).mpps = s.mpps := rfl
@[simp] theorem put_syns (s : State) (r : Ref) (v : Nat) : (s.put r v).syns = s.syns := rfl
@[simp] theorem put_time (s : State) (r : Ref) (v : Nat) : (s.put r v).time = s.time := rfl
@[simp] theorem put_eaves (s : State) (r : Ref) (v : Nat) : (s.put r v).eaves = s.eaves := rfl
@[simp] theorem put_thatch (s : State) (r : Ref) (v : Nat) : (s.put r v).thatch = s.thatch := rfl
@[simp] theorem put_pus (s : State) (r : Ref) (v : Nat) : (s.put r v).pus = s.pus := rfl
@[simp] theorem put_seq (s : State) (r : Ref) (v : Nat) : (s.put r v).seq = s.seq := rfl
@[simp] theorem put_lanes (s : State) (r : Ref) (v : Nat) : (s.put r v).lanes = s.lanes := rfl
@[simp] theorem put_enets (s : State) (r : Ref) (v : Nat) : (s.put r v).enets = s.enets := rfl
@[simp] theorem put_ridge (s : State) (r : Ref) (v : Nat) : (s.put r v).ridge = s.ridge := rfl
@[simp] theorem put_safe (s : State) (r : Ref) (v : Nat) : (s.put r v).safe = s.safe := rfl
@[simp] theorem put_meters (s : State) (r : Ref) (v : Nat) : (s.put r v).meters = s.meters := rfl
@[simp] theorem put_met (s : State) (r : Ref) (v : Nat) : (s.put r v).met = s.met := rfl
@[simp] theorem put_sys (s : State) (r : Ref) (v : Nat) : (s.put r v).sys = s.sys := rfl
@[simp] theorem put_cfg (s : State) (r : Ref) (v : Nat) : (s.put r v).cfg = s.cfg := rfl
@[simp] theorem put_host (s : State) (r : Ref) (v : Nat) : (s.put r v).host = s.host := rfl
@[simp] theorem put_limits (s : State) (r : Ref) (v : Nat) : (s.put r v).limits = s.limits := rfl
@[simp] theorem put_freeCtr (s : State) (r : Ref) (v : Nat) : (s.put r v).freeCtr = s.freeCtr := rfl
@[simp] theorem put_pending (s : State) (r : Ref) (v : Nat) : (s.put r v).pending = s.pending := rfl

/-! ### Raising a field -/

@[simp] theorem raise_mem (s : State) (r : Ref) : (s.raise r).mem = s.mem := rfl
@[simp] theorem raise_flash (s : State) (r : Ref) : (s.raise r).flash = s.flash := rfl
@[simp] theorem raise_wram (s : State) (r : Ref) : (s.raise r).wram = s.wram := rfl
@[simp] theorem raise_ecc (s : State) (r : Ref) : (s.raise r).ecc = s.ecc := rfl
@[simp] theorem raise_timers (s : State) (r : Ref) : (s.raise r).timers = s.timers := rfl
@[simp] theorem raise_upNs (s : State) (r : Ref) : (s.raise r).upNs = s.upNs := rfl
@[simp] theorem raise_ptp (s : State) (r : Ref) : (s.raise r).ptp = s.ptp := rfl
@[simp] theorem raise_fbDue (s : State) (r : Ref) : (s.raise r).fbDue = s.fbDue := rfl
@[simp] theorem raise_mds (s : State) (r : Ref) : (s.raise r).mds = s.mds := rfl
@[simp] theorem raise_mcks (s : State) (r : Ref) : (s.raise r).mcks = s.mcks := rfl
@[simp] theorem raise_law (s : State) (r : Ref) : (s.raise r).law = s.law := rfl
@[simp] theorem raise_eccFixed (s : State) (r : Ref) : (s.raise r).eccFixed = s.eccFixed := rfl
@[simp] theorem raise_cores (s : State) (r : Ref) : (s.raise r).cores = s.cores := rfl
@[simp] theorem raise_ctxs (s : State) (r : Ref) : (s.raise r).ctxs = s.ctxs := rfl
@[simp] theorem raise_bchs (s : State) (r : Ref) : (s.raise r).bchs = s.bchs := rfl
@[simp] theorem raise_brls (s : State) (r : Ref) : (s.raise r).brls = s.brls := rfl
@[simp] theorem raise_bat (s : State) (r : Ref) : (s.raise r).bat = s.bat := rfl
@[simp] theorem raise_legs (s : State) (r : Ref) : (s.raise r).legs = s.legs := rfl
@[simp] theorem raise_sls (s : State) (r : Ref) : (s.raise r).sls = s.sls := rfl
@[simp] theorem raise_rlLoops (s : State) (r : Ref) : (s.raise r).rlLoops = s.rlLoops := rfl
@[simp] theorem raise_gate (s : State) (r : Ref) : (s.raise r).gate = s.gate := rfl
@[simp] theorem raise_cmps (s : State) (r : Ref) : (s.raise r).cmps = s.cmps := rfl
@[simp] theorem raise_wins (s : State) (r : Ref) : (s.raise r).wins = s.wins := rfl
@[simp] theorem raise_hadc (s : State) (r : Ref) : (s.raise r).hadc = s.hadc := rfl
@[simp] theorem raise_sense (s : State) (r : Ref) : (s.raise r).sense = s.sense := rfl
@[simp] theorem raise_bcs (s : State) (r : Ref) : (s.raise r).bcs = s.bcs := rfl
@[simp] theorem raise_mpps (s : State) (r : Ref) : (s.raise r).mpps = s.mpps := rfl
@[simp] theorem raise_syns (s : State) (r : Ref) : (s.raise r).syns = s.syns := rfl
@[simp] theorem raise_time (s : State) (r : Ref) : (s.raise r).time = s.time := rfl
@[simp] theorem raise_eaves (s : State) (r : Ref) : (s.raise r).eaves = s.eaves := rfl
@[simp] theorem raise_thatch (s : State) (r : Ref) : (s.raise r).thatch = s.thatch := rfl
@[simp] theorem raise_pus (s : State) (r : Ref) : (s.raise r).pus = s.pus := rfl
@[simp] theorem raise_seq (s : State) (r : Ref) : (s.raise r).seq = s.seq := rfl
@[simp] theorem raise_lanes (s : State) (r : Ref) : (s.raise r).lanes = s.lanes := rfl
@[simp] theorem raise_enets (s : State) (r : Ref) : (s.raise r).enets = s.enets := rfl
@[simp] theorem raise_ridge (s : State) (r : Ref) : (s.raise r).ridge = s.ridge := rfl
@[simp] theorem raise_safe (s : State) (r : Ref) : (s.raise r).safe = s.safe := rfl
@[simp] theorem raise_meters (s : State) (r : Ref) : (s.raise r).meters = s.meters := rfl
@[simp] theorem raise_met (s : State) (r : Ref) : (s.raise r).met = s.met := rfl
@[simp] theorem raise_sys (s : State) (r : Ref) : (s.raise r).sys = s.sys := rfl
@[simp] theorem raise_cfg (s : State) (r : Ref) : (s.raise r).cfg = s.cfg := rfl
@[simp] theorem raise_host (s : State) (r : Ref) : (s.raise r).host = s.host := rfl
@[simp] theorem raise_limits (s : State) (r : Ref) : (s.raise r).limits = s.limits := rfl
@[simp] theorem raise_freeCtr (s : State) (r : Ref) : (s.raise r).freeCtr = s.freeCtr := rfl
@[simp] theorem raise_pending (s : State) (r : Ref) : (s.raise r).pending = s.pending := rfl

/-! ### Clearing a field -/

@[simp] theorem clear_mem (s : State) (r : Ref) : (s.clear r).mem = s.mem := rfl
@[simp] theorem clear_flash (s : State) (r : Ref) : (s.clear r).flash = s.flash := rfl
@[simp] theorem clear_wram (s : State) (r : Ref) : (s.clear r).wram = s.wram := rfl
@[simp] theorem clear_ecc (s : State) (r : Ref) : (s.clear r).ecc = s.ecc := rfl
@[simp] theorem clear_timers (s : State) (r : Ref) : (s.clear r).timers = s.timers := rfl
@[simp] theorem clear_upNs (s : State) (r : Ref) : (s.clear r).upNs = s.upNs := rfl
@[simp] theorem clear_ptp (s : State) (r : Ref) : (s.clear r).ptp = s.ptp := rfl
@[simp] theorem clear_fbDue (s : State) (r : Ref) : (s.clear r).fbDue = s.fbDue := rfl
@[simp] theorem clear_mds (s : State) (r : Ref) : (s.clear r).mds = s.mds := rfl
@[simp] theorem clear_mcks (s : State) (r : Ref) : (s.clear r).mcks = s.mcks := rfl
@[simp] theorem clear_law (s : State) (r : Ref) : (s.clear r).law = s.law := rfl
@[simp] theorem clear_eccFixed (s : State) (r : Ref) : (s.clear r).eccFixed = s.eccFixed := rfl
@[simp] theorem clear_cores (s : State) (r : Ref) : (s.clear r).cores = s.cores := rfl
@[simp] theorem clear_ctxs (s : State) (r : Ref) : (s.clear r).ctxs = s.ctxs := rfl
@[simp] theorem clear_bchs (s : State) (r : Ref) : (s.clear r).bchs = s.bchs := rfl
@[simp] theorem clear_brls (s : State) (r : Ref) : (s.clear r).brls = s.brls := rfl
@[simp] theorem clear_bat (s : State) (r : Ref) : (s.clear r).bat = s.bat := rfl
@[simp] theorem clear_legs (s : State) (r : Ref) : (s.clear r).legs = s.legs := rfl
@[simp] theorem clear_sls (s : State) (r : Ref) : (s.clear r).sls = s.sls := rfl
@[simp] theorem clear_rlLoops (s : State) (r : Ref) : (s.clear r).rlLoops = s.rlLoops := rfl
@[simp] theorem clear_gate (s : State) (r : Ref) : (s.clear r).gate = s.gate := rfl
@[simp] theorem clear_cmps (s : State) (r : Ref) : (s.clear r).cmps = s.cmps := rfl
@[simp] theorem clear_wins (s : State) (r : Ref) : (s.clear r).wins = s.wins := rfl
@[simp] theorem clear_hadc (s : State) (r : Ref) : (s.clear r).hadc = s.hadc := rfl
@[simp] theorem clear_sense (s : State) (r : Ref) : (s.clear r).sense = s.sense := rfl
@[simp] theorem clear_bcs (s : State) (r : Ref) : (s.clear r).bcs = s.bcs := rfl
@[simp] theorem clear_mpps (s : State) (r : Ref) : (s.clear r).mpps = s.mpps := rfl
@[simp] theorem clear_syns (s : State) (r : Ref) : (s.clear r).syns = s.syns := rfl
@[simp] theorem clear_time (s : State) (r : Ref) : (s.clear r).time = s.time := rfl
@[simp] theorem clear_eaves (s : State) (r : Ref) : (s.clear r).eaves = s.eaves := rfl
@[simp] theorem clear_thatch (s : State) (r : Ref) : (s.clear r).thatch = s.thatch := rfl
@[simp] theorem clear_pus (s : State) (r : Ref) : (s.clear r).pus = s.pus := rfl
@[simp] theorem clear_seq (s : State) (r : Ref) : (s.clear r).seq = s.seq := rfl
@[simp] theorem clear_lanes (s : State) (r : Ref) : (s.clear r).lanes = s.lanes := rfl
@[simp] theorem clear_enets (s : State) (r : Ref) : (s.clear r).enets = s.enets := rfl
@[simp] theorem clear_ridge (s : State) (r : Ref) : (s.clear r).ridge = s.ridge := rfl
@[simp] theorem clear_safe (s : State) (r : Ref) : (s.clear r).safe = s.safe := rfl
@[simp] theorem clear_meters (s : State) (r : Ref) : (s.clear r).meters = s.meters := rfl
@[simp] theorem clear_met (s : State) (r : Ref) : (s.clear r).met = s.met := rfl
@[simp] theorem clear_sys (s : State) (r : Ref) : (s.clear r).sys = s.sys := rfl
@[simp] theorem clear_cfg (s : State) (r : Ref) : (s.clear r).cfg = s.cfg := rfl
@[simp] theorem clear_host (s : State) (r : Ref) : (s.clear r).host = s.host := rfl
@[simp] theorem clear_limits (s : State) (r : Ref) : (s.clear r).limits = s.limits := rfl
@[simp] theorem clear_freeCtr (s : State) (r : Ref) : (s.clear r).freeCtr = s.freeCtr := rfl
@[simp] theorem clear_pending (s : State) (r : Ref) : (s.clear r).pending = s.pending := rfl

/-! ### Setting a field to a truth value -/

@[simp] theorem putB_mem (s : State) (r : Ref) (b : Bool) : (s.putB r b).mem = s.mem := rfl
@[simp] theorem putB_flash (s : State) (r : Ref) (b : Bool) : (s.putB r b).flash = s.flash := rfl
@[simp] theorem putB_wram (s : State) (r : Ref) (b : Bool) : (s.putB r b).wram = s.wram := rfl
@[simp] theorem putB_ecc (s : State) (r : Ref) (b : Bool) : (s.putB r b).ecc = s.ecc := rfl
@[simp] theorem putB_timers (s : State) (r : Ref) (b : Bool) : (s.putB r b).timers = s.timers := rfl
@[simp] theorem putB_upNs (s : State) (r : Ref) (b : Bool) : (s.putB r b).upNs = s.upNs := rfl
@[simp] theorem putB_ptp (s : State) (r : Ref) (b : Bool) : (s.putB r b).ptp = s.ptp := rfl
@[simp] theorem putB_fbDue (s : State) (r : Ref) (b : Bool) : (s.putB r b).fbDue = s.fbDue := rfl
@[simp] theorem putB_mds (s : State) (r : Ref) (b : Bool) : (s.putB r b).mds = s.mds := rfl
@[simp] theorem putB_mcks (s : State) (r : Ref) (b : Bool) : (s.putB r b).mcks = s.mcks := rfl
@[simp] theorem putB_law (s : State) (r : Ref) (b : Bool) : (s.putB r b).law = s.law := rfl
@[simp] theorem putB_eccFixed (s : State) (r : Ref) (b : Bool) : (s.putB r b).eccFixed = s.eccFixed := rfl
@[simp] theorem putB_cores (s : State) (r : Ref) (b : Bool) : (s.putB r b).cores = s.cores := rfl
@[simp] theorem putB_ctxs (s : State) (r : Ref) (b : Bool) : (s.putB r b).ctxs = s.ctxs := rfl
@[simp] theorem putB_bchs (s : State) (r : Ref) (b : Bool) : (s.putB r b).bchs = s.bchs := rfl
@[simp] theorem putB_brls (s : State) (r : Ref) (b : Bool) : (s.putB r b).brls = s.brls := rfl
@[simp] theorem putB_bat (s : State) (r : Ref) (b : Bool) : (s.putB r b).bat = s.bat := rfl
@[simp] theorem putB_legs (s : State) (r : Ref) (b : Bool) : (s.putB r b).legs = s.legs := rfl
@[simp] theorem putB_sls (s : State) (r : Ref) (b : Bool) : (s.putB r b).sls = s.sls := rfl
@[simp] theorem putB_rlLoops (s : State) (r : Ref) (b : Bool) : (s.putB r b).rlLoops = s.rlLoops := rfl
@[simp] theorem putB_gate (s : State) (r : Ref) (b : Bool) : (s.putB r b).gate = s.gate := rfl
@[simp] theorem putB_cmps (s : State) (r : Ref) (b : Bool) : (s.putB r b).cmps = s.cmps := rfl
@[simp] theorem putB_wins (s : State) (r : Ref) (b : Bool) : (s.putB r b).wins = s.wins := rfl
@[simp] theorem putB_hadc (s : State) (r : Ref) (b : Bool) : (s.putB r b).hadc = s.hadc := rfl
@[simp] theorem putB_sense (s : State) (r : Ref) (b : Bool) : (s.putB r b).sense = s.sense := rfl
@[simp] theorem putB_bcs (s : State) (r : Ref) (b : Bool) : (s.putB r b).bcs = s.bcs := rfl
@[simp] theorem putB_mpps (s : State) (r : Ref) (b : Bool) : (s.putB r b).mpps = s.mpps := rfl
@[simp] theorem putB_syns (s : State) (r : Ref) (b : Bool) : (s.putB r b).syns = s.syns := rfl
@[simp] theorem putB_time (s : State) (r : Ref) (b : Bool) : (s.putB r b).time = s.time := rfl
@[simp] theorem putB_eaves (s : State) (r : Ref) (b : Bool) : (s.putB r b).eaves = s.eaves := rfl
@[simp] theorem putB_thatch (s : State) (r : Ref) (b : Bool) : (s.putB r b).thatch = s.thatch := rfl
@[simp] theorem putB_pus (s : State) (r : Ref) (b : Bool) : (s.putB r b).pus = s.pus := rfl
@[simp] theorem putB_seq (s : State) (r : Ref) (b : Bool) : (s.putB r b).seq = s.seq := rfl
@[simp] theorem putB_lanes (s : State) (r : Ref) (b : Bool) : (s.putB r b).lanes = s.lanes := rfl
@[simp] theorem putB_enets (s : State) (r : Ref) (b : Bool) : (s.putB r b).enets = s.enets := rfl
@[simp] theorem putB_ridge (s : State) (r : Ref) (b : Bool) : (s.putB r b).ridge = s.ridge := rfl
@[simp] theorem putB_safe (s : State) (r : Ref) (b : Bool) : (s.putB r b).safe = s.safe := rfl
@[simp] theorem putB_meters (s : State) (r : Ref) (b : Bool) : (s.putB r b).meters = s.meters := rfl
@[simp] theorem putB_met (s : State) (r : Ref) (b : Bool) : (s.putB r b).met = s.met := rfl
@[simp] theorem putB_sys (s : State) (r : Ref) (b : Bool) : (s.putB r b).sys = s.sys := rfl
@[simp] theorem putB_cfg (s : State) (r : Ref) (b : Bool) : (s.putB r b).cfg = s.cfg := rfl
@[simp] theorem putB_host (s : State) (r : Ref) (b : Bool) : (s.putB r b).host = s.host := rfl
@[simp] theorem putB_limits (s : State) (r : Ref) (b : Bool) : (s.putB r b).limits = s.limits := rfl
@[simp] theorem putB_freeCtr (s : State) (r : Ref) (b : Bool) : (s.putB r b).freeCtr = s.freeCtr := rfl
@[simp] theorem putB_pending (s : State) (r : Ref) (b : Bool) : (s.putB r b).pending = s.pending := rfl

/-! ### A byte write -/

@[simp] theorem setByte_regs (s : State) (a : Nat) (b : Byte) : (s.setByte a b).regs = s.regs := rfl
@[simp] theorem setByte_flash (s : State) (a : Nat) (b : Byte) : (s.setByte a b).flash = s.flash := rfl
@[simp] theorem setByte_wram (s : State) (a : Nat) (b : Byte) : (s.setByte a b).wram = s.wram := rfl
@[simp] theorem setByte_ecc (s : State) (a : Nat) (b : Byte) : (s.setByte a b).ecc = s.ecc := rfl
@[simp] theorem setByte_timers (s : State) (a : Nat) (b : Byte) : (s.setByte a b).timers = s.timers := rfl
@[simp] theorem setByte_upNs (s : State) (a : Nat) (b : Byte) : (s.setByte a b).upNs = s.upNs := rfl
@[simp] theorem setByte_ptp (s : State) (a : Nat) (b : Byte) : (s.setByte a b).ptp = s.ptp := rfl
@[simp] theorem setByte_fbDue (s : State) (a : Nat) (b : Byte) : (s.setByte a b).fbDue = s.fbDue := rfl
@[simp] theorem setByte_mds (s : State) (a : Nat) (b : Byte) : (s.setByte a b).mds = s.mds := rfl
@[simp] theorem setByte_mcks (s : State) (a : Nat) (b : Byte) : (s.setByte a b).mcks = s.mcks := rfl
@[simp] theorem setByte_law (s : State) (a : Nat) (b : Byte) : (s.setByte a b).law = s.law := rfl
@[simp] theorem setByte_eccFixed (s : State) (a : Nat) (b : Byte) : (s.setByte a b).eccFixed = s.eccFixed := rfl
@[simp] theorem setByte_cores (s : State) (a : Nat) (b : Byte) : (s.setByte a b).cores = s.cores := rfl
@[simp] theorem setByte_ctxs (s : State) (a : Nat) (b : Byte) : (s.setByte a b).ctxs = s.ctxs := rfl
@[simp] theorem setByte_bchs (s : State) (a : Nat) (b : Byte) : (s.setByte a b).bchs = s.bchs := rfl
@[simp] theorem setByte_brls (s : State) (a : Nat) (b : Byte) : (s.setByte a b).brls = s.brls := rfl
@[simp] theorem setByte_bat (s : State) (a : Nat) (b : Byte) : (s.setByte a b).bat = s.bat := rfl
@[simp] theorem setByte_legs (s : State) (a : Nat) (b : Byte) : (s.setByte a b).legs = s.legs := rfl
@[simp] theorem setByte_sls (s : State) (a : Nat) (b : Byte) : (s.setByte a b).sls = s.sls := rfl
@[simp] theorem setByte_rlLoops (s : State) (a : Nat) (b : Byte) : (s.setByte a b).rlLoops = s.rlLoops := rfl
@[simp] theorem setByte_gate (s : State) (a : Nat) (b : Byte) : (s.setByte a b).gate = s.gate := rfl
@[simp] theorem setByte_cmps (s : State) (a : Nat) (b : Byte) : (s.setByte a b).cmps = s.cmps := rfl
@[simp] theorem setByte_wins (s : State) (a : Nat) (b : Byte) : (s.setByte a b).wins = s.wins := rfl
@[simp] theorem setByte_hadc (s : State) (a : Nat) (b : Byte) : (s.setByte a b).hadc = s.hadc := rfl
@[simp] theorem setByte_sense (s : State) (a : Nat) (b : Byte) : (s.setByte a b).sense = s.sense := rfl
@[simp] theorem setByte_bcs (s : State) (a : Nat) (b : Byte) : (s.setByte a b).bcs = s.bcs := rfl
@[simp] theorem setByte_mpps (s : State) (a : Nat) (b : Byte) : (s.setByte a b).mpps = s.mpps := rfl
@[simp] theorem setByte_syns (s : State) (a : Nat) (b : Byte) : (s.setByte a b).syns = s.syns := rfl
@[simp] theorem setByte_time (s : State) (a : Nat) (b : Byte) : (s.setByte a b).time = s.time := rfl
@[simp] theorem setByte_eaves (s : State) (a : Nat) (b : Byte) : (s.setByte a b).eaves = s.eaves := rfl
@[simp] theorem setByte_thatch (s : State) (a : Nat) (b : Byte) : (s.setByte a b).thatch = s.thatch := rfl
@[simp] theorem setByte_pus (s : State) (a : Nat) (b : Byte) : (s.setByte a b).pus = s.pus := rfl
@[simp] theorem setByte_seq (s : State) (a : Nat) (b : Byte) : (s.setByte a b).seq = s.seq := rfl
@[simp] theorem setByte_lanes (s : State) (a : Nat) (b : Byte) : (s.setByte a b).lanes = s.lanes := rfl
@[simp] theorem setByte_enets (s : State) (a : Nat) (b : Byte) : (s.setByte a b).enets = s.enets := rfl
@[simp] theorem setByte_ridge (s : State) (a : Nat) (b : Byte) : (s.setByte a b).ridge = s.ridge := rfl
@[simp] theorem setByte_safe (s : State) (a : Nat) (b : Byte) : (s.setByte a b).safe = s.safe := rfl
@[simp] theorem setByte_meters (s : State) (a : Nat) (b : Byte) : (s.setByte a b).meters = s.meters := rfl
@[simp] theorem setByte_met (s : State) (a : Nat) (b : Byte) : (s.setByte a b).met = s.met := rfl
@[simp] theorem setByte_sys (s : State) (a : Nat) (b : Byte) : (s.setByte a b).sys = s.sys := rfl
@[simp] theorem setByte_cfg (s : State) (a : Nat) (b : Byte) : (s.setByte a b).cfg = s.cfg := rfl
@[simp] theorem setByte_host (s : State) (a : Nat) (b : Byte) : (s.setByte a b).host = s.host := rfl
@[simp] theorem setByte_limits (s : State) (a : Nat) (b : Byte) : (s.setByte a b).limits = s.limits := rfl
@[simp] theorem setByte_freeCtr (s : State) (a : Nat) (b : Byte) : (s.setByte a b).freeCtr = s.freeCtr := rfl
@[simp] theorem setByte_pending (s : State) (a : Nat) (b : Byte) : (s.setByte a b).pending = s.pending := rfl

/-! ### Replacing a core -/

@[simp] theorem setCore_regs (s : State) (n : Nat) (x : CoreSt) : (s.setCore n x).regs = s.regs := rfl
@[simp] theorem setCore_mem (s : State) (n : Nat) (x : CoreSt) : (s.setCore n x).mem = s.mem := rfl
@[simp] theorem setCore_flash (s : State) (n : Nat) (x : CoreSt) : (s.setCore n x).flash = s.flash := rfl
@[simp] theorem setCore_wram (s : State) (n : Nat) (x : CoreSt) : (s.setCore n x).wram = s.wram := rfl
@[simp] theorem setCore_ecc (s : State) (n : Nat) (x : CoreSt) : (s.setCore n x).ecc = s.ecc := rfl
@[simp] theorem setCore_timers (s : State) (n : Nat) (x : CoreSt) : (s.setCore n x).timers = s.timers := rfl
@[simp] theorem setCore_upNs (s : State) (n : Nat) (x : CoreSt) : (s.setCore n x).upNs = s.upNs := rfl
@[simp] theorem setCore_ptp (s : State) (n : Nat) (x : CoreSt) : (s.setCore n x).ptp = s.ptp := rfl
@[simp] theorem setCore_fbDue (s : State) (n : Nat) (x : CoreSt) : (s.setCore n x).fbDue = s.fbDue := rfl
@[simp] theorem setCore_mds (s : State) (n : Nat) (x : CoreSt) : (s.setCore n x).mds = s.mds := rfl
@[simp] theorem setCore_mcks (s : State) (n : Nat) (x : CoreSt) : (s.setCore n x).mcks = s.mcks := rfl
@[simp] theorem setCore_law (s : State) (n : Nat) (x : CoreSt) : (s.setCore n x).law = s.law := rfl
@[simp] theorem setCore_eccFixed (s : State) (n : Nat) (x : CoreSt) : (s.setCore n x).eccFixed = s.eccFixed := rfl
@[simp] theorem setCore_ctxs (s : State) (n : Nat) (x : CoreSt) : (s.setCore n x).ctxs = s.ctxs := rfl
@[simp] theorem setCore_bchs (s : State) (n : Nat) (x : CoreSt) : (s.setCore n x).bchs = s.bchs := rfl
@[simp] theorem setCore_brls (s : State) (n : Nat) (x : CoreSt) : (s.setCore n x).brls = s.brls := rfl
@[simp] theorem setCore_bat (s : State) (n : Nat) (x : CoreSt) : (s.setCore n x).bat = s.bat := rfl
@[simp] theorem setCore_legs (s : State) (n : Nat) (x : CoreSt) : (s.setCore n x).legs = s.legs := rfl
@[simp] theorem setCore_sls (s : State) (n : Nat) (x : CoreSt) : (s.setCore n x).sls = s.sls := rfl
@[simp] theorem setCore_rlLoops (s : State) (n : Nat) (x : CoreSt) : (s.setCore n x).rlLoops = s.rlLoops := rfl
@[simp] theorem setCore_gate (s : State) (n : Nat) (x : CoreSt) : (s.setCore n x).gate = s.gate := rfl
@[simp] theorem setCore_cmps (s : State) (n : Nat) (x : CoreSt) : (s.setCore n x).cmps = s.cmps := rfl
@[simp] theorem setCore_wins (s : State) (n : Nat) (x : CoreSt) : (s.setCore n x).wins = s.wins := rfl
@[simp] theorem setCore_hadc (s : State) (n : Nat) (x : CoreSt) : (s.setCore n x).hadc = s.hadc := rfl
@[simp] theorem setCore_sense (s : State) (n : Nat) (x : CoreSt) : (s.setCore n x).sense = s.sense := rfl
@[simp] theorem setCore_bcs (s : State) (n : Nat) (x : CoreSt) : (s.setCore n x).bcs = s.bcs := rfl
@[simp] theorem setCore_mpps (s : State) (n : Nat) (x : CoreSt) : (s.setCore n x).mpps = s.mpps := rfl
@[simp] theorem setCore_syns (s : State) (n : Nat) (x : CoreSt) : (s.setCore n x).syns = s.syns := rfl
@[simp] theorem setCore_time (s : State) (n : Nat) (x : CoreSt) : (s.setCore n x).time = s.time := rfl
@[simp] theorem setCore_eaves (s : State) (n : Nat) (x : CoreSt) : (s.setCore n x).eaves = s.eaves := rfl
@[simp] theorem setCore_thatch (s : State) (n : Nat) (x : CoreSt) : (s.setCore n x).thatch = s.thatch := rfl
@[simp] theorem setCore_pus (s : State) (n : Nat) (x : CoreSt) : (s.setCore n x).pus = s.pus := rfl
@[simp] theorem setCore_seq (s : State) (n : Nat) (x : CoreSt) : (s.setCore n x).seq = s.seq := rfl
@[simp] theorem setCore_lanes (s : State) (n : Nat) (x : CoreSt) : (s.setCore n x).lanes = s.lanes := rfl
@[simp] theorem setCore_enets (s : State) (n : Nat) (x : CoreSt) : (s.setCore n x).enets = s.enets := rfl
@[simp] theorem setCore_ridge (s : State) (n : Nat) (x : CoreSt) : (s.setCore n x).ridge = s.ridge := rfl
@[simp] theorem setCore_safe (s : State) (n : Nat) (x : CoreSt) : (s.setCore n x).safe = s.safe := rfl
@[simp] theorem setCore_meters (s : State) (n : Nat) (x : CoreSt) : (s.setCore n x).meters = s.meters := rfl
@[simp] theorem setCore_met (s : State) (n : Nat) (x : CoreSt) : (s.setCore n x).met = s.met := rfl
@[simp] theorem setCore_sys (s : State) (n : Nat) (x : CoreSt) : (s.setCore n x).sys = s.sys := rfl
@[simp] theorem setCore_cfg (s : State) (n : Nat) (x : CoreSt) : (s.setCore n x).cfg = s.cfg := rfl
@[simp] theorem setCore_host (s : State) (n : Nat) (x : CoreSt) : (s.setCore n x).host = s.host := rfl
@[simp] theorem setCore_limits (s : State) (n : Nat) (x : CoreSt) : (s.setCore n x).limits = s.limits := rfl
@[simp] theorem setCore_freeCtr (s : State) (n : Nat) (x : CoreSt) : (s.setCore n x).freeCtr = s.freeCtr := rfl
@[simp] theorem setCore_pending (s : State) (n : Nat) (x : CoreSt) : (s.setCore n x).pending = s.pending := rfl

/-! ### Replacing a context -/

@[simp] theorem setCtx_regs (s : State) (n : Nat) (x : CtxSt) : (s.setCtx n x).regs = s.regs := rfl
@[simp] theorem setCtx_mem (s : State) (n : Nat) (x : CtxSt) : (s.setCtx n x).mem = s.mem := rfl
@[simp] theorem setCtx_flash (s : State) (n : Nat) (x : CtxSt) : (s.setCtx n x).flash = s.flash := rfl
@[simp] theorem setCtx_wram (s : State) (n : Nat) (x : CtxSt) : (s.setCtx n x).wram = s.wram := rfl
@[simp] theorem setCtx_ecc (s : State) (n : Nat) (x : CtxSt) : (s.setCtx n x).ecc = s.ecc := rfl
@[simp] theorem setCtx_timers (s : State) (n : Nat) (x : CtxSt) : (s.setCtx n x).timers = s.timers := rfl
@[simp] theorem setCtx_upNs (s : State) (n : Nat) (x : CtxSt) : (s.setCtx n x).upNs = s.upNs := rfl
@[simp] theorem setCtx_ptp (s : State) (n : Nat) (x : CtxSt) : (s.setCtx n x).ptp = s.ptp := rfl
@[simp] theorem setCtx_fbDue (s : State) (n : Nat) (x : CtxSt) : (s.setCtx n x).fbDue = s.fbDue := rfl
@[simp] theorem setCtx_mds (s : State) (n : Nat) (x : CtxSt) : (s.setCtx n x).mds = s.mds := rfl
@[simp] theorem setCtx_mcks (s : State) (n : Nat) (x : CtxSt) : (s.setCtx n x).mcks = s.mcks := rfl
@[simp] theorem setCtx_law (s : State) (n : Nat) (x : CtxSt) : (s.setCtx n x).law = s.law := rfl
@[simp] theorem setCtx_eccFixed (s : State) (n : Nat) (x : CtxSt) : (s.setCtx n x).eccFixed = s.eccFixed := rfl
@[simp] theorem setCtx_cores (s : State) (n : Nat) (x : CtxSt) : (s.setCtx n x).cores = s.cores := rfl
@[simp] theorem setCtx_bchs (s : State) (n : Nat) (x : CtxSt) : (s.setCtx n x).bchs = s.bchs := rfl
@[simp] theorem setCtx_brls (s : State) (n : Nat) (x : CtxSt) : (s.setCtx n x).brls = s.brls := rfl
@[simp] theorem setCtx_bat (s : State) (n : Nat) (x : CtxSt) : (s.setCtx n x).bat = s.bat := rfl
@[simp] theorem setCtx_legs (s : State) (n : Nat) (x : CtxSt) : (s.setCtx n x).legs = s.legs := rfl
@[simp] theorem setCtx_sls (s : State) (n : Nat) (x : CtxSt) : (s.setCtx n x).sls = s.sls := rfl
@[simp] theorem setCtx_rlLoops (s : State) (n : Nat) (x : CtxSt) : (s.setCtx n x).rlLoops = s.rlLoops := rfl
@[simp] theorem setCtx_gate (s : State) (n : Nat) (x : CtxSt) : (s.setCtx n x).gate = s.gate := rfl
@[simp] theorem setCtx_cmps (s : State) (n : Nat) (x : CtxSt) : (s.setCtx n x).cmps = s.cmps := rfl
@[simp] theorem setCtx_wins (s : State) (n : Nat) (x : CtxSt) : (s.setCtx n x).wins = s.wins := rfl
@[simp] theorem setCtx_hadc (s : State) (n : Nat) (x : CtxSt) : (s.setCtx n x).hadc = s.hadc := rfl
@[simp] theorem setCtx_sense (s : State) (n : Nat) (x : CtxSt) : (s.setCtx n x).sense = s.sense := rfl
@[simp] theorem setCtx_bcs (s : State) (n : Nat) (x : CtxSt) : (s.setCtx n x).bcs = s.bcs := rfl
@[simp] theorem setCtx_mpps (s : State) (n : Nat) (x : CtxSt) : (s.setCtx n x).mpps = s.mpps := rfl
@[simp] theorem setCtx_syns (s : State) (n : Nat) (x : CtxSt) : (s.setCtx n x).syns = s.syns := rfl
@[simp] theorem setCtx_time (s : State) (n : Nat) (x : CtxSt) : (s.setCtx n x).time = s.time := rfl
@[simp] theorem setCtx_eaves (s : State) (n : Nat) (x : CtxSt) : (s.setCtx n x).eaves = s.eaves := rfl
@[simp] theorem setCtx_thatch (s : State) (n : Nat) (x : CtxSt) : (s.setCtx n x).thatch = s.thatch := rfl
@[simp] theorem setCtx_pus (s : State) (n : Nat) (x : CtxSt) : (s.setCtx n x).pus = s.pus := rfl
@[simp] theorem setCtx_seq (s : State) (n : Nat) (x : CtxSt) : (s.setCtx n x).seq = s.seq := rfl
@[simp] theorem setCtx_lanes (s : State) (n : Nat) (x : CtxSt) : (s.setCtx n x).lanes = s.lanes := rfl
@[simp] theorem setCtx_enets (s : State) (n : Nat) (x : CtxSt) : (s.setCtx n x).enets = s.enets := rfl
@[simp] theorem setCtx_ridge (s : State) (n : Nat) (x : CtxSt) : (s.setCtx n x).ridge = s.ridge := rfl
@[simp] theorem setCtx_safe (s : State) (n : Nat) (x : CtxSt) : (s.setCtx n x).safe = s.safe := rfl
@[simp] theorem setCtx_meters (s : State) (n : Nat) (x : CtxSt) : (s.setCtx n x).meters = s.meters := rfl
@[simp] theorem setCtx_met (s : State) (n : Nat) (x : CtxSt) : (s.setCtx n x).met = s.met := rfl
@[simp] theorem setCtx_sys (s : State) (n : Nat) (x : CtxSt) : (s.setCtx n x).sys = s.sys := rfl
@[simp] theorem setCtx_cfg (s : State) (n : Nat) (x : CtxSt) : (s.setCtx n x).cfg = s.cfg := rfl
@[simp] theorem setCtx_host (s : State) (n : Nat) (x : CtxSt) : (s.setCtx n x).host = s.host := rfl
@[simp] theorem setCtx_limits (s : State) (n : Nat) (x : CtxSt) : (s.setCtx n x).limits = s.limits := rfl
@[simp] theorem setCtx_freeCtr (s : State) (n : Nat) (x : CtxSt) : (s.setCtx n x).freeCtr = s.freeCtr := rfl
@[simp] theorem setCtx_pending (s : State) (n : Nat) (x : CtxSt) : (s.setCtx n x).pending = s.pending := rfl

/-! ### Replacing a channel -/

@[simp] theorem setBch_regs (s : State) (n : Nat) (x : BCh) : (s.setBch n x).regs = s.regs := rfl
@[simp] theorem setBch_mem (s : State) (n : Nat) (x : BCh) : (s.setBch n x).mem = s.mem := rfl
@[simp] theorem setBch_flash (s : State) (n : Nat) (x : BCh) : (s.setBch n x).flash = s.flash := rfl
@[simp] theorem setBch_wram (s : State) (n : Nat) (x : BCh) : (s.setBch n x).wram = s.wram := rfl
@[simp] theorem setBch_ecc (s : State) (n : Nat) (x : BCh) : (s.setBch n x).ecc = s.ecc := rfl
@[simp] theorem setBch_timers (s : State) (n : Nat) (x : BCh) : (s.setBch n x).timers = s.timers := rfl
@[simp] theorem setBch_upNs (s : State) (n : Nat) (x : BCh) : (s.setBch n x).upNs = s.upNs := rfl
@[simp] theorem setBch_ptp (s : State) (n : Nat) (x : BCh) : (s.setBch n x).ptp = s.ptp := rfl
@[simp] theorem setBch_fbDue (s : State) (n : Nat) (x : BCh) : (s.setBch n x).fbDue = s.fbDue := rfl
@[simp] theorem setBch_mds (s : State) (n : Nat) (x : BCh) : (s.setBch n x).mds = s.mds := rfl
@[simp] theorem setBch_mcks (s : State) (n : Nat) (x : BCh) : (s.setBch n x).mcks = s.mcks := rfl
@[simp] theorem setBch_law (s : State) (n : Nat) (x : BCh) : (s.setBch n x).law = s.law := rfl
@[simp] theorem setBch_eccFixed (s : State) (n : Nat) (x : BCh) : (s.setBch n x).eccFixed = s.eccFixed := rfl
@[simp] theorem setBch_cores (s : State) (n : Nat) (x : BCh) : (s.setBch n x).cores = s.cores := rfl
@[simp] theorem setBch_ctxs (s : State) (n : Nat) (x : BCh) : (s.setBch n x).ctxs = s.ctxs := rfl
@[simp] theorem setBch_brls (s : State) (n : Nat) (x : BCh) : (s.setBch n x).brls = s.brls := rfl
@[simp] theorem setBch_bat (s : State) (n : Nat) (x : BCh) : (s.setBch n x).bat = s.bat := rfl
@[simp] theorem setBch_legs (s : State) (n : Nat) (x : BCh) : (s.setBch n x).legs = s.legs := rfl
@[simp] theorem setBch_sls (s : State) (n : Nat) (x : BCh) : (s.setBch n x).sls = s.sls := rfl
@[simp] theorem setBch_rlLoops (s : State) (n : Nat) (x : BCh) : (s.setBch n x).rlLoops = s.rlLoops := rfl
@[simp] theorem setBch_gate (s : State) (n : Nat) (x : BCh) : (s.setBch n x).gate = s.gate := rfl
@[simp] theorem setBch_cmps (s : State) (n : Nat) (x : BCh) : (s.setBch n x).cmps = s.cmps := rfl
@[simp] theorem setBch_wins (s : State) (n : Nat) (x : BCh) : (s.setBch n x).wins = s.wins := rfl
@[simp] theorem setBch_hadc (s : State) (n : Nat) (x : BCh) : (s.setBch n x).hadc = s.hadc := rfl
@[simp] theorem setBch_sense (s : State) (n : Nat) (x : BCh) : (s.setBch n x).sense = s.sense := rfl
@[simp] theorem setBch_bcs (s : State) (n : Nat) (x : BCh) : (s.setBch n x).bcs = s.bcs := rfl
@[simp] theorem setBch_mpps (s : State) (n : Nat) (x : BCh) : (s.setBch n x).mpps = s.mpps := rfl
@[simp] theorem setBch_syns (s : State) (n : Nat) (x : BCh) : (s.setBch n x).syns = s.syns := rfl
@[simp] theorem setBch_time (s : State) (n : Nat) (x : BCh) : (s.setBch n x).time = s.time := rfl
@[simp] theorem setBch_eaves (s : State) (n : Nat) (x : BCh) : (s.setBch n x).eaves = s.eaves := rfl
@[simp] theorem setBch_thatch (s : State) (n : Nat) (x : BCh) : (s.setBch n x).thatch = s.thatch := rfl
@[simp] theorem setBch_pus (s : State) (n : Nat) (x : BCh) : (s.setBch n x).pus = s.pus := rfl
@[simp] theorem setBch_seq (s : State) (n : Nat) (x : BCh) : (s.setBch n x).seq = s.seq := rfl
@[simp] theorem setBch_lanes (s : State) (n : Nat) (x : BCh) : (s.setBch n x).lanes = s.lanes := rfl
@[simp] theorem setBch_enets (s : State) (n : Nat) (x : BCh) : (s.setBch n x).enets = s.enets := rfl
@[simp] theorem setBch_ridge (s : State) (n : Nat) (x : BCh) : (s.setBch n x).ridge = s.ridge := rfl
@[simp] theorem setBch_safe (s : State) (n : Nat) (x : BCh) : (s.setBch n x).safe = s.safe := rfl
@[simp] theorem setBch_meters (s : State) (n : Nat) (x : BCh) : (s.setBch n x).meters = s.meters := rfl
@[simp] theorem setBch_met (s : State) (n : Nat) (x : BCh) : (s.setBch n x).met = s.met := rfl
@[simp] theorem setBch_sys (s : State) (n : Nat) (x : BCh) : (s.setBch n x).sys = s.sys := rfl
@[simp] theorem setBch_cfg (s : State) (n : Nat) (x : BCh) : (s.setBch n x).cfg = s.cfg := rfl
@[simp] theorem setBch_host (s : State) (n : Nat) (x : BCh) : (s.setBch n x).host = s.host := rfl
@[simp] theorem setBch_limits (s : State) (n : Nat) (x : BCh) : (s.setBch n x).limits = s.limits := rfl
@[simp] theorem setBch_freeCtr (s : State) (n : Nat) (x : BCh) : (s.setBch n x).freeCtr = s.freeCtr := rfl
@[simp] theorem setBch_pending (s : State) (n : Nat) (x : BCh) : (s.setBch n x).pending = s.pending := rfl

/-! ### Replacing a scheduler -/

@[simp] theorem setBrl_regs (s : State) (n : Nat) (x : BRl) : (s.setBrl n x).regs = s.regs := rfl
@[simp] theorem setBrl_mem (s : State) (n : Nat) (x : BRl) : (s.setBrl n x).mem = s.mem := rfl
@[simp] theorem setBrl_flash (s : State) (n : Nat) (x : BRl) : (s.setBrl n x).flash = s.flash := rfl
@[simp] theorem setBrl_wram (s : State) (n : Nat) (x : BRl) : (s.setBrl n x).wram = s.wram := rfl
@[simp] theorem setBrl_ecc (s : State) (n : Nat) (x : BRl) : (s.setBrl n x).ecc = s.ecc := rfl
@[simp] theorem setBrl_timers (s : State) (n : Nat) (x : BRl) : (s.setBrl n x).timers = s.timers := rfl
@[simp] theorem setBrl_upNs (s : State) (n : Nat) (x : BRl) : (s.setBrl n x).upNs = s.upNs := rfl
@[simp] theorem setBrl_ptp (s : State) (n : Nat) (x : BRl) : (s.setBrl n x).ptp = s.ptp := rfl
@[simp] theorem setBrl_fbDue (s : State) (n : Nat) (x : BRl) : (s.setBrl n x).fbDue = s.fbDue := rfl
@[simp] theorem setBrl_mds (s : State) (n : Nat) (x : BRl) : (s.setBrl n x).mds = s.mds := rfl
@[simp] theorem setBrl_mcks (s : State) (n : Nat) (x : BRl) : (s.setBrl n x).mcks = s.mcks := rfl
@[simp] theorem setBrl_law (s : State) (n : Nat) (x : BRl) : (s.setBrl n x).law = s.law := rfl
@[simp] theorem setBrl_eccFixed (s : State) (n : Nat) (x : BRl) : (s.setBrl n x).eccFixed = s.eccFixed := rfl
@[simp] theorem setBrl_cores (s : State) (n : Nat) (x : BRl) : (s.setBrl n x).cores = s.cores := rfl
@[simp] theorem setBrl_ctxs (s : State) (n : Nat) (x : BRl) : (s.setBrl n x).ctxs = s.ctxs := rfl
@[simp] theorem setBrl_bchs (s : State) (n : Nat) (x : BRl) : (s.setBrl n x).bchs = s.bchs := rfl
@[simp] theorem setBrl_bat (s : State) (n : Nat) (x : BRl) : (s.setBrl n x).bat = s.bat := rfl
@[simp] theorem setBrl_legs (s : State) (n : Nat) (x : BRl) : (s.setBrl n x).legs = s.legs := rfl
@[simp] theorem setBrl_sls (s : State) (n : Nat) (x : BRl) : (s.setBrl n x).sls = s.sls := rfl
@[simp] theorem setBrl_rlLoops (s : State) (n : Nat) (x : BRl) : (s.setBrl n x).rlLoops = s.rlLoops := rfl
@[simp] theorem setBrl_gate (s : State) (n : Nat) (x : BRl) : (s.setBrl n x).gate = s.gate := rfl
@[simp] theorem setBrl_cmps (s : State) (n : Nat) (x : BRl) : (s.setBrl n x).cmps = s.cmps := rfl
@[simp] theorem setBrl_wins (s : State) (n : Nat) (x : BRl) : (s.setBrl n x).wins = s.wins := rfl
@[simp] theorem setBrl_hadc (s : State) (n : Nat) (x : BRl) : (s.setBrl n x).hadc = s.hadc := rfl
@[simp] theorem setBrl_sense (s : State) (n : Nat) (x : BRl) : (s.setBrl n x).sense = s.sense := rfl
@[simp] theorem setBrl_bcs (s : State) (n : Nat) (x : BRl) : (s.setBrl n x).bcs = s.bcs := rfl
@[simp] theorem setBrl_mpps (s : State) (n : Nat) (x : BRl) : (s.setBrl n x).mpps = s.mpps := rfl
@[simp] theorem setBrl_syns (s : State) (n : Nat) (x : BRl) : (s.setBrl n x).syns = s.syns := rfl
@[simp] theorem setBrl_time (s : State) (n : Nat) (x : BRl) : (s.setBrl n x).time = s.time := rfl
@[simp] theorem setBrl_eaves (s : State) (n : Nat) (x : BRl) : (s.setBrl n x).eaves = s.eaves := rfl
@[simp] theorem setBrl_thatch (s : State) (n : Nat) (x : BRl) : (s.setBrl n x).thatch = s.thatch := rfl
@[simp] theorem setBrl_pus (s : State) (n : Nat) (x : BRl) : (s.setBrl n x).pus = s.pus := rfl
@[simp] theorem setBrl_seq (s : State) (n : Nat) (x : BRl) : (s.setBrl n x).seq = s.seq := rfl
@[simp] theorem setBrl_lanes (s : State) (n : Nat) (x : BRl) : (s.setBrl n x).lanes = s.lanes := rfl
@[simp] theorem setBrl_enets (s : State) (n : Nat) (x : BRl) : (s.setBrl n x).enets = s.enets := rfl
@[simp] theorem setBrl_ridge (s : State) (n : Nat) (x : BRl) : (s.setBrl n x).ridge = s.ridge := rfl
@[simp] theorem setBrl_safe (s : State) (n : Nat) (x : BRl) : (s.setBrl n x).safe = s.safe := rfl
@[simp] theorem setBrl_meters (s : State) (n : Nat) (x : BRl) : (s.setBrl n x).meters = s.meters := rfl
@[simp] theorem setBrl_met (s : State) (n : Nat) (x : BRl) : (s.setBrl n x).met = s.met := rfl
@[simp] theorem setBrl_sys (s : State) (n : Nat) (x : BRl) : (s.setBrl n x).sys = s.sys := rfl
@[simp] theorem setBrl_cfg (s : State) (n : Nat) (x : BRl) : (s.setBrl n x).cfg = s.cfg := rfl
@[simp] theorem setBrl_host (s : State) (n : Nat) (x : BRl) : (s.setBrl n x).host = s.host := rfl
@[simp] theorem setBrl_limits (s : State) (n : Nat) (x : BRl) : (s.setBrl n x).limits = s.limits := rfl
@[simp] theorem setBrl_freeCtr (s : State) (n : Nat) (x : BRl) : (s.setBrl n x).freeCtr = s.freeCtr := rfl
@[simp] theorem setBrl_pending (s : State) (n : Nat) (x : BRl) : (s.setBrl n x).pending = s.pending := rfl

/-! ### Replacing a synthesizer -/

@[simp] theorem setSyn_regs (s : State) (n : Nat) (x : SynSt) : (s.setSyn n x).regs = s.regs := rfl
@[simp] theorem setSyn_mem (s : State) (n : Nat) (x : SynSt) : (s.setSyn n x).mem = s.mem := rfl
@[simp] theorem setSyn_flash (s : State) (n : Nat) (x : SynSt) : (s.setSyn n x).flash = s.flash := rfl
@[simp] theorem setSyn_wram (s : State) (n : Nat) (x : SynSt) : (s.setSyn n x).wram = s.wram := rfl
@[simp] theorem setSyn_ecc (s : State) (n : Nat) (x : SynSt) : (s.setSyn n x).ecc = s.ecc := rfl
@[simp] theorem setSyn_timers (s : State) (n : Nat) (x : SynSt) : (s.setSyn n x).timers = s.timers := rfl
@[simp] theorem setSyn_upNs (s : State) (n : Nat) (x : SynSt) : (s.setSyn n x).upNs = s.upNs := rfl
@[simp] theorem setSyn_ptp (s : State) (n : Nat) (x : SynSt) : (s.setSyn n x).ptp = s.ptp := rfl
@[simp] theorem setSyn_fbDue (s : State) (n : Nat) (x : SynSt) : (s.setSyn n x).fbDue = s.fbDue := rfl
@[simp] theorem setSyn_mds (s : State) (n : Nat) (x : SynSt) : (s.setSyn n x).mds = s.mds := rfl
@[simp] theorem setSyn_mcks (s : State) (n : Nat) (x : SynSt) : (s.setSyn n x).mcks = s.mcks := rfl
@[simp] theorem setSyn_law (s : State) (n : Nat) (x : SynSt) : (s.setSyn n x).law = s.law := rfl
@[simp] theorem setSyn_eccFixed (s : State) (n : Nat) (x : SynSt) : (s.setSyn n x).eccFixed = s.eccFixed := rfl
@[simp] theorem setSyn_cores (s : State) (n : Nat) (x : SynSt) : (s.setSyn n x).cores = s.cores := rfl
@[simp] theorem setSyn_ctxs (s : State) (n : Nat) (x : SynSt) : (s.setSyn n x).ctxs = s.ctxs := rfl
@[simp] theorem setSyn_bchs (s : State) (n : Nat) (x : SynSt) : (s.setSyn n x).bchs = s.bchs := rfl
@[simp] theorem setSyn_brls (s : State) (n : Nat) (x : SynSt) : (s.setSyn n x).brls = s.brls := rfl
@[simp] theorem setSyn_bat (s : State) (n : Nat) (x : SynSt) : (s.setSyn n x).bat = s.bat := rfl
@[simp] theorem setSyn_legs (s : State) (n : Nat) (x : SynSt) : (s.setSyn n x).legs = s.legs := rfl
@[simp] theorem setSyn_sls (s : State) (n : Nat) (x : SynSt) : (s.setSyn n x).sls = s.sls := rfl
@[simp] theorem setSyn_rlLoops (s : State) (n : Nat) (x : SynSt) : (s.setSyn n x).rlLoops = s.rlLoops := rfl
@[simp] theorem setSyn_gate (s : State) (n : Nat) (x : SynSt) : (s.setSyn n x).gate = s.gate := rfl
@[simp] theorem setSyn_cmps (s : State) (n : Nat) (x : SynSt) : (s.setSyn n x).cmps = s.cmps := rfl
@[simp] theorem setSyn_wins (s : State) (n : Nat) (x : SynSt) : (s.setSyn n x).wins = s.wins := rfl
@[simp] theorem setSyn_hadc (s : State) (n : Nat) (x : SynSt) : (s.setSyn n x).hadc = s.hadc := rfl
@[simp] theorem setSyn_sense (s : State) (n : Nat) (x : SynSt) : (s.setSyn n x).sense = s.sense := rfl
@[simp] theorem setSyn_bcs (s : State) (n : Nat) (x : SynSt) : (s.setSyn n x).bcs = s.bcs := rfl
@[simp] theorem setSyn_mpps (s : State) (n : Nat) (x : SynSt) : (s.setSyn n x).mpps = s.mpps := rfl
@[simp] theorem setSyn_time (s : State) (n : Nat) (x : SynSt) : (s.setSyn n x).time = s.time := rfl
@[simp] theorem setSyn_eaves (s : State) (n : Nat) (x : SynSt) : (s.setSyn n x).eaves = s.eaves := rfl
@[simp] theorem setSyn_thatch (s : State) (n : Nat) (x : SynSt) : (s.setSyn n x).thatch = s.thatch := rfl
@[simp] theorem setSyn_pus (s : State) (n : Nat) (x : SynSt) : (s.setSyn n x).pus = s.pus := rfl
@[simp] theorem setSyn_seq (s : State) (n : Nat) (x : SynSt) : (s.setSyn n x).seq = s.seq := rfl
@[simp] theorem setSyn_lanes (s : State) (n : Nat) (x : SynSt) : (s.setSyn n x).lanes = s.lanes := rfl
@[simp] theorem setSyn_enets (s : State) (n : Nat) (x : SynSt) : (s.setSyn n x).enets = s.enets := rfl
@[simp] theorem setSyn_ridge (s : State) (n : Nat) (x : SynSt) : (s.setSyn n x).ridge = s.ridge := rfl
@[simp] theorem setSyn_safe (s : State) (n : Nat) (x : SynSt) : (s.setSyn n x).safe = s.safe := rfl
@[simp] theorem setSyn_meters (s : State) (n : Nat) (x : SynSt) : (s.setSyn n x).meters = s.meters := rfl
@[simp] theorem setSyn_met (s : State) (n : Nat) (x : SynSt) : (s.setSyn n x).met = s.met := rfl
@[simp] theorem setSyn_sys (s : State) (n : Nat) (x : SynSt) : (s.setSyn n x).sys = s.sys := rfl
@[simp] theorem setSyn_cfg (s : State) (n : Nat) (x : SynSt) : (s.setSyn n x).cfg = s.cfg := rfl
@[simp] theorem setSyn_host (s : State) (n : Nat) (x : SynSt) : (s.setSyn n x).host = s.host := rfl
@[simp] theorem setSyn_limits (s : State) (n : Nat) (x : SynSt) : (s.setSyn n x).limits = s.limits := rfl
@[simp] theorem setSyn_freeCtr (s : State) (n : Nat) (x : SynSt) : (s.setSyn n x).freeCtr = s.freeCtr := rfl
@[simp] theorem setSyn_pending (s : State) (n : Nat) (x : SynSt) : (s.setSyn n x).pending = s.pending := rfl

/-! ### A draw -/

@[simp] theorem drawn_regs (s : State) : s.drawn.regs = s.regs := rfl
@[simp] theorem drawn_mem (s : State) : s.drawn.mem = s.mem := rfl
@[simp] theorem drawn_flash (s : State) : s.drawn.flash = s.flash := rfl
@[simp] theorem drawn_wram (s : State) : s.drawn.wram = s.wram := rfl
@[simp] theorem drawn_ecc (s : State) : s.drawn.ecc = s.ecc := rfl
@[simp] theorem drawn_timers (s : State) : s.drawn.timers = s.timers := rfl
@[simp] theorem drawn_upNs (s : State) : s.drawn.upNs = s.upNs := rfl
@[simp] theorem drawn_ptp (s : State) : s.drawn.ptp = s.ptp := rfl
@[simp] theorem drawn_fbDue (s : State) : s.drawn.fbDue = s.fbDue := rfl
@[simp] theorem drawn_mds (s : State) : s.drawn.mds = s.mds := rfl
@[simp] theorem drawn_mcks (s : State) : s.drawn.mcks = s.mcks := rfl
@[simp] theorem drawn_law (s : State) : s.drawn.law = s.law := rfl
@[simp] theorem drawn_eccFixed (s : State) : s.drawn.eccFixed = s.eccFixed := rfl
@[simp] theorem drawn_cores (s : State) : s.drawn.cores = s.cores := rfl
@[simp] theorem drawn_ctxs (s : State) : s.drawn.ctxs = s.ctxs := rfl
@[simp] theorem drawn_bchs (s : State) : s.drawn.bchs = s.bchs := rfl
@[simp] theorem drawn_brls (s : State) : s.drawn.brls = s.brls := rfl
@[simp] theorem drawn_bat (s : State) : s.drawn.bat = s.bat := rfl
@[simp] theorem drawn_legs (s : State) : s.drawn.legs = s.legs := rfl
@[simp] theorem drawn_sls (s : State) : s.drawn.sls = s.sls := rfl
@[simp] theorem drawn_rlLoops (s : State) : s.drawn.rlLoops = s.rlLoops := rfl
@[simp] theorem drawn_gate (s : State) : s.drawn.gate = s.gate := rfl
@[simp] theorem drawn_cmps (s : State) : s.drawn.cmps = s.cmps := rfl
@[simp] theorem drawn_wins (s : State) : s.drawn.wins = s.wins := rfl
@[simp] theorem drawn_hadc (s : State) : s.drawn.hadc = s.hadc := rfl
@[simp] theorem drawn_sense (s : State) : s.drawn.sense = s.sense := rfl
@[simp] theorem drawn_bcs (s : State) : s.drawn.bcs = s.bcs := rfl
@[simp] theorem drawn_mpps (s : State) : s.drawn.mpps = s.mpps := rfl
@[simp] theorem drawn_syns (s : State) : s.drawn.syns = s.syns := rfl
@[simp] theorem drawn_time (s : State) : s.drawn.time = s.time := rfl
@[simp] theorem drawn_eaves (s : State) : s.drawn.eaves = s.eaves := rfl
@[simp] theorem drawn_thatch (s : State) : s.drawn.thatch = s.thatch := rfl
@[simp] theorem drawn_pus (s : State) : s.drawn.pus = s.pus := rfl
@[simp] theorem drawn_seq (s : State) : s.drawn.seq = s.seq := rfl
@[simp] theorem drawn_lanes (s : State) : s.drawn.lanes = s.lanes := rfl
@[simp] theorem drawn_enets (s : State) : s.drawn.enets = s.enets := rfl
@[simp] theorem drawn_ridge (s : State) : s.drawn.ridge = s.ridge := rfl
@[simp] theorem drawn_safe (s : State) : s.drawn.safe = s.safe := rfl
@[simp] theorem drawn_meters (s : State) : s.drawn.meters = s.meters := rfl
@[simp] theorem drawn_met (s : State) : s.drawn.met = s.met := rfl
@[simp] theorem drawn_sys (s : State) : s.drawn.sys = s.sys := rfl
@[simp] theorem drawn_cfg (s : State) : s.drawn.cfg = s.cfg := rfl
@[simp] theorem drawn_host (s : State) : s.drawn.host = s.host := rfl
@[simp] theorem drawn_limits (s : State) : s.drawn.limits = s.limits := rfl
@[simp] theorem drawn_pending (s : State) : s.drawn.pending = s.pending := rfl

end Sys2Proof.Laws
end

