-- ==== Sys2Proof/Laws/Jenmel.lean ====
section
/-!
SUPPORT. What the shared operations of the cores do: registers read after registers written, an instruction that issues
alone, and an exception taken.
-/

namespace Sys2Proof.Laws

open Sys2Proof.Machine Sys2Proof.Safety

/-! ### Registers of a core -/

@[simp] theorem gReg_setG (x : CoreSt) (d j : Nat) (v : Word) :
    gReg (setG x d v) j = if j = d ∧ d ≠ 0 then v else gReg x j := by
  unfold gReg setG
  by_cases hd : d = 0
  · subst hd; by_cases hj : j = 0 <;> simp [hj]
  · by_cases hj : j = 0
    · subst hj
      have : ¬ (0 = d) := fun e => hd e.symm
      simp [this]
    · by_cases e : j = d <;> simp [hd, hj, e]

@[simp] theorem fReg_setF (x : CoreSt) (d j : Nat) (v : Word) : fReg (setF x d v) j = if j = d then v else fReg x j := by
  unfold fReg setF; exact tblGet_tblSet _ _ _ _ _

@[simp] theorem aReg_setA (x : CoreSt) (d j : Nat) (v : BitVec 72) :
    aReg (setA x d v) j = if j = d then v else aReg x j := by
  unfold aReg setA; exact tblGet_tblSet _ _ _ _ _

@[simp] theorem kReg_setK (x : CoreSt) (d j : Nat) (b : Bool) :
    kReg (setK x d b) j = if j = d ∧ d ≠ 0 then b else kReg x j := by
  unfold kReg setK
  by_cases hd : d = 0
  · simp [hd]
  · by_cases hj : j = 0
    · subst hj
      have : ¬ (0 = d) := fun e => hd e.symm
      simp [this]
    · by_cases e : j = d <;> simp [hd, hj, e]

@[simp] theorem csrOf_setCsr (x : CoreSt) (d j : Nat) (v : Word) :
    csrOf (setCsr x d v) j = if j = d then v else csrOf x j := by
  unfold csrOf setCsr; exact tblGet_tblSet _ _ _ _ _

@[simp] theorem gReg_setCsr (x : CoreSt) (d j : Nat) (v : Word) : gReg (setCsr x d v) j = gReg x j := rfl
@[simp] theorem aReg_setCsr (x : CoreSt) (d j : Nat) (v : Word) : aReg (setCsr x d v) j = aReg x j := rfl
@[simp] theorem fReg_setCsr (x : CoreSt) (d j : Nat) (v : Word) : fReg (setCsr x d v) j = fReg x j := rfl
@[simp] theorem kReg_setCsr (x : CoreSt) (d j : Nat) (v : Word) : kReg (setCsr x d v) j = kReg x j := rfl
@[simp] theorem aReg_setG (x : CoreSt) (d j : Nat) (v : Word) : aReg (setG x d v) j = aReg x j := by
  unfold setG; split <;> rfl
@[simp] theorem fReg_setG (x : CoreSt) (d j : Nat) (v : Word) : fReg (setG x d v) j = fReg x j := by
  unfold setG; split <;> rfl
@[simp] theorem kReg_setG (x : CoreSt) (d j : Nat) (v : Word) : kReg (setG x d v) j = kReg x j := by
  unfold setG; split <;> rfl
@[simp] theorem csrOf_setG (x : CoreSt) (d j : Nat) (v : Word) : csrOf (setG x d v) j = csrOf x j := by
  unfold setG; split <;> rfl
@[simp] theorem gReg_setF (x : CoreSt) (d j : Nat) (v : Word) : gReg (setF x d v) j = gReg x j := rfl
@[simp] theorem aReg_setF (x : CoreSt) (d j : Nat) (v : Word) : aReg (setF x d v) j = aReg x j := rfl
@[simp] theorem kReg_setF (x : CoreSt) (d j : Nat) (v : Word) : kReg (setF x d v) j = kReg x j := rfl
@[simp] theorem csrOf_setF (x : CoreSt) (d j : Nat) (v : Word) : csrOf (setF x d v) j = csrOf x j := rfl
@[simp] theorem gReg_setA (x : CoreSt) (d j : Nat) (v : BitVec 72) : gReg (setA x d v) j = gReg x j := rfl
@[simp] theorem fReg_setA (x : CoreSt) (d j : Nat) (v : BitVec 72) : fReg (setA x d v) j = fReg x j := rfl
@[simp] theorem kReg_setA (x : CoreSt) (d j : Nat) (v : BitVec 72) : kReg (setA x d v) j = kReg x j := rfl
@[simp] theorem csrOf_setA (x : CoreSt) (d j : Nat) (v : BitVec 72) : csrOf (setA x d v) j = csrOf x j := rfl
@[simp] theorem gReg_setK (x : CoreSt) (d j : Nat) (b : Bool) : gReg (setK x d b) j = gReg x j := by
  unfold setK; split <;> rfl
@[simp] theorem aReg_setK (x : CoreSt) (d j : Nat) (b : Bool) : aReg (setK x d b) j = aReg x j := by
  unfold setK; split <;> rfl
@[simp] theorem fReg_setK (x : CoreSt) (d j : Nat) (b : Bool) : fReg (setK x d b) j = fReg x j := by
  unfold setK; split <;> rfl
@[simp] theorem csrOf_setK (x : CoreSt) (d j : Nat) (b : Bool) : csrOf (setK x d b) j = csrOf x j := by
  unfold setK; split <;> rfl

/-- A core after it has been changed. -/
@[simp] theorem core_onCore (s : State) (n m : Nat) (f : CoreSt → CoreSt) :
    (s.onCore n f).core m = if m = n then f (s.core n) else s.core m := by
  unfold State.onCore; exact core_setCore _ _ _ _

/-- Changing a core changes nothing else. -/
theorem onCore_only (s : State) (n : Nat) (f : CoreSt → CoreSt) : s.onCore n f = { s with cores := (s.onCore n f).cores } := rfl

/-! ### An instruction that issues alone -/

/-- The program counter of a core at its next bundle. -/
def pcNext (u : State) (n : Nat) : State := u.onCore n (fun y => { y with pc := (u.core n).pc + 8 })

/-- A word beside which an instruction issues alone raises nothing and waits for nothing. -/
theorem mate_quiet {c : CoreSt} {x : Issue} {i : Insn} (h : MateIdle c x i) (s : State) (n : Nat) :
    s.slotCause n c (slotOf x.mate) = none ∧ s.slotWaits n c (slotOf x.mate) = false ∧
      ∀ t : State, t.applySlot n c (slotOf x.mate) = t := by
  obtain ⟨j, hj, hg, -⟩ := h
  unfold State.slotCause State.slotWaits State.applySlot slotOf
  simp only [hj]
  by_cases g : guardOn c j.guard = true
  · have ho : j.op = .nop := hg.resolve_left (by simp [g])
    have hl : legalInsn (profileOf n) j = true := by
      simp [legalInsn, ho, opRow, hasOp, kindOk]
    refine ⟨?_, ?_, ?_⟩
    · have hp : privBad n c j = false := by simp [privBad, ho]
      simp [g, hl, State.opCause, hp, ho, memSize, isAtom, opRow, isQueue, isRecord, State.xSub]
    · simp [State.stallsAhead, State.sampWaits, State.meetsStill, memSize, isAtom, ho, opRow]
    · intro t; simp [g, State.apply, ho]
  · simp only [Bool.not_eq_true] at g
    simp [g]

/-- A core that can issue holds no waiting bundle. -/
theorem retry_of_issuable {s u : State} {x : Issue} (h : s.issuable x = some u) : s.retry x.core = s := by
  unfold State.retry
  cases e : (s.core x.core).stalled with
  | none => rfl
  | some w => simp [State.issuable, State.ready, e] at h

/-- An instruction that issues alone, raises nothing and waits for nothing takes its effect, the program counter at the
next bundle. -/
theorem issue_alone {s u : State} {x : Issue} {i : Insn} (h : Executes s u x i)
    (hc : u.opCause x.core (u.core x.core) i = none) (ha : u.stallsAhead x.core (u.core x.core) i = false)
    (hs : u.sampWaits (u.core x.core) i = false) (hm : u.meetsStill x.core (u.core x.core) i = false) :
    s.issue x i = (pcNext u x.core).apply x.core (u.core x.core) i := by
  unfold pcNext
  have own : u.slotCause x.core (u.core x.core) ⟨i.word, some i⟩ = none := by
    simp [State.slotCause, h.guard, h.legal, hc]
  have wait : u.slotWaits x.core (u.core x.core) ⟨i.word, some i⟩ = false := by
    simp [State.slotWaits, ha, hs, hm]
  have act : ∀ t : State, t.applySlot x.core (u.core x.core) ⟨i.word, some i⟩ = t.apply x.core (u.core x.core) i := by
    intro t; simp [State.applySlot, h.guard]
  obtain ⟨m1, m2, m3⟩ := mate_quiet h.mate u x.core
  obtain ⟨j, hj, -, hb⟩ := h.mate
  have clash : (if x.slot then slotsClash (slotOf x.mate) ⟨i.word, some i⟩ else slotsClash ⟨i.word, some i⟩ (slotOf x.mate))
      = false := by
    have e : (slotOf x.mate).insn = some j := hj
    by_cases hx : x.slot = true <;> simp only [hx, if_true, if_false, slotsClash, SlotW.shape, e] at hb ⊢ <;> exact hb
  unfold State.issue
  simp only [retry_of_issuable h.ready, h.ready]
  by_cases hx : x.slot = true
  · simp only [hx, if_true] at clash ⊢
    simp only [State.runBundle, State.bundleCause, h.fetch, clash, m1, own, m2, wait, State.retire, m3, act]
    simp
  · simp only [hx] at clash ⊢
    simp only [State.runBundle, State.bundleCause, h.fetch, m1, own, m2, wait, State.retire, m3, act]
    simp at clash
    simp [clash]

/-- Operations that raise no exception of their own and never wait: those on registers, and the branches. -/
def plainOps : List Op := [
  .nop, .add, .sub, .and, .or, .xor, .andn, .sll, .srl, .sra, .ror, .slt, .sltu, .min, .max, .minu, .maxu, .adds, .subs,
  .abs, .clz, .popc, .mul, .muld, .muldu, .muldm, .div, .divu, .rem, .remu, .qmul, .qmul2, .ceq, .cne, .clt, .cge,
  .cltu, .cgeu, .pand, .por, .pxor, .pandn, .prd, .pwr, .addi, .andi, .ori, .xori, .slti, .sltiu, .lui, .shi, .cmpi,
  .mac, .msu, .macz, .mac2, .msu2, .accld, .accr, .accrl, .accrh, .accrg, .accwl, .accwh, .accwg, .accadd, .accsub,
  .accmv, .accsh, .accclr, .fadd, .fsub, .fmul, .fdiv, .fsqrt, .fma, .fms, .fmin, .fmax, .fabs, .fneg, .fmov, .fcvtsw,
  .fcvtws, .fcvtqs, .fcvtsq, .fmvgf, .fmvfg, .feq, .flt, .fle, .fun, .br, .call, .squash, .ctxq, .clarke, .clarke3,
  .park, .ipark, .sincos, .symcomp, .sat, .limit, .rsqrt]

/-- What decides that an operation is plain, as a computation on its row alone. -/
def plainRow (o : Op) : Bool :=
  decide (memSize o = 0) && !isAtom o && !isQueue o && !isRecord o && decide ((opRow o).spec = .S) &&
    decide (o ∉ [Op.hret, .waitInt, .xlq, .xlinv, .xlinva, .csrw, .csrr, .jr, .jalr, .samp, .pred, .spec, .pwmw, .qpush, .qpop,
      .qstat, .trace, .traced])

theorem plainRow_of_mem : ∀ o ∈ plainOps, plainRow o = true := by decide

/-- A plain operation raises nothing and waits for nothing. -/
theorem plain_quiet (u : State) (n : Nat) (c : CoreSt) (i : Insn) (h : plainRow i.op = true) :
    u.opCause n c i = none ∧ u.stallsAhead n c i = false ∧ u.sampWaits c i = false ∧ u.meetsStill n c i = false := by
  simp only [plainRow, Bool.and_eq_true, decide_eq_true_eq, Bool.not_eq_true', List.mem_cons, not_or,
    List.not_mem_nil, not_false_eq_true, and_true] at h
  obtain ⟨⟨⟨⟨⟨h1, h2⟩, h3⟩, h4⟩, h5⟩, h6⟩ := h
  obtain ⟨n1, n2, n3, n4, n5, n6, n7, n8, n9, n10, n11, n12, n13, n14, n15, n16, n17, n18⟩ := h6
  have hx : u.xSub n c i = none := by
    unfold State.xSub
    split
    all_goals first
      | rfl
      | (rename_i e; simp [e, isRecord] at h4 n10 n11 n12 n13)
  have hp : privBad n c i = false := by
    unfold privBad
    rw [Bool.and_eq_false_iff]
    right
    split
    all_goals first
      | rfl
      | (rename_i e; simp [e] at n1 n2 n3 n4 n5 n6 n7)
  have hm : u.meetsStill n c i = false := by
    unfold State.meetsStill
    rw [if_neg (by simp [h1]), if_neg (by simp [h2])]
    split
    all_goals first
      | rfl
      | (rename_i e; simp [e] at n14 n15 n16 n17 n18)
  refine ⟨?_, ?_, ?_, hm⟩
  · simp [State.opCause, hp, h1, h2, h3, h4, n8, n9, hx]
  · simp [State.stallsAhead, h5]
  · simp [State.sampWaits, n10]

/-- A plain instruction that issues alone takes its effect. -/
theorem issue_plain {s u : State} {x : Issue} {i : Insn} (h : Executes s u x i) (hp : i.op ∈ plainOps) :
    s.issue x i = (pcNext u x.core).apply x.core (u.core x.core) i := by
  obtain ⟨a, b, c, d⟩ := plain_quiet u x.core (u.core x.core) i (plainRow_of_mem _ hp)
  exact issue_alone h a b c d

/-! ### Results written -/

/-- One change of a core after another. -/
theorem onCore_onCore_core (s : State) (n m : Nat) (f g : CoreSt → CoreSt) :
    ((s.onCore n f).onCore n g).core m = if m = n then g (f (s.core n)) else s.core m := by
  simp only [core_onCore, if_true]; split <;> rfl

/-- A change of a core that moves registers alone leaves what the registers say. -/
theorem leaves_of_core {u t : State} {n : Nat} {r : Regs} (x : CoreSt) (ht : t = { u with cores := t.cores })
    (hn : t.core n = x) (hm : ∀ m, m ≠ n → t.core m = u.core m)
    (hx : x = { u.core n with pc := r.pc, g := x.g, acc := x.acc, f := x.f, k := x.k, csr := x.csr })
    (hg : ∀ j, gReg x j = r.g j) (ha : ∀ j, aReg x j = r.a j) (hf : ∀ j, fReg x j = r.f j)
    (hk : ∀ j, kReg x j = r.k j) (hc : ∀ j, csrOf x j = r.csr j) : Leaves u t n r := by
  refine ⟨ht, hm, ?_, ?_, ?_, ?_, ?_, ?_⟩
  · rw [hn]; exact hx
  · rw [hn]; exact hg
  · rw [hn]; exact ha
  · rw [hn]; exact hf
  · rw [hn]; exact hk
  · rw [hn]; exact hc

/-- A change of a core after changes of cores alone. -/
theorem only_onCore {u t : State} (h : t = { u with cores := t.cores }) (n : Nat) (f : CoreSt → CoreSt) :
    t.onCore n f = { u with cores := (t.onCore n f).cores } := by
  obtain ⟨c, rfl⟩ : ∃ c, t = { u with cores := c } := ⟨_, h⟩
  rfl

/-- Nothing is written. -/
theorem pcNext_leaves (u : State) (n : Nat) : Leaves u (pcNext u n) n (nextRegs (u.core n)) :=
  leaves_of_core { u.core n with pc := (u.core n).pc + 8 } rfl (by simp [pcNext]) (fun m h => by simp [pcNext, h]) rfl
    (fun _ => rfl) (fun _ => rfl) (fun _ => rfl) (fun _ => rfl) (fun _ => rfl)

/-- A general register is written. -/
theorem putG_leaves (u : State) (n d : Nat) (v : Word) :
    Leaves u ((pcNext u n).putG n d v) n ((nextRegs (u.core n)).setG d v) := by
  refine leaves_of_core (setG { u.core n with pc := (u.core n).pc + 8 } d v) rfl ?_ ?_ ?_ ?_ ?_ ?_ ?_ ?_
  · unfold State.putG pcNext; rw [onCore_onCore_core, if_pos rfl]
  · intro m h; unfold State.putG pcNext; rw [onCore_onCore_core, if_neg h]
  · unfold setG; split <;> rfl
  · intro j; rw [gReg_setG]; rfl
  · intro j; rw [aReg_setG]; rfl
  · intro j; rw [fReg_setG]; rfl
  · intro j; rw [kReg_setG]; rfl
  · intro j; rw [csrOf_setG]; rfl

/-- QS as a word to be set (R92). -/
theorem accstatQs_or (w : Word) (q : Bool) : accstatQs w q = w ||| (if q then 0x100#32 else 0) := by
  cases q <;> simp [accstatQs]

/-- AVn as a word to be set (R92). -/
theorem accstatAv_or (w : Word) (n : Nat) (av : Bool) :
    accstatAv w n av = w ||| (if av then BitVec.ofNat 32 (2 ^ n) else 0) := by
  cases av <;> simp [accstatAv]

/-- Float flags as a word to be set (R91). -/
theorem fcsrSet_or (w : Word) (f : FFlags) : fcsrSet w f = w ||| fcsrSet 0 f := by simp [fcsrSet]

/-- A general register is written with its QS flag. -/
theorem putQ_leaves (u : State) (n d : Nat) (r : QRes) :
    Leaves u ((pcNext u n).putQ n d r) n
      (((nextRegs (u.core n)).setG d r.val).orCsr 0x011 (if r.qs then 0x100#32 else 0)) := by
  refine leaves_of_core (setCsr (setG { u.core n with pc := (u.core n).pc + 8 } d r.val) 0x011
    (accstatQs (csrOf (u.core n) 0x011) r.qs)) (only_onCore (only_onCore rfl _ _) _ _) ?_ ?_ ?_ ?_ ?_ ?_ ?_ ?_
  · unfold State.putQ State.putG pcNext
    rw [core_onCore, if_pos rfl, onCore_onCore_core, if_pos rfl, csrOf_setG]; rfl
  · intro m h; unfold State.putQ State.putG pcNext; rw [core_onCore, if_neg h, onCore_onCore_core, if_neg h]
  · unfold setG setCsr; split <;> rfl
  · intro j; rw [gReg_setCsr, gReg_setG]; rfl
  · intro j; rw [aReg_setCsr, aReg_setG]; rfl
  · intro j; rw [fReg_setCsr, fReg_setG]; rfl
  · intro j; rw [kReg_setCsr, kReg_setG]; rfl
  · intro j; rw [csrOf_setCsr, csrOf_setG, accstatQs_or]; rfl

/-- A predicate is written. -/
theorem setK_leaves (u : State) (n d : Nat) (b : Bool) :
    Leaves u ((pcNext u n).onCore n (fun y => setK y d b)) n ((nextRegs (u.core n)).setK d b) := by
  refine leaves_of_core (setK { u.core n with pc := (u.core n).pc + 8 } d b) rfl ?_ ?_ ?_ ?_ ?_ ?_ ?_ ?_
  · unfold pcNext; rw [onCore_onCore_core, if_pos rfl]
  · intro m h; unfold pcNext; rw [onCore_onCore_core, if_neg h]
  · unfold setK; split <;> rfl
  · intro j; rw [gReg_setK]; rfl
  · intro j; rw [aReg_setK]; rfl
  · intro j; rw [fReg_setK]; rfl
  · intro j; rw [kReg_setK]; rfl
  · intro j; rw [csrOf_setK]; rfl

/-- An accumulator is written with its AV flag. -/
theorem setA_leaves (u : State) (n d : Nat) (v : BitVec 72) (av : Bool) :
    Leaves u ((pcNext u n).onCore n (fun y => setCsr (setA y d v) 0x011 (accstatAv (csrOf y 0x011) d av))) n
      (((nextRegs (u.core n)).setA d v).orCsr 0x011 (if av then BitVec.ofNat 32 (2 ^ d) else 0)) := by
  refine leaves_of_core (setCsr (setA { u.core n with pc := (u.core n).pc + 8 } d v) 0x011
    (accstatAv (csrOf (u.core n) 0x011) d av)) (only_onCore rfl _ _) ?_ ?_ rfl (fun _ => rfl) ?_ (fun _ => rfl) (fun _ => rfl) ?_
  · unfold pcNext; rw [onCore_onCore_core, if_pos rfl]; rfl
  · intro m h; unfold pcNext; rw [onCore_onCore_core, if_neg h]
  · intro j; rw [aReg_setCsr, aReg_setA]; rfl
  · intro j
    rw [csrOf_setCsr, csrOf_setA]
    rw [accstatAv_or]; rfl

/-- A float register is written with its flags. -/
theorem setF_leaves (u : State) (n d : Nat) (v : Word) (fl : FFlags) :
    Leaves u (((pcNext u n).onCore n (fun y => setF y d v)).putFlags n fl) n
      (((nextRegs (u.core n)).setF d v).orCsr 0x010 (fcsrSet 0 fl)) := by
  refine leaves_of_core (setCsr (setF { u.core n with pc := (u.core n).pc + 8 } d v) 0x010
    (fcsrSet (csrOf (u.core n) 0x010) fl)) (only_onCore (only_onCore rfl _ _) _ _) ?_ ?_ ?_ ?_ ?_ ?_ ?_ ?_
  · unfold State.putFlags pcNext; rw [core_onCore, if_pos rfl, onCore_onCore_core, if_pos rfl]; rfl
  · intro m h; unfold State.putFlags pcNext; rw [core_onCore, if_neg h, onCore_onCore_core, if_neg h]
  · unfold setF setCsr; rfl
  · intro j; rw [gReg_setCsr, gReg_setF]; rfl
  · intro j; rw [aReg_setCsr, aReg_setF]; rfl
  · intro j; rw [fReg_setCsr, fReg_setF]; rfl
  · intro j; rw [kReg_setCsr, kReg_setF]; rfl
  · intro j; rw [csrOf_setCsr, csrOf_setF, fcsrSet_or]; rfl

/-- A general register is written with float flags. -/
theorem putGF_leaves (u : State) (n d : Nat) (v : Word) (fl : FFlags) :
    Leaves u (((pcNext u n).putG n d v).putFlags n fl) n
      (((nextRegs (u.core n)).setG d v).orCsr 0x010 (fcsrSet 0 fl)) := by
  refine leaves_of_core (setCsr (setG { u.core n with pc := (u.core n).pc + 8 } d v) 0x010
    (fcsrSet (csrOf (u.core n) 0x010) fl)) (only_onCore (only_onCore rfl _ _) _ _) ?_ ?_ ?_ ?_ ?_ ?_ ?_ ?_
  · unfold State.putFlags State.putG pcNext
    rw [core_onCore, if_pos rfl, onCore_onCore_core, if_pos rfl, csrOf_setG]; rfl
  · intro m h; unfold State.putFlags State.putG pcNext; rw [core_onCore, if_neg h, onCore_onCore_core, if_neg h]
  · unfold setG setCsr; split <;> rfl
  · intro j; rw [gReg_setCsr, gReg_setG]; rfl
  · intro j; rw [aReg_setCsr, aReg_setG]; rfl
  · intro j; rw [fReg_setCsr, fReg_setG]; rfl
  · intro j; rw [kReg_setCsr, kReg_setG]; rfl
  · intro j; rw [csrOf_setCsr, csrOf_setG, fcsrSet_or]; rfl

end Sys2Proof.Laws
end

