-- ==== Sys2Proof/Machine/Pins.lean ====
section
/-!
DEFINITION. What the device drives at its balls (R570, R571, R630, R631): the reset states, and the levels of the outputs
whose levels the state gives. The bit cells, clocks and bus cycles of the other balls are timing.
-/

namespace Sys2Proof.Machine

/-- What a ball is driven with: nothing, a pull, or a level. -/
inductive Drive where
  | z | up | down | low | high
  deriving DecidableEq, Repr

/-- A level as a drive. -/
def Drive.ofLevel (b : Bool) : Drive := if b then .high else .low

/-- The balls that drive low while their island is held or unpowered, whatever their code (R571, R624). -/
def ballHard (k : Nat) : Bool := decide (k ≤ 101 ∨ (251 ≤ k ∧ k ≤ 258))

/-- The balls that ignore their code: REFCLK, RESET_N and those of PD0 (R630). -/
def ballFixed (k : Nat) : Bool := decide (275 ≤ k)

/-- The balls that are inputs only (R630). -/
def ballInput (k : Nat) : Bool :=
  decide ((110 ≤ k ∧ k ≤ 178) ∨ (215 ≤ k ∧ k ≤ 217) ∨ (231 ≤ k ∧ k ≤ 246) ∨ (259 ≤ k ∧ k ≤ 267) ∨ k = 270)

/-- The PINRST code of a ball in the fuse shadow (R570, R630). -/
def State.pinCode (s : State) (k : Nat) : Nat := fieldOf (s.shadowWord (16 + k / 16)) (2 * (k % 16) + 1) (2 * (k % 16))

/-- The reset state of a ball (R571, R630, R631). -/
def State.ballRest (s : State) (k : Nat) : Drive :=
  if ballHard k then .low
  else if ballFixed k then .z
  else match s.pinCode k with
    | 0 => .z
    | 1 => .up
    | 2 => .down
    | _ => if ballInput k then .down else .low

/-- LPULSEn and LENn: an island whose clock stands still, or that has failed, holds its levels until its reset (R236, R413,
R571, R650). -/
def State.legBalls (s : State) (n : Nat) : Drive × Drive :=
  if s.pdLive 12 then (.ofLevel (s.legPad n).2, .ofLevel (s.legPad n).1) else (.low, .low)

/-- SOcH of the Warden and SOcL of Flashing (R416, R417). -/
def State.switchBalls (s : State) (c : Nat) : Drive × Drive :=
  (.ofLevel (s.pdRun 2 && s.commanded (2 * c)), .ofLevel (s.pdRun 1 && s.commanded (2 * c + 1)))

/-- TPk: low in its test pulse, for TPW µs (R421). -/
def State.tpBall (s : State) (k : Nat) : Drive :=
  if s.pdRun 2 then .ofLevel (!(s.safe.tpLow.testBit k && !s.past (.pulse k) s.tpw)) else s.ballRest (247 + k)

/-- MPLSp: the level of a running output, with POL the other way round; else the fuse map's (R392, R393). -/
def State.mplsBall (s : State) (p : Nat) : Drive :=
  if s.pdLive 15 && s.on (R.METER_PLS_EN p) then .ofLevel ((s.pulse p).active != s.on (R.METER_PLS_POL p))
  else s.ballRest (271 + p)

/-- MCKk: low while its EN is 0, else a square wave of so many PD13 cycles high and cycles of the period (R268). -/
def State.mckBall (s : State) (k : Nat) : Drive ⊕ (Nat × Nat) :=
  if s.pdLive 13 then (match s.mckWave k with | some w => .inr w | none => .inl .low) else .inl (s.ballRest (102 + k))

/-- RSYNC: driven while OEN = 1 and no contention has stopped the driver (R214, R523). -/
def State.rsyncBall (s : State) : Drive :=
  if s.pdLive 12 && s.on R.BATTEN_RSYNC_OEN && !s.ridge.stopped then .ofLevel s.bat.rsync else s.ballRest 269

/-- RTRIP_N, an open-drain output (R520). -/
def State.rtripBall (s : State) : Drive := if s.ridge.drive || s.safeRtrip then .low else s.ballRest 268

/-- HINT_N: asserted low; inactive, high with HOD = 1 and not driven with HOD = 0 (R610). -/
def State.hintBall (s : State) : Drive :=
  if s.pdOpen 3 then (if s.hint then .low else if s.on R.HOST_CFG_HOD then .high else .z) else s.ballRest 214

/-- EWAKE_N, an open-drain output of PD0 (R538). -/
def State.ewakeBall (s : State) : Drive := if s.eaves.on && s.eaves.ewake then .low else .z

end Sys2Proof.Machine
end

