-- ==== Sys2Proof/Tests/Slice0.lean ====
section
/-!
SUPPORT. Tests: ill-formed commands, words that the spec writes out, and a state that meets the hypotheses of each statement.
-/

open Sys2Proof Sys2Proof.Machine Sys2Proof.Safety

/-! ### Well-formed commands: an ill-formed term for each check -/

theorem test_illFormed_post : (Instr.thatchPost 0 0 (List.replicate 13 0)).wellFormed = false := by decide
theorem test_illFormed_spi : (Instr.spiWrite 0 []).wellFormed = false ∧ (Instr.spiRead 0 [] []).wellFormed = false := by decide
theorem test_wellFormed : Instr.bootDone.wellFormed = true ∧ (Instr.thatchPost 0 0 (List.replicate 12 0)).wellFormed = true := by decide

/-! ### Words written out in the worked examples of R67 and R109 -/

theorem test_word_nop : (decodeInsn 0x00000000).map (·.op) = some .nop := by decide
theorem test_word_pred : decodeInsn 0xE0180001 = some ⟨.pred, 0, 24, 0, 0, 0, 0xE0180001⟩ := by decide
theorem test_word_spec : decodeInsn 0xE0400002 = some ⟨.spec, 2, 0, 0, 0, 0, 0xE0400002⟩ := by decide
theorem test_word_clarke : decodeInsn 0xE98A5800 = some ⟨.clarke, 12, 10, 11, 0, 11, 0xE98A5800⟩ := by decide
theorem test_word_park : decodeInsn 0xE9CC8002 = some ⟨.park, 14, 12, 16, 0, 16, 0xE9CC8002⟩ := by decide
theorem test_word_pwmw : decodeInsn 0xE014D008 = some ⟨.pwmw, 0, 20, 26, 0, 26, 0xE014D008⟩ := by decide
theorem test_word_trace : decodeInsn 0xE08F1009 = some ⟨.trace, 4, 15, 2, 0, 2, 0xE08F1009⟩ := by decide
theorem test_word_mac : decodeInsn 0x80042800 = some ⟨.mac, 0, 4, 5, 0, 5, 0x80042800⟩ := by decide

/-! ### An instruction that issues -/

/-- Slot 1 of a Rafter core, NOP beside it. -/
def x2 : Issue := ⟨2, true, 0, []⟩

/-- Slot 1 of SC0, NOP beside it. -/
def x8 : Issue := ⟨8, true, 0, []⟩

/-- What an instruction needs beside a core that can issue. -/
def fits (u : State) (x : Issue) (i : Insn) : Bool :=
  guardOn (u.core x.core) i.guard && legalInsn (profileOf x.core) i &&
    match decodeInsn x.mate with
    | some j => (decide (j.op = .nop)) && !(if x.slot then bundleBad j i else bundleBad i j)
    | none => false

theorem fits_executes {s u : State} {x : Issue} {i : Insn} (r : s.issuable x = some u)
    (f : u.fetchCause x.core (u.core x.core) = none) (h : fits u x i = true) : Executes s u x i := by
  unfold fits at h
  simp only [Bool.and_eq_true] at h
  obtain ⟨⟨g, l⟩, m⟩ := h
  split at m
  · next j e =>
    simp only [Bool.and_eq_true, decide_eq_true_eq, Bool.not_eq_true'] at m
    exact ⟨r, f, g, l, ⟨j, e, .inr m.1, m.2⟩⟩
  · exact absurd m (by decide)

theorem reset_ready : State.reset.issuable x2 = some State.reset ∧ State.reset.issuable x8 = some State.reset := ⟨rfl, rfl⟩
theorem reset_fetch : State.reset.fetchCause 2 (State.reset.core 2) = none ∧
    State.reset.fetchCause 8 (State.reset.core 8) = none := by decide

def rrr (d s1 s2 : BitVec 5) : Rrr := ⟨d, s1, s2, 0⟩

theorem all_execute {l : List Insn} (h : l.all (fits .reset x2) = true) : ∀ i ∈ l, Executes .reset .reset x2 i :=
  fun i m => fits_executes reset_ready.1 reset_fetch.1 (List.all_eq_true.mp h i m)

theorem all_execute8 {l : List Insn} (h : l.all (fits .reset x8) = true) : ∀ i ∈ l, Executes .reset .reset x8 i :=
  fun i m => fits_executes reset_ready.2 reset_fetch.2 (List.all_eq_true.mp h i m)

/-! ### The hypotheses of each statement are met: base instructions -/

theorem witness_IntegerResults : ∀ i ∈ [insnRrr .add (rrr 31 0 31), insnRrr .sub (rrr 31 0 31), insnRrr .and (rrr 31 0 31),
    insnRrr .or (rrr 31 0 31), insnRrr .xor (rrr 31 0 31), insnRrr .andn (rrr 31 0 31), insnRrr .sll (rrr 31 0 31),
    insnRrr .srl (rrr 31 0 31), insnRrr .sra (rrr 31 0 31), insnRrr .ror (rrr 31 0 31), insnRrr .slt (rrr 31 0 31),
    insnRrr .sltu (rrr 31 0 31), insnRrr .min (rrr 31 0 31), insnRrr .max (rrr 31 0 31), insnRrr .minu (rrr 31 0 31),
    insnRrr .maxu (rrr 31 0 31), insnRrr .adds (rrr 31 0 31), insnRrr .subs (rrr 31 0 31), insnRrr .abs (rrr 31 1 0),
    insnRrr .clz (rrr 31 1 0), insnRrr .popc (rrr 31 1 0), insnRi .addi 31 1 0xFFFF, insnRi .andi 31 1 0xFFFF,
    insnRi .ori 31 1 0xFFFF, insnRi .xori 31 1 0xFFFF, insnRi .slti 31 1 0xFFFF, insnRi .sltiu 31 1 0xFFFF,
    insnRi .lui 31 0 0xFFFF, insnRi .shi 31 1 0x7F], Executes .reset .reset x2 i := all_execute (by decide)

theorem witness_PredicateResults : ∀ i ∈ [insnRrr .ceq (rrr 7 1 2), insnRrr .cne (rrr 7 1 2), insnRrr .clt (rrr 7 1 2),
    insnRrr .cge (rrr 7 1 2), insnRrr .cltu (rrr 7 1 2), insnRrr .cgeu (rrr 7 1 2), insnRrr .pand (rrr 7 1 7),
    insnRrr .por (rrr 7 1 7), insnRrr .pxor (rrr 7 1 7), insnRrr .pandn (rrr 7 1 7), insnRrr .prd (rrr 31 0 0),
    insnRrr .pwr (rrr 0 31 0), insnRi .cmpi 7 1 0, insnRi .cmpi 15 1 0, insnRi .cmpi 23 1 0, insnRi .cmpi 31 1 0],
    Executes .reset .reset x2 i := all_execute (by decide)

theorem witness_MultiplyDivideResults : ∀ i ∈ [insnRrr .mul (rrr 31 1 2), insnRrr .muld (rrr 30 1 2), insnRrr .muldu (rrr 30 1 2),
    insnRrr .muldm (rrr 30 1 2), insnRrr .div (rrr 31 1 2), insnRrr .divu (rrr 31 1 2), insnRrr .rem (rrr 31 1 2),
    insnRrr .remu (rrr 31 1 2)], Executes .reset .reset x2 i := all_execute (by decide)

theorem witness_FractionResults : ∀ i ∈ [insnRrr .qmul (rrr 31 1 2), insnRrr .qmul2 (rrr 31 1 2), insnRrr .sat (rrr 31 1 31),
    insnRrr .limit (rrr 31 1 30)], Executes .reset .reset x2 i := all_execute (by decide)

theorem witness_AccumulatorResults : ∀ i ∈ [insnRrr .mac (rrr 7 1 2), insnRrr .msu (rrr 7 1 2), insnRrr .mac2 (rrr 7 1 2),
    insnRrr .msu2 (rrr 7 1 2), insnRrr .accadd (rrr 7 1 0), insnRrr .accsub (rrr 7 1 0), insnRrr .macz (rrr 7 1 2),
    insnRrr .accld (rrr 7 1 0), insnRrr .accsh (rrr 7 0 31), insnRrr .accmv (rrr 7 1 0), insnRrr .accclr (rrr 7 0 0),
    insnRrr .accwl (rrr 7 1 0), insnRrr .accwh (rrr 7 1 0), insnRrr .accwg (rrr 7 1 0), insnRrr .accr (rrr 31 7 31),
    insnRrr .accrl (rrr 31 7 0), insnRrr .accrh (rrr 31 7 0), insnRrr .accrg (rrr 31 7 0)],
    Executes .reset .reset x2 i := all_execute (by decide)

theorem witness_FloatResults : ∀ i ∈ [insnRrr .fadd (rrr 15 1 2), insnRrr .fsub (rrr 15 1 2), insnRrr .fmul (rrr 15 1 2),
    insnRrr .fdiv (rrr 15 1 2), insnRrr .fsqrt (rrr 15 1 0), insnRrr .fma (rrr 15 1 2), insnRrr .fms (rrr 15 1 2),
    insnRrr .fmin (rrr 15 1 2), insnRrr .fmax (rrr 15 1 2), insnRrr .fabs (rrr 15 1 0), insnRrr .fneg (rrr 15 1 0),
    insnRrr .fmov (rrr 15 1 0), insnRrr .fmvfg (rrr 15 1 0), insnRrr .fcvtsw (rrr 15 1 0), insnRrr .fcvtsq (rrr 15 1 0),
    insnRrr .rsqrt (rrr 15 1 0), insnRrr .fmvgf (rrr 31 1 0), insnRrr .fcvtws (rrr 31 1 0), insnRrr .fcvtqs (rrr 31 1 0),
    insnRrr .feq (rrr 7 1 2), insnRrr .flt (rrr 7 1 2), insnRrr .fle (rrr 7 1 2), insnRrr .fun (rrr 7 1 2)],
    Executes .reset .reset x2 i := all_execute (by decide)

theorem witness_ControlResults : (∀ i ∈ [insnB .br ⟨0, 0, 0x1FFFFF⟩, insnB .call ⟨0, 0, 1⟩, insnRrr .jr (rrr 0 0 0),
    insnRrr .jalr (rrr 31 0 0), insnRrr .nop (rrr 0 0 0), insnRrr .fence (rrr 0 0 0), insnRrr .waitInt (rrr 0 0 0)],
    Executes .reset .reset x2 i) ∧ (gReg (State.reset.core 2) 0).toNat % 8 = 0 ∧ (State.reset.core 2).region ≠ .spec ∧
    userMode 2 (State.reset.core 2) = false ∧ State.reset.coreInt 2 = false :=
  ⟨all_execute (by decide), by decide, by decide, by decide, by decide⟩

/-! ### The hypotheses of each statement are met: memory, registers and exceptions -/

theorem executes_of {s : State} {x : Issue} {i : Insn} (r : s.issuable x = some s)
    (h : ((s.fetchCause x.core (s.core x.core)).isNone && fits s x i) = true) : Executes s s x i := by
  simp only [Bool.and_eq_true, Option.isNone_iff_eq_none] at h
  exact fits_executes r h.1 h.2

theorem all_execute_of {s : State} {x : Issue} {l : List Insn} (r : s.issuable x = some s)
    (h : ((s.fetchCause x.core (s.core x.core)).isNone && l.all (fits s x)) = true) : ∀ i ∈ l, Executes s s x i := by
  simp only [Bool.and_eq_true] at h
  exact fun i m => executes_of r (by simp only [Bool.and_eq_true]; exact ⟨h.1, List.all_eq_true.mp h.2 i m⟩)

/-- Core 2 with some of its registers set. -/
def withG (s : State) (g : Tbl Word) : State := s.setCore 2 { s.core 2 with g := g }

/-- G1 addresses the last double word of the data memory of core 2 before its descriptors, G2 the last word of the shared SRAM. -/
def sData : State := withG .reset [(1, 0x0027BFF8), (2, 0x00AFFFFC)]

theorem sData_ready : sData.issuable x2 = some sData := rfl

def mf (t : BitVec 5) (off : BitVec 12) : Mf := ⟨t, 1, 0, off⟩

theorem witness_LoadResults : (∀ i ∈ [insnM .ldb (mf 31 7), insnM .ldbu (mf 31 7), insnM .ldh (mf 31 6), insnM .ldhu (mf 31 6),
    insnM .ldw (mf 31 4), insnM .ldf (mf 15 4), insnM .ldd (mf 30 0)], Executes sData sData x2 i) ∧
    (∀ k < 8, xlate 2 (sData.core 2) 0 (0x27BFF8 + k) = (0, 0x27BFF8 + k) ∧ memAt (0x27BFF8 + k) = some (.rcData 2)) ∧
    sData.memShut (.rc 2) (.rcData 2) = false ∧ sData.marked 0x27BFF8 = false ∧ sData.pdStill (pdOfMem (.rcData 2)) = false ∧
    (sData.core 2).region = .none :=
  ⟨all_execute_of sData_ready (by decide), by decide, by decide, by decide, by decide, by decide⟩

theorem witness_StoreResults : (∀ i ∈ [insnM .stb (mf 31 7), insnM .sth (mf 31 6), insnM .stw (mf 31 4), insnM .stf (mf 15 4),
    insnM .std (mf 30 0), insnRrr .atxch (rrr 31 2 1), insnRrr .atadd (rrr 31 2 1), insnRrr .atand (rrr 31 2 1),
    insnRrr .ator (rrr 31 2 1), insnRrr .atxor (rrr 31 2 1), insnRrr .atmax (rrr 31 2 1), insnRrr .atmin (rrr 31 2 1),
    insnRrr .atcas (rrr 31 2 4), insnRrr .atadds (rrr 31 2 1), insnRrr .atring (rrr 31 2 1)], Executes sData sData x2 i) ∧
    (∀ k < 8, xlate 2 (sData.core 2) 1 (0x27BFF8 + k) = (0, 0x27BFF8 + k)) ∧ sData.queueAt 0x27BFF8 = none ∧
    sData.queueAt 0x27BFFC = none ∧ descCtx 0x27BFF8 = none ∧ descCtx 0x27BFFC = none ∧ sData.ownedBy 2 0x7BFF8 = none ∧
    sData.ownedBy 2 0x7BFFC = none ∧ xlate 2 (sData.core 2) 3 0xAFFFFC = (0, 0xAFFFFC) ∧ inSram 0xAFFFFC 4 = true ∧
    sData.pdRun 3 = true ∧ sData.marked 0xAFFFFC = false ∧ sData.queueAt 0xAFFFFC = none :=
  ⟨all_execute_of sData_ready (by decide), by decide, by decide, by decide, by decide, by decide, by decide, by decide, by decide,
    by decide, by decide, by decide, by decide⟩

/-- Core 8 in supervisor mode, region 31 of its translation valid from address 0 on. -/
def sXlt : State := State.reset.setCore 8 { coreReset with csr := [(0x23E, 0), (0x23F, 0x3F)] }

theorem witness_CsrResults : (∀ i ∈ [insnRi .csrr 31 0 0x100, insnRi .csrr 31 0 0x30, insnRi .csrr 31 0 0x20, insnRi .csrr 31 0 0,
    insnRi .csrw 0 1 0x11, insnRi .csrw 1 1 0x11, insnRi .csrw 2 1 0x11], Executes .reset .reset x2 i) ∧
    (∀ i ∈ [insnRrr .xlq (rrr 31 0 0), insnRrr .xlinv (rrr 0 0 0), insnRrr .xlinva (rrr 0 0 0)], Executes sXlt sXlt x8 i) ∧
    userMode 2 (State.reset.core 2) = false ∧ userMode 8 (sXlt.core 8) = false ∧ (sXlt.core 8).region = .none ∧
    xlMatch (sXlt.core 8) 31 0 = true ∧ xlMatch (sXlt.core 8) 30 0 = false :=
  ⟨all_execute (by decide), all_execute_of rfl (by decide), by decide, by decide, by decide, by decide, by decide⟩


/-- Core 2 with interrupts enabled and a vector base; the host has rung its doorbell 0. -/
def sInt : State := ((State.reset.setCore 2 { coreReset with csr := [(0, 0x41), (5, 0x00280000)] }).wr (R.HOST_IEN 5)
  0x100000).put R.HOST_DBELL_DB 1

/-- WAIT with an interrupt pending (R85). -/
theorem witness_ControlResultsInterrupt : Executes sInt sInt x2 (insnRrr .waitInt (rrr 0 0 0)) ∧ sInt.coreInt 2 = true ∧
    userMode 2 (sInt.core 2) = false ∧ (sInt.core 2).region ≠ .spec :=
  ⟨executes_of rfl (by decide), by decide, by decide, by decide⟩

theorem witness_InterruptTaken : sInt.coreInt 2 = true ∧ sInt.ready 2 = some sInt ∧ (csrOf (sInt.core 2) 0).getLsbD 0 = true ∧
    CanEnter (sInt.core 2) ∧ (sInt.core 2).region = .none := ⟨by decide, rfl, by decide, ⟨by decide, by decide⟩, by decide⟩

theorem witness_ExceptionResults : (∀ i ∈ [insnRrr .syscall (rrr 0 31 31), insnRrr .hret (rrr 0 0 0)], Executes sInt sInt x2 i) ∧
    sInt.bundleCause 2 (sInt.core 2) (slotOf 0) (slotOf 0xFFFFFFFF) = some (⟨0x01, 0xFFFFFFFF⟩, 1) ∧
    State.reset.bundleCause 2 (State.reset.core 2) (slotOf 0) (slotOf 0xFFFFFFFF) = some (⟨0x01, 0xFFFFFFFF⟩, 1) ∧
    ¬ CanEnter (State.reset.core 2) ∧ sInt.pdRun (pdOfCore 2) = true ∧ (sInt.core 2).lockup = false ∧
    (sInt.core 2).stalled = none ∧ (sInt.core 2).waiting = false ∧ (sInt.core 2).ctx = none ∧ (sInt.core 2).bgWait = false ∧
    sInt.fetchStill 2 = false ∧ ({ coreReset with lockup := true } : CoreSt).lockup = true :=
  ⟨all_execute_of rfl (by decide), by decide, by decide, fun h => h.2 (by decide), by decide, by decide, by decide, by decide,
    by decide, by decide, by decide, by decide⟩

theorem witness_DecodeCauses : (opRow (insnRrr .mul (rrr 1 2 3)).op).cls ≠ .I ∧ (decodeInsn 0xFFFFFFFF).isNone = true ∧
    (decodeInsn 0xE0180001).isSome = true ∧ ∃ i, decodeInsn (wordRrr .hret (rrr 0 0 0)) = some i ∧
      guardOn (State.reset.core 2) i.guard = true ∧ legalInsn (profileOf 2) i = true := by
  refine ⟨by decide, by decide, by decide, _, rfl, by decide, by decide⟩

/-! ### The hypotheses of each statement are met: dispatches -/

/-- A descriptor of context 64 on core 2: valid, one component, one PWM binding. -/
def ctxMem : Tbl Byte := [(0x27C000, 0x01), (0x27C002, 0x88), (0x27C003, 0x80)]

/-- Context 64 is configured. -/
def sCtx : State := ({ State.reset with mem := ctxMem }).raise (R.RAFTER_CTX_STAT_CFG 64)

/-- Context 64 runs on core 2 with a real vector. -/
def coreRun : CoreSt := { coreReset with ctx := some 64, survey := false, real := some [7], csr := [(0x103, 1)], g := [(2, 0x0100)] }

def sRun : State := sCtx.setCore 2 coreRun

/-- The same, the context closed. -/
def sClosed : State := sRun.clear (R.RAFTER_CTX_STAT_OPN 64)

/-- The same, in the speculative part of a region. -/
def sSpec : State := sClosed.setCore 2 { coreRun with real := none, region := .spec, specDst := 31, undo := [(0x200000, 5)] }

theorem witness_RunAheadResults : (∀ i ∈ [insnRrr .samp (rrr 31 0 0), insnRrr .pred (rrr 0 31 0), insnRrr .spec (rrr 31 0 0),
    insnRrr .squash (rrr 0 0 0)], Executes sRun sRun x2 i) ∧ (∀ i ∈ [insnRrr .samp (rrr 31 0 0), insnRrr .squash (rrr 0 0 0)],
    Executes sSpec sSpec x2 i) ∧ 0 < sRun.ncomp 64 ∧ sRun.fbl 64 = false ∧ (sRun.core 2).real = some [7] ∧
    (sSpec.core 2).region = .spec := ⟨all_execute_of rfl (by decide), all_execute_of rfl (by decide), by decide, by decide, by decide, by decide⟩

theorem witness_CommitResults : (∀ i ∈ [insnRrr .pwmw (rrr 0 1 2), insnRrr .commit (rrr 31 0 0), insnRrr .yield (rrr 0 0 0)],
    Executes sClosed sClosed x2 i) ∧ gReg (sClosed.core 2) 2 = 0x100 ∧ (chanOfCode 0).isSome = true ∧
    (selOff (.dir 0) 1).isSome = true ∧ 0 ∈ sClosed.pwmCodes 64 ∧ sClosed.isOpen 64 = false ∧ sRun.isOpen 64 = true ∧
    sClosed.pdRun 12 = true ∧ sClosed.swapping = false ∧ (sClosed.ctx 64).pendOpen = false ∧ coreOf 64 = 2 ∧
    (sClosed.ctx 64).restoring = false ∧ (sClosed.core 2).cb = [] ∧
    (Executes (sClosed.setCore 2 { coreRun with cb := [⟨1, 0, 5⟩] }) (sClosed.setCore 2 { coreRun with cb := [⟨1, 0, 5⟩] }) x2
      (insnRrr .commit (rrr 31 0 0))) :=
  ⟨all_execute_of rfl (by decide), by decide, by decide, by decide, by decide, by decide, by decide, by decide, by decide, by decide,
    by decide, by decide, by decide, executes_of rfl (by decide)⟩

/-- The same as `sRun`, trace node 1 of the context bound with 64-bit entries. -/
def sTrace : State := { sRun with mem := ctxMem ++ [(0x27C107, 0xC0)] }

theorem witness_TraceResults : (∀ i ∈ [insnRrr .trace (rrr 31 1 1), insnRrr .traced (rrr 31 2 1)], Executes sTrace sTrace x2 i) ∧
    (∀ i ∈ [insnRrr .trace (rrr 31 1 1), insnRrr .traced (rrr 31 2 1)], Executes .reset .reset x2 i) ∧
    (sTrace.desc 64 0x104).getLsbD 31 = true ∧ (sTrace.desc 64 0x104).getLsbD 30 = true ∧
    (sTrace.desc 64 0x100).getLsbD 31 = false ∧ sTrace.pdRun 3 = true ∧ (sTrace.node 64 1).live = false ∧
    (sTrace.node 64 1).pos = 0 ∧ (sTrace.node 64 1).seq = 0 ∧ sTrace.pdStill 3 = false ∧
    (∀ j < 64, sTrace.marked (0x00E00000 + 1024 * ((sTrace.desc 64 0x104).toNat / 512 % 1024) + j) = false) :=
  ⟨all_execute_of rfl (by decide), all_execute (by decide), by decide, by decide, by decide, by decide, by decide, by decide,
    by decide, by decide, by decide⟩

theorem witness_ContextCommands : (∀ i ∈ [insnRrr .openCtx (rrr 31 1 0), insnRrr .closeCtx (rrr 31 1 0), insnRrr .ctxq (rrr 31 1 0)],
    Executes (withG sCtx [(1, 64)]) (withG sCtx [(1, 64)]) x2 i) ∧ sCtx.isCfg 64 = true ∧ sCtx.isOpen 64 = true ∧
    sCtx.fbl 64 = false ∧ sCtx.on (R.RAFTER_CTX_STAT_PEND 64) = false ∧ sCtx.cfg.changed = [] ∧ sCtx.isRunning 64 = false ∧
    sClosed.isRunning 64 = true ∧ sClosed.isOpen 64 = false :=
  ⟨all_execute_of rfl (by decide), by decide, by decide, by decide, by decide, by decide, by decide, by decide, by decide⟩

theorem witness_TransformResults : ∀ i ∈ [insnRrr .clarke (rrr 30 1 2), insnRrr .clarke3 (rrr 30 2 1), insnRrr .park (rrr 30 2 1),
    insnRrr .ipark (rrr 30 2 1), insnRrr .sincos (rrr 30 1 0), insnRrr .symcomp (rrr 28 4 0)], Executes .reset .reset x2 i :=
  all_execute (by decide)

theorem test_clarke_unsaturated : (clarkeVal 2 3).2.qs = false ∧ (clarke3Val 2 3 4).1.qs = false := by decide

/-- A step of 1 toward a target 100 away. -/
theorem witness_ProfLimits : (0 : Int) < 10 ∧ (0 : Int).natAbs ≤ (10 : Int).toNat ∧ (profVal 0 0 0 10 2 1 100).vel = 1 ∧
    (profVal 0 0 0 10 2 1 100).done = false ∧ (profVal 0 0 0 10 2 1 0).done = true := by decide

/-- G2 addresses a record at the start of the data memory of core 2. -/
def sRec : State := withG { State.reset with mem := [(0x20000C, 1), (0x200010, 1), (0x200014, 1)] } [(1, 9), (2, 0x200000)]

theorem witness_RecordResults : (∀ i ∈ [insnRrr .pllstep (rrr 30 1 2), insnRrr .prof (rrr 31 1 2)], Executes sRec sRec x2 i) ∧
    memAt 0x200000 = some (.rcData 2) ∧ (∀ k < 4, sRec.marked (0x200000 + 8 * k) = false) ∧
    (∀ k < 8, sRec.queueAt (0x200000 + 4 * k) = none ∧ descCtx (0x200000 + 4 * k) = none ∧ sRec.ownedBy 2 (4 * k) = none) ∧
    (sRec.memWord 0x200018).toInt ≤ (sRec.memWord 0x20001C).toInt ∧
    (∀ k ∈ [3, 4, 5], 0 < (sRec.memWord (0x200000 + 4 * k)).toInt) ∧ (sRec.memWord 0x200018).toNat < 4 ∧ sRec.memWord 0x20001C = 0 :=
  ⟨all_execute_of rfl (by decide), by decide, by decide, by decide, by decide, by decide, by decide, by decide⟩

/-- Queue 31 enabled with depth 4 and 256-byte messages in the shared SRAM, pushed and popped by every master. -/
def sQ : State := ((State.reset.wr (R.QUEUE_CFG 31) 0xF83F0004).wr (R.QUEUE_BASE 31) 0xA00000).wr (R.QUEUE_RIGHTS 31) 0x07FF07FF

/-- G1 addresses a buffer, G2 names queue 31 and 256 bytes. -/
def sQueue : State := withG sQ [(1, 0xAFFF00), (2, 0x1001F)]

theorem witness_QueueResults : (∀ i ∈ [insnRrr .qstat (rrr 31 0 2), insnRrr .qpush (rrr 31 1 2), insnRrr .qpop (rrr 31 1 2)],
    Executes sQueue sQueue x2 i) ∧ sQueue.qOn 31 = true ∧ sQueue.mayPush (.rc 2) 31 = true ∧ sQueue.mayPop (.rc 2) 31 = true ∧
    State.reset.mayPush (.rc 2) 31 = false ∧ sQueue.esize 31 = 256 ∧ sQueue.msgs 31 = [] ∧ sQueue.get (R.QUEUE_CFG_DEPTH 31) = 4 ∧
    (xlate 2 (sQueue.core 2) 0 0xAFFF00).1 = 0 ∧ (xlate 2 (sQueue.core 2) 1 0xAFFF00).1 = 0 ∧
    memAt 0xAFFF00 = some .shared ∧ memAt 0xAFFFFF = some .shared ∧ sQueue.marked 0xAFFF00 = false ∧ sQueue.ecc = [] ∧
    sQueue.pdStill 3 = false ∧ bitAt (csrOf (sQueue.core 2) 0) 7 = false ∧ gReg (sQueue.core 2) 2 &&& 0xFFFE00E0 = 0 ∧
    sQueue.queueAt 0xAFFF00 = none :=
  ⟨all_execute_of rfl (by decide), by decide, by decide, by decide, by decide, by decide, by decide, by decide, by decide,
    by decide, by decide, by decide, by decide, by decide, by decide, by decide, by decide, by decide⟩

/-- The same with a message of four bytes in the queue. -/
theorem witness_QueueResultsPop : Executes (sQueue.setMsgs 31 [[1, 2, 3, 4]]) (sQueue.setMsgs 31 [[1, 2, 3, 4]]) x2
    (insnRrr .qpop (rrr 31 1 2)) ∧ (sQueue.setMsgs 31 [[1, 2, 3, 4]]).msgs 31 = [[1, 2, 3, 4]] ∧
    (sQueue.setMsgs 31 [[1, 2, 3, 4]]).qOn 31 = true ∧ (sQueue.setMsgs 31 [[1, 2, 3, 4]]).mayPop (.rc 2) 31 = true ∧
    (∀ j < 4, memAt (0xAFFF00 + j) = some .shared ∧ (sQueue.setMsgs 31 [[1, 2, 3, 4]]).marked (0xAFFF00 + j) = false ∧
      (sQueue.setMsgs 31 [[1, 2, 3, 4]]).queueAt ((0xAFFF00 + j) / 4 * 4) = none) :=
  ⟨executes_of rfl (by decide), by decide, by decide, by decide, by decide⟩

/-! ### The hypotheses of each statement are met: the device -/

/-- The state after reset. -/
def s0 : State := .reset

/-- PD3 does not run. -/
def sDark : State := s0.setPd 3 1

/-- Some timers started at 0 and a long time has passed. -/
def ran (s : State) (l : List Timer) : State := { s with upNs := 10 ^ 14, timers := l.map (fun i => (i, 0)) }

theorem witness_ClockCommands : s0.r45 = true ∧ s0.refLost = false ∧ (s0.setSyn 0 { s0.syn 0 with waitRef := true }).refLost = true ∧
    (let nom := s0.get R.CLK_REF_NOM
     98 * nom ≤ 100 * nom ∧ 100 * nom ≤ 102 * nom ∧ 0 < nom ∧ nom < 65536) ∧ s0.lockStood 3 = false ∧
    ((ran s0 [.locked 3]).raise (R.CLK_SYN_STAT_LOCK 3)).lockStood 3 = true ∧
    s0.past (.updated 3) 5000000 = false ∧ (ran s0 [.updated 3]).past (.updated 3) 5000000 = true ∧
    (let x := s0.syn 3
     0 ≤ (x.acc.1 : Int) + x.frac + 0 ∧ (x.acc.1 : Int) + x.frac + 0 < 2 ^ 25 ∧ x.acc.2.1 < 2 ^ 24 ∧ x.acc.2.2 < 2 ^ 24 ∧
       ∀ k ∈ [x.carry.1, x.carry.2.1, x.carry.2.2], k = 0 ∨ k = 1) := by decide

theorem witness_ClockUpdates : s0.pdRun 3 = true ∧ sDark.pdRun 3 = false ∧ 0 ∈ s0.refUsers false ∧ 2 ∉ s0.refUsers false ∧
    2 ∈ s0.refUsers true ∧ s0.bypassed 3 = false ∧ (s0.raise (R.CLK_SYN_STAT_LOCK 3)).on (R.CLK_SYN_STAT_LOCK 3) = true ∧
    s0.on (R.CLK_SYN_STAT_LOCK 3) = false ∧ s0.on (R.CLK_SYN_STAT_UPDP 3) = false ∧
    ((s0.raise (R.CLK_SYN_STAT_UPDP 3)).raise (R.CLK_SYN_STAT_STABLE 3)).on (R.CLK_SYN_STAT_UPDP 3) = true ∧
    (s0.raise (R.CLK_SYN_STAT_BYP 3)).on (R.CLK_SYN_STAT_BYP 3) = true ∧ s0.on (R.CLK_SYN_STAT_STABLE 3) = false ∧
    (let d := s0.rd (R.CLK_SYN_DIV 3)
     dividersOk 3 (s0.fref 3) (fieldOf d 30 28 + 1) (fieldOf d 9 0) (s0.get (R.CLK_SYN_FRAC_F 3)) (fieldOf d 25 20) = true) ∧
    dividersOk 3 (s0.fref 3) 1 0 0 0 = false := by decide

theorem witness_TimeCommands : s0.pdRun 3 = true ∧ s0.on R.TIME_STAT_TSTATE = false ∧
    (s0.raise R.TIME_STAT_TSTATE).on R.TIME_STAT_TSTATE = true ∧ (s0.raise R.TIME_STAT_TSYN).on R.TIME_STAT_TSYN = true ∧
    s0.past .synced (max 1 (s0.get R.TIME_CTRL_HOLD) * 1000000000) = false ∧
    (ran s0 [.synced]).past .synced (max 1 (s0.get R.TIME_CTRL_HOLD) * 1000000000) = true := by
  decide

/-- The host's write of a leg register is held. -/
def sHeld : State := { s0 with host := { s0.host with held := some ⟨R.GATE_LEG_CFG 31, true, 5, 15, false, 0, false, false⟩ } }

theorem witness_HostAccesses : s0.pdRun 3 = true ∧ s0.host.held = none ∧ sHeld.pdRun 3 = true ∧ s0.qOn 31 = false ∧
    sQ.qOn 31 = true ∧ memAt 0xFFFFFFFC = none ∧ regAt 0xFFFFFFFC = none ∧ (s0.setPd 12 0).pdRun 12 = false ∧
    (s0.setPd 12 0).pdOpen (pdOfReg (R.GATE_LEG_CFG 31)) = false ∧ memAt (R.GATE_LEG_CFG 31) = none ∧ s0.pdOpen 0 = true ∧
    sHeld.past .hold (max 1 (sHeld.get R.HOST_CFG_HOLDTO) * 1000) = false ∧
    (ran sHeld [.hold]).past .hold (max 1 (sHeld.get R.HOST_CFG_HOLDTO) * 1000) = true := by decide

theorem witness_HostQueues : s0.on R.HOST_CFG_SPIEN = true ∧ (s0.clear R.HOST_CFG_SPIEN).on R.HOST_CFG_SPIEN = false ∧
    s0.mayPush .host 31 = false ∧ sQ.mayPush .host 31 = true ∧ sQ.mayPop .host 31 = true ∧ sQ.qOn 31 = true ∧
    sQ.esize 31 = 256 ∧ (sQ.put (R.QUEUE_CFG_ESZ 31) 0).esize 31 = 4 ∧ sQ.msgs 31 = [] ∧
    (sQ.setMsgs 31 [[1], [2], [3], [4]]).msgs 31 = [[1], [2], [3], [4]] ∧ sQ.get (R.QUEUE_CFG_DEPTH 31) = 4 ∧
    (sQ.clear (R.QUEUE_CFG_EN 31)).qMayEnable 31 = true ∧ (sQ.clear (R.QUEUE_CFG_EN 31)).qOn 31 = false ∧
    (s0.put (R.QUEUE_CFG_DEPTH 31) 3).qMayEnable 31 = false := by decide

/-- A state of channel 47, calibrated. -/
def sChan (st : Nat) : State := (s0.put (chState (.dir 47)) st).raise R.BATTEN_CAL_CALDONE

theorem witness_BattenStates : s0.pdRun 12 = true ∧ (∀ k < 8, s0.bcState k = 0) ∧ s0.enableRefused (.dir 47) = true ∧
    (sChan 0).enableRefused (.dir 47) = false ∧ (sChan 0).enableRefused (.rem 143) = false ∧
    (∀ k < 5, (sChan k).get (chState (.dir 47)) = k) ∧ (s0.setPd 4 3).pdState 4 ≠ 2 ∧ s0.pdState 15 = 2 ∧
    (sChan 3).pinsLow (.dir 47) = true ∧
    ((sChan 3).setBch 47 { s0.bch 47 with lp := true }).pinsLow (.dir 47) = false := by decide

/-- An epoch of core 8 waits. -/
def sEpoch : State := s0.setEpochs 8 [⟨8, 0, [⟨0, 47, 9⟩], false, none⟩]

theorem witness_BattenValues : (valReg (.dir 47) .period).isSome = true ∧ (sChan 2).get (chState (.dir 47)) ≠ 0 ∧
    s0.get (chState (.dir 47)) = 0 ∧ s0.epochsOf 8 = [] ∧ sEpoch.epochsOf 8 ≠ [] ∧ s0.on R.BATTEN_CFG_BGCAL = true ∧
    (s0.clear R.BATTEN_CFG_BGCAL).on R.BATTEN_CFG_BGCAL = false ∧ s0.on R.BATTEN_CAL_CALDONE = false ∧
    (sChan 0).on R.BATTEN_CAL_CALDONE = true ∧ s0.chUp false = true ∧ s0.bat.clkLoss = false ∧ s0.pdState 12 = 2 := by decide

theorem witness_BattenPeriods : s0.pdRun 12 = true ∧ s0.swapping = false ∧ s0.get R.CFGSET_STAT_STATE ≠ 1 ∧
    (s0.put R.CFGSET_STAT_STATE 1).atBoundary = false ∧ (∀ k < 8, s0.bcState k = 0) ∧ s0.rlMaster 143 < 48 ∧
    48 ≤ (s0.put (R.BATTEN_RL_CTRL_MASTER 143) 63).rlMaster 143 ∧ (sChan 1).get (chState (.dir 47)) = 1 ∧
    s0.get (R.BATTEN_CH_CTRL_SYNCSRC 47) ≠ 1 := by decide

/-- Channel 47 runs, its pulse active, one transition to come, in PCM mode with its comparator active and a blanking window. -/
def sPulse : State :=
  ((((sChan 2).put (chMode (.dir 47)) 2).raise (R.CMP_STAT_OUT 94)).put (R.BATTEN_CH_CTRL_SYNCSRC 47) 2).setBch 47
    { s0.bch 47 with lp := !s0.on (chPol (.dir 47)), lastLp := !s0.on (chPol (.dir 47)), sched := [⟨0, true, true⟩], miss := 256,
                      trigAt := some 7 }

/-- The same with a blanking window open. -/
def sBlank : State := sPulse.setBch 47 { sPulse.bch 47 with blank := true }

/-- The same with an edge sequence under way, its first change over or not. -/
def sEdge (moved : Bool) : State := sPulse.setBch 47 { sPulse.bch 47 with edge := some ⟨true, 4, some 8, moved⟩ }

theorem witness_BattenEdges : sPulse.pdRun 12 = true ∧ s0.get (chState (.dir 47)) ≠ 2 ∧ (sPulse.bch 47).trigAt = some 7 ∧
    (s0.bch 47).trigAt = none ∧ (s0.brl 143).trigs = [] ∧ (sPulse.bch 47).edge = none ∧
    (∀ b, ((sEdge b).bch 47).edge = some ⟨true, 4, some 8, b⟩) ∧ ((sEdge false).put (chState (.dir 47)) 3).get (chState (.dir 47)) = 3 ∧
    (s0.bch 47).sched = [] ∧
    ((s0.setBrl 143 { s0.brl 143 with trigs := [5] }).brl 143).trigs = [5] ∧
    sPulse.get (chState (.dir 47)) = 2 ∧ (sPulse.bch 47).sched = [⟨0, true, true⟩] ∧ (sPulse.bch 47).starting = false ∧
    sPulse.get (chMode (.dir 47)) = 2 ∧ (sPulse.bch 47).lastLp = !sPulse.on (chPol (.dir 47)) ∧ (sPulse.bch 47).endBy = 0 ∧
    (sPulse.bch 47).blank = false ∧ sPulse.on (R.CMP_STAT_OUT 94) = true ∧ (sBlank.bch 47).blank = true ∧
    (sBlank.leg 47).test = 0 ∧ sPulse.get (R.BATTEN_CH_CTRL_SYNCSRC 47) = 2 ∧ (sPulse.bch 47).miss = 256 ∧
    s0.get (R.BATTEN_CH_CTRL_SYNCSRC 47) < 2 ∧ s0.rlMaster 143 < 48 := by decide

/-- A strength line in a cycle, a leg that holds, a measurement armed, and self-tests of a leg and of a window. -/
def sLegs : State :=
  { ((s0.raise (R.GATE_SL_CFG_EN 5)).put (R.GATE_LEG_STAT_PSTATE 47) 1) with
    legs := [(0, { s0.leg 0 with arm := some (true, true) }), (46, { s0.leg 46 with test := 3 }), (47, { s0.leg 47 with named := true })],
    sls := [(5, { s0.sl 5 with busy := true })], wins := [(15, { s0.win 15 with test := some true })] }

theorem witness_LegFrames : sLegs.pdRun 12 = true ∧ (sLegs.leg 0).arm = some (true, true) ∧ (s0.leg 0).arm = none ∧
    sLegs.on (R.GATE_SL_CFG_EN 5) = true ∧ (sLegs.sl 5).busy = true ∧ s0.on (R.GATE_SL_CFG_EN 5) = false ∧ (s0.sl 5).busy = false ∧
    (∀ k < 8, sLegs.bcState k = 0) ∧ sLegs.pstate 47 = 1 ∧ (sLegs.leg 46).test ≠ 0 ∧ (sLegs.win 15).test ≠ none ∧
    s0.get (chState (.dir 47)) = 0 ∧ (s0.leg 47).test = 0 ∧ (s0.win 15).test = none := by decide

/-- Legs 0 and 47 have tripped, and group 15 triggers on both. -/
def sTrip : State :=
  ((((s0.raise (R.GATE_LEG_STAT_NTRIP 0)).raise (R.GATE_LEG_STAT_HTRIP 47)).raise (R.GATE_GRP_HI_EN 15)).raise
    (R.GATE_GRP_HI_TRG 15)).put (R.GATE_GRP_HI_MASK 15) 0x8000

theorem witness_LegTrips : sTrip.pdRun 12 = true ∧ sTrip.tripsDue false ++ sTrip.tripsDue true = [0, 47] ∧
    s0.tripsDue false ++ s0.tripsDue true = [] ∧ sTrip.on (R.GATE_GRP_HI_EN 15) = true ∧ (sTrip.grpMask 15).testBit 47 = true ∧
    sTrip.on (R.GATE_GRP_HI_TRG 15) = true ∧ (sLegs.pstate 47 = 1 ∧ (sLegs.leg 47).named = true) ∧
    (s0.put (R.GATE_LEG_STAT_PSTATE 47) 2).pstate 47 = 2 ∧ (s0.put (R.GATE_LEG_STAT_PSTATE 47) 3).pstate 47 = 3 ∧
    s0.shuntQuiet 47 = true ∧ (s0.raise (R.CMP_STAT_OUT 94)).shuntQuiet 47 = false := by decide

/-- Input 23 and clock 7 work, the input freezes after one value and has settled; context 64 asks for its component. -/
def sMod : State :=
  { (((((sCtx.raise (R.MOD_MCK_CFG_EN 7)).raise (R.MOD_MD_CFG_EN 23)).put (R.MOD_MD_DET_FRZK 23) 1).raise
      (R.MOD_MD_STAT_STL 23)).put (R.MOD_MD_CFG_CKSEL 23) 7).setSense 2 [⟨64, 5, [(0, 23, some 9)]⟩] with
    mds := [(23, ⟨[true], 15, [1], [], none, some 0, 0⟩)], mcks := [(7, ⟨true, 3, 0⟩)] }

/-- Context 64 waits for the real vector of an event of stamp 5. -/
def sAwait : State := sMod.setCtx 64 { sMod.ctx 64 with waits := [⟨5, [], false⟩] }

theorem witness_FrontInputs : sMod.pdRun 13 = true ∧ sMod.on (R.MOD_MCK_CFG_EN 7) = true ∧ s0.on (R.MOD_MCK_CFG_EN 7) = false ∧
    sMod.on (R.MOD_MD_CFG_EN 23) = true ∧ s0.on (R.MOD_MD_CFG_EN 23) = false ∧ sMod.get (R.MOD_MD_DET_FRZK 23) ≠ 0 ∧
    (s0.clear (R.MOD_MD_DET_FRZK 23)).get (R.MOD_MD_DET_FRZK 23) = 0 ∧ sMod.on (R.MOD_MD_STAT_STL 23) = true ∧ sMod.get (R.MOD_MD_CFG_CKSEL 23) = 7 ∧
    sMod.isCfg 64 = true ∧ s0.isCfg 64 = false ∧ (sMod.core 2).stalled = none ∧ (sMod.mdComps 64).length = 1 ∧
    sMod.senseOf 2 ≠ [] ∧ s0.senseOf 2 = [] ∧ (s0.setPd 6 3).pdOpen 6 = false ∧ sMod.pdOpen 6 = true ∧ sMod.mckIsDead 7 = true ∧
    (sMod.mck 7).good = 3 ∧ (∀ x ∈ sMod.senseOf 2, ∀ p ∈ x.parts, p.2.2 ≠ none) ∧
    (∃ x ∈ (sMod.setSense 2 [⟨64, 5, [(0, 23, none)]⟩]).senseOf 2, ∃ p ∈ x.parts, p.2.2 = none) ∧ (sAwait.ctx 64).waits ≠ [] ∧
    (sMod.md 23).dec = some 0 ∧ (sMod.md 23).edges = 15 := by decide

/-- Comparator 95 has settled, comparator 94 has not since the reset; window 15 is in fault and outside its band. -/
def sCmp : State :=
  { ((((s0.raise (R.CMP_WIN_CFG_EN 15)).raise (R.CMP_WIN_STAT_FLT 15)).raise (R.CMP_WIN_STAT_OUTL 15)).setCmp (.leg 95)
      ⟨0, true, 0, 0, none⟩).setCmp (.hard 47) ⟨0, false, 0, 0, none⟩ with
    wins := [(15, { s0.win 15 with act := some 0 })], upNs := 10 ^ 14 }

/-- The housekeeping ADC converts channel 31, its start-up over. -/
def sHadc : State := { s0.raise R.HADC_STAT_BUSY with hadc := ⟨31, [], true, false⟩ }

theorem witness_FrontComparators : sCmp.pdRun 13 = true ∧ (sCmp.cmpEnabled (.leg 95) = true ∧ (sCmp.cmp (.leg 95)).settling = 0 ∧
    sCmp.cmpTested (.leg 95) = false ∧ sCmp.cmpSide (.leg 95) (10 ^ 12) = some true ∧ sCmp.cmpSide (.leg 95) (sCmp.cmpCode (.leg 95) * 1171875) = none) ∧
    ((sCmp.cmp (.hard 47)).settling = 0 ∧ (sCmp.leg 47).test ≠ 2) ∧ (s0.clear (R.CMP_CFG_EN 95)).cmpEnabled (.leg 95) = false ∧ sCmp.on (cmpOut (.leg 95)) = false ∧
    s0.cmpEnabled (.hard 47) = true ∧ (sCmp.cmpEnabled (.leg 94) = true ∧ (sCmp.cmp (.leg 94)).settling = 1) ∧
    s0.cmpOwned 94 = false ∧ (sPulse.bch 47).blank = false ∧
    ((s0.raise (R.CMP_CFG_RAMPEN 95)).put (R.CMP_CFG_RCH 95) 47).get (R.CMP_CFG_RCH 95) < 48 ∧
    (sCmp.on (R.CMP_WIN_CFG_EN 15) && (!sCmp.on (R.CMP_WIN_CFG_WMODE 15) && sCmp.winOutside 15 && sCmp.winQual 15) && (sCmp.win 15).test.isNone) = true ∧
    sCmp.on (R.CMP_WIN_STAT_FLT 15) = true ∧ s0.on (R.CMP_WIN_STAT_FLT 15) = false ∧ s0.on (R.CMP_WIN_CFG_EN 15) = false ∧
    s0.on R.HADC_STAT_BUSY = false ∧ sHadc.on R.HADC_STAT_BUSY = true ∧ sHadc.hadc.up = true ∧ sHadc.hadc.cur = 31 ∧
    (s0.dacCode 0).isSome = true ∧
    (((s0.raise (R.CMP_CFG_RAMPEN 95)).setCmp (.leg 95) ⟨0, true, 0, 0, none⟩).cmp (.leg 95)).due = true ∧
    (s0.raise (R.CMP_CFG_RAMPEN 95)).on (R.CMP_CFG_RAMPEN 95) = true ∧ (s0.leg 47).test = 0 ∧
    s0.get R.HADC_CTRL_RATE < 10 ∧ (s0.put R.HADC_CTRL_RATE 10).get R.HADC_CTRL_RATE = 10 ∧ s0.get R.HADC_CTRL_MODE ≠ 2 ∧
    (s0.put R.HADC_CTRL_MODE 2).get R.HADC_CTRL_MODE = 2 := by decide

/-- Converter 7 on legs 42 to 47, in a state, its counts of shed and add high, one phase failed to open. -/
def sConv (st : Nat) : State :=
  (((s0.wr (R.BOOST_BC_CFG 7) 0x55888010).put (R.BOOST_BC_STAT_STATE 7) st).put (R.BOOST_BC_PHSTAT_ACT 7) 0x1F).setBc 7
    { s0.bc 7 with shCnt := 255, adCnt := 255, shed := if st = 2 then some 5 else none, shedDue := true,
                   add := if st = 3 then some 5 else none, ctRun := [(4, 255)] }

/-- Its maximum-power engine runs, a scan held and an interval over. -/
def sMpp : State := ran ((sConv 1).setMpp 7 { (sConv 1).mpp 7 with on := true, held := true }) []

/-- A cross-check window of it has ended: the monitor found an estimate as given over one sample. -/
def sCross (est : Int) : State :=
  ((sConv 1).raise (R.BOOST_BC_XCHK_XEN 7)).setBc 7 { (sConv 1).bc 7 with done := some ⟨1, false, est, (0, 1), []⟩ }

theorem witness_ConverterStates : (sConv 0).pdRun 12 = true ∧ (∀ k < 4, (sConv k).bcState 7 = k) ∧ (sConv 0).bcNph 7 = 6 ∧
    (sConv 0).bcRefused 7 = false ∧ ((sConv 0).put (R.BOOST_BC_CFG_NPH 7) 7).bcRefused 7 = true ∧
    ((sConv 1).bcActs 7).getLast? = some 4 ∧ ((sConv 2).bc 7).shed = some 5 ∧ ((sConv 2).bc 7).shedDue = true ∧
    ((sConv 3).bc 7).add = some 5 ∧ ((sConv 3).put (R.BATTEN_CH_STAT_STATE 47) 2).get (R.BATTEN_CH_STAT_STATE 47) = 2 ∧
    ((sConv 1).bcOk 7).filter (fun j => !(sConv 1).bcActive 7 j) = [5] ∧ (sConv 1).bcActive 7 4 = true ∧ (sMpp.mpp 7).on = true ∧
    (sMpp.mpp 7).held = true ∧ sMpp.scanSoon 7 = false ∧ s0.mppRefused 7 = false ∧
    (s0.put (R.BOOST_BC_MCFG_NSC 7) 0).mppRefused 7 = true ∧ ((sConv 1).bc 7).done = none ∧
    (∀ e ∈ [(0 : Int), 10 ^ 9], ∃ w, ((sCross e).bc 7).done = some w ∧ w.bad = false ∧ w.n = 1 ∧ w.est = e ∧ w.mon = (0, 1)) ∧
    (sCross 0).on (R.BOOST_BC_XCHK_XEN 7) = true ∧ (sCross 0).bcState 7 = 1 ∧ (sCross 0).get (R.BOOST_BC_XTOL_XTOL 7) < 10 ^ 9 ∧
    (sMpp.mpp 7).t0 + 1000000 * sMpp.get (R.BOOST_BC_MCFG_TMPP 7) ≤ sMpp.upNs ∧ (sMpp.mpp 7).inv = false ∧
    s0.upNs < ((sConv 1).mpp 7).t0 + 1000000 * ((sConv 1).put (R.BOOST_BC_MCFG_TMPP 7) 9).get (R.BOOST_BC_MCFG_TMPP 7) := by
  refine ⟨by decide, by decide, by decide, by decide, by decide, by decide, by decide, by decide, by decide, by decide, by decide,
    by decide, by decide, by decide, by decide, by decide, by decide, by decide, ?_, by decide⟩
  intro e m
  simp only [List.mem_cons, List.not_mem_nil, or_false] at m
  rcases m with rfl | rfl <;> exact ⟨_, rfl, by decide⟩

/-- Unit 7 works with reports, harmonics and a schedule, 100 s into the time base. -/
def sUnit : State :=
  { (((s0.raise (R.RAFTER_PU_CFG_EN 7)).raise (R.RAFTER_PU_CFG_HEN 7)).raise (R.RAFTER_PU_ISCFG_IEN 7)).put
      (R.RAFTER_PU_ISPER_PER 7) 2000 with
    time := ⟨101, 3000000, 0, []⟩,
    pus := [(7, { since := 0, rocRun := 0, fRun := 0, th1 := some 1, th2 := some 2, sched := ⟨1, 2000, 0, 5, 1⟩,
                  chans := [(0, [⟨100000, 5, false⟩, ⟨50000, 5, false⟩])], vBad := none })] }

theorem witness_PhasorUnits : sUnit.pdRun (pdOfRc 7) = true ∧ sUnit.on (R.RAFTER_PU_CFG_EN 7) = true ∧
    s0.on (R.RAFTER_PU_CFG_EN 7) = false ∧ sUnit.cycles 7 1 ≤ sUnit.nowNs ∧ sUnit.on (R.RAFTER_PU_CFG_QEN 7) = false ∧
    sUnit.on (R.RAFTER_PU_CFG_HEN 7) = true ∧ s0.on (R.RAFTER_PU_CFG_HEN 7) = false ∧
    (sUnit.on (R.RAFTER_PU_ISCFG_IEN 7) = true ∧ schedOk (sUnit.pu 7).sched = true ∧
      windowAt (sUnit.pu 7).sched 0 + sUnit.cycles 7 4 ≤ sUnit.nowNs) ∧ (sUnit.pu 7).since + sUnit.cycles 7 2 ≤ sUnit.nowNs ∧
    sUnit.puChbad 7 = 0x3F ∧ sUnit.on (R.RAFTER_PU_PADDR_PWEN 7) = false ∧
    (sUnit.raise (R.RAFTER_PU_PADDR_PWEN 7)).on (R.RAFTER_PU_PADDR_PWEN 7) = true ∧ schedOk (sUnit.puSched 7) = true ∧
    (∀ k < 6, ((sUnit.puSmps 7 k).map (·.t)).Pairwise (· > ·) ∧ ∀ y ∈ sUnit.puSmps 7 k, y.t % 50000 = 0) ∧
    sUnit.windowHeld 7 = true ∧ ({ sUnit with time := ⟨102, 0, 0, []⟩ } : State).windowHeld 7 = false ∧ sUnit.lawCtx = none := by
  decide

/-- Context 64 with a coefficient area that holds a grid parameter record; the sequencer is in a state. -/
def sGrid (st : Nat) : State :=
  { sCtx with
    mem := [(0x210000, 0x01), (0x210002, 0x50), (0x210003, 0x47), (0x27C000, 0x01), (0x27C002, 0x88), (0x27C003, 0x80),
      (0x27C009, 0x80), (0x27C00B, 0x20)], seq := { s0.seq with st := st, relayReq := true, harm := some (true, 0) },
    upNs := 10 ^ 14 }

/-- The same with a message of the host, or of the law, in queue 0, which the record names for all three of its queues. -/
def sGridMsg (st : Nat) (m : List Byte) (e : LawEvent) : State :=
  let s := (((sGrid st).wr (R.QUEUE_CFG 0) 0xF83F0004).wr (R.QUEUE_BASE 0) 0xA00000).wr (R.QUEUE_RIGHTS 0) 0x07FF07FF
  { s.setMsgs 0 [m] with law := { s.law with events := [(e, false)] } }

theorem witness_ConnectionSequencer : (sGrid 7).lawCtx = some 64 ∧ s0.lawCtx = none ∧ (sGrid 0).pdRun 3 = true ∧
    (∀ k < 8, (sGrid k).seq.st = k) ∧ (sGrid 7).gridOk 64 = false ∧ ((sGrid 1).seq.timer + 2000000000 ≤ (sGrid 1).upNs) ∧
    (∀ k < 8, k ≠ 0 → let s := sGridMsg 0 (BitVec.ofNat 8 k :: List.replicate 15 0) .locked
      s.msgs 0 = [BitVec.ofNat 8 k :: List.replicate 15 0] ∧ s.mayPop .sc0 0 = true ∧ s.qOn 0 = true ∧
      fieldOf s.qsel 20 16 = 0 ∧ fieldOf s.qsel 12 8 = 0) ∧ fieldOf s0.qsel 20 16 = 2 ∧ s0.msgs 2 = [] ∧
    (∀ e ∈ [LawEvent.locked, .rideIn, .rideOut, .violated, .rampDone], (sGridMsg 2 [0] e).lawEvents = [(e, false)]) ∧
    s0.lawEvents = [] ∧ (sGrid 4).seq.harm = some (true, 0) ∧ ((sGrid 4).raise (R.RAFTER_PU_CFG_HEN 2)).on (R.RAFTER_PU_CFG_HEN 2) = true ∧
    (({ sGrid 2 with pus := [(2, { s0.pu 2 with vBad := some 5 })] } : State).pu 2).vBad = some 5 ∧
    ((sGrid 3).raise (R.RAFTER_PU_STAT_ISL 2)).on (R.RAFTER_PU_STAT_ISL 2) = true ∧
    (∀ ch ∈ (sGrid 6).boundChans 64, (sGrid 6).get (chState ch) = 0) ∧ (∀ c < 4, (sGrid 6).on (R.SAFE_RC_RBH c) = false ∧
    (sGrid 6).on (R.SAFE_RC_RBL c) = false) ∧ (sGrid 4).on (R.RAFTER_PU_CFG_HEN 2) = false := by decide

/-- Instance 1 runs with a quantum, a block of two samples and an interval to close; pulse output 3 is due, output 2 active. -/
def sMeter : State :=
  { ((((((s0.raise (R.METER_CTRL_EN 1)).raise (R.METER_STAT_RUN 1)).wr (R.METER_QL 1) 1).put (R.METER_CTRL_NEL 1) 3).raise
      (R.METER_PLS_EN 3)).put (R.METER_PLS_PEND 3) 1) with
    meters := [(1, { s0.meter 1 with blk := { (s0.meter 1).blk with start := some 0, n := 2 }, closing := [⟨0, [], [], 0⟩] })],
    met := { s0.met with pls := [(2, { s0.pulse 2 with active := true, start := some 0, width := 40000000 })],
                         decs := [(24, ⟨[], 0, [], some (7, 5)⟩)] },
    time := ⟨1900, 9000000, 0, []⟩, upNs := 10 ^ 14 }

theorem witness_MeterEnergy : sMeter.pdRun 15 = true ∧ sMeter.on (R.METER_STAT_RUN 1) = true ∧ s0.on (R.METER_STAT_RUN 1) = false ∧
    sMeter.pdRun 13 = true ∧ sMeter.quantum 1 = 1 ∧ sMeter.swapping = false ∧ (sMeter.meter 1).blk.start = some 0 ∧
    (sMeter.meter 1).blk.n = 2 ∧ (∀ e < 3, tblGet (fun _ => 0) (sMeter.meter 1).blk.v2 e < 2 * 2 ^ 64 ∧
      tblGet (fun _ => 0) (sMeter.meter 1).blk.i2 e < 2 * 2 ^ 64) ∧ (sMeter.meter 1).closing ≠ [] ∧ (s0.meter 1).closing = [] ∧
    sMeter.decStamp 1 = some 7 ∧ (sMeter.meter 1).taken = none ∧ 0 + 208000000 ≤ sMeter.nowNs ∧
    (sMeter.boundAt 1 0 + sMeter.ivLen 1) * 1000000000 + 408000000 ≤ sMeter.nowNs ∧ s0.decStamp 1 = none := by
  decide

theorem witness_MeterService : sMeter.pdRun 15 = true ∧ (sMeter.on (R.METER_PLS_EN 3) = true ∧ (sMeter.pulse 3).active = false ∧
    (sMeter.pulse 3).stop = none ∧ sMeter.get (R.METER_PLS_PEND 3) ≠ 0) ∧ (sMeter.pulse 2).active = true ∧
    sMeter.on (R.METER_CTRL_EN 1) = true ∧ s0.on (R.METER_CTRL_EN 0) = false ∧ s0.meterOk 0 = false ∧ sMeter.metersOn = [1] ∧
    s0.metersOn = [] ∧ sMeter.eaves.on = true ∧ sMeter.on R.METER_CKSTAT_EWM = false ∧
    (sMeter.raise R.METER_CKSTAT_EWM).on R.METER_CKSTAT_EWM = true ∧ s0.ckNewest = none ∧
    (8000000 ≤ sMeter.time.ns ∧ sMeter.met.ckSec ≠ some sMeter.time.sec) ∧
    (sMeter.raise R.SYSCTL_SUPPLY_EWV).on R.SYSCTL_SUPPLY_EWV = true ∧
    ((sMeter.pulse 2).start = some 0 ∧ 0 + (sMeter.pulse 2).width ≤ sMeter.upNs) ∧ s0.met.restored = false := by decide

/-- A checkpoint of the power-loss kind in slot 0 whose check sequence holds. -/
def sCkpt : State :=
  let w : List Word := (1 : Word) :: List.replicate 2 0 ++ [1] ++ List.replicate 129 0
  let s := s0.putWords (ckBase 0) w
  s.putWords (ckBase 0 + 532) [BitVec.ofNat 32 (crc32 (wordsBytes w))]

/-- In operation, function 7 enabled with a manual restart by input 15, in demand with CHDLY over; subscription 3 works. -/
def sSafe : State :=
  ((((((s0.put R.SAFE_STAT_STATE 3).wr (R.SAFE_PAR (sfWord 7 2)) 0x83).wr (R.SAFE_PAR (sfWord 7 3)) 0x3F).put
    R.SAFE_SF_DEMW 0x80).put R.SAFE_SF_DEMF 0x80).raise (R.SAFE_RX_STAT_EN 3)).raise (R.SAFE_TX_CTRL_EN 3)

/-- Source 3 is driven low and was not followed before; pair 7 is discrepant; Batten's clock loss is in force. -/
def sPair : State :=
  { (s0.wr (R.SAFE_PAR 31) 1) with
    safe := { s0.safe with inW := 0x4000, tpLow := 8, tpBad := [(3, 1)], drv := 0xFF }, bat := { s0.bat with clkLoss := true } }

theorem witness_SafetyFunctions : s0.chUp true = true ∧ s0.chUp false = true ∧ (s0.setPd 2 1).chUp true = false ∧
    sSafe.sfEn 7 = true ∧ sSafe.sfDem true 7 = true ∧ sSafe.sfTrig true 7 = false ∧ (sSafe.sfRun true).testBit 7 = false ∧
    sSafe.sfRman 7 = true ∧ sSafe.sfRsrc 7 = true ∧ sSafe.sfRsi 7 = 15 ∧ (sSafe.sfRst true).testBit 7 = false ∧
    sPair.safe.tpLow.testBit 3 = true ∧ tblGet (fun _ => 0) sPair.safe.tpBad 3 = 1 ∧ sPair.pairOdd true 7 = true ∧
    s0.pairOdd true 7 = false ∧ (ran sPair [.disc true 7]).timerAt (.disc true 7) = some 0 ∧
    1000000 * (ran sPair [.disc true 7]).spr 31 15 8 ≤ (ran sPair [.disc true 7]).upNs ∧
    ({ sSafe with safe := { sSafe.safe with runW := 0x80 } }.sfRun true).testBit 7 = true ∧
    (ran sSafe [.chdly true 7]).timerAt (.chdly true 7) = some 0 ∧
    1000000 * sSafe.sfChdly 7 ≤ (ran sSafe [.chdly true 7]).upNs ∧
    (let s := (s0.wr (R.SAFE_PAR 3) 0x00140064)
     let per := 1000000 * s.spr 3 31 16
     let e := (s.upNs - (s.timerAt .cycle).getD 0) % per
     s.safe.tpLow.testBit 0 = false ∧ 0 * per / 4 ≤ e ∧ e < 0 * per / 4 + 1000 * s.spr 3 15 0) ∧
    (ran sPair [.pulse 3]).timerAt (.pulse 3) = some 0 ∧ sSafe.sfSpi 7 = true ∧ (sPair.bat.clkLoss = true ∧ sPair.pdRun 12 = true) ∧
    ((sSafe.clear R.SAFE_SF_DEMF).permit false) = true := by decide

theorem witness_SafetyChains : s0.pdRun 2 = true ∧ s0.on R.SYSCTL_FUSESTAT_TRIMFAIL = false ∧ sPair.safe.drv.testBit 7 = true ∧
    sPair.darkOf 7 = 0 ∧ (let s := ran { s0 with safe := { s0.safe with drv := 0xC0 } } []
      s.chUp true = true ∧ s.safe.drv.testBit 6 = true ∧ s.safe.drv.testBit 7 = true ∧ s.darkOf 6 = 0 ∧
        max ((s.timerAt (.switch 6)).getD 0) ((s.timerAt (.switch 7)).getD 0) + 100000000 * s.spr 76 15 8 ≤ s.upNs) ∧
    (let s : State := { ran { s0 with safe := { s0.safe with drv := 0xC0 } } [] with timers := [(.dark 6, 1)] }
     (s.timerAt (.switch 6)).getD 0 < 1 ∧ (s.timerAt (.dark 7)).getD 0 < (s.timerAt (.dark 6)).getD 0 ∧
       (s.timerAt (.dark 6)).getD 0 + 100000000 * s.spr 76 15 8 / 2 ≤ s.upNs) ∧
    (∀ i ∈ [Timer.disag, .heartbeat, .window 31, .lock, .par], (ran s0 [i]).timerAt i = some 0) ∧
    (ran s0 []).timerAt (.window 31) = none ∧ s0.safe.winBy = 0 ∧
    ({ s0 with safe := { s0.safe with lockDue := true, loaded := true } } : State).safe.lockDue = true ∧
    ({ s0 with safe := { s0.safe with lockDue := true, loaded := true } } : State).safe.loaded = true ∧
    s0.chUp true = true ∧ s0.locked = false ∧ (s0.put R.SAFE_STAT_STATE 4).locked = true ∧ (s0.wr (R.SAFE_PAR 76) 0x200001).spr 76 0 0 = 1 ∧ (s0.wr (R.SAFE_PAR 76) 0x200001).spr 76 21 21 = 1 ∧
    sSafe.get R.SAFE_SF_DEMW = sSafe.get R.SAFE_SF_DEMF ∧ (sSafe.clear R.SAFE_SF_DEMF).get R.SAFE_SF_DEMF ≠ sSafe.get R.SAFE_SF_DEMW ∧
    s0.safe.hb = none ∧ ((s0.wr (R.SAFE_PAR 5) 0x8000).spr 5 15 0).testBit 15 = true ∧ (s0.win 15).test = none ∧
    s0.safe.lockDue = false ∧ s0.eaves.reqs = [] ∧ s0.eaves.burst = none ∧ s0.safe.loaded = false ∧ (s0.put R.SAFE_STAT_STATE 2).get R.SAFE_STAT_STATE = 2 := by decide

/-- A subscription of the Warden's is in session 1 and holds a first copy. -/
def sSub : State := sSafe.setRx true 3 ⟨some 1, 5, 0, false, false, [⟨5, true, [], 0⟩]⟩

theorem witness_SafetyMessages : (sSafe.chUp true = true ∧ sSafe.on (R.SAFE_TX_CTRL_EN 3) = true) ∧ sSafe.pduBad = false ∧ (sSafe.clear R.SAFE_SF_DEMW).pduBad = true ∧
    sSub.on (R.SAFE_RX_STAT_EN 3) = true ∧ (sSub.rxOf true 3).sess = some 1 ∧ (sSub.rxOf true 3).first ≠ [] ∧
    (sSub.rxOf false 3).sess = none ∧ s0.on (R.SAFE_RX_STAT_EN 3) = false ∧ (sSub.rxOf true 3).wdel = false ∧
    (ran sSub [.publish 3]).timerAt (.publish 3) = some 0 ∧ (ran sSub [.rx true 3]).timerAt (.rx true 3) = some 0 ∧
    0 + 1000000 * sSub.spr 93 31 16 ≤ (ran sSub []).upNs ∧ ¬(0 + 1000000 * (sSub.wr (R.SAFE_PAR 93) 0x00640064).spr 93 31 16 ≤ sSub.upNs) ∧ s0.pdRun 2 = true ∧ (s0.setPd 2 1).pdRun 2 = false := by
  decide

/-- A lock record in MRAM with its check sequence. -/
def sLockRec : State :=
  let s := s0.setMemWord 0x0107FC0C 0x4C4B0001
  s.setMemWord 0x0107FC3C (BitVec.ofNat 32 (crc32 (s.bytes 0x0107FC00 60)))

theorem witness_SafetyAccess : (s0.pdRun 2 = true ∧ s0.chUp true = true) ∧ s0.get R.SAFE_STAT_UNLST = 0 ∧
    (s0.put R.SAFE_STAT_UNLST 3).get R.SAFE_STAT_UNLST = 3 ∧ (s0.put R.SAFE_STAT_UNLST 1).get R.SAFE_STAT_UNLST = 1 ∧
    (s0.put R.SAFE_STAT_UNLST 2).get R.SAFE_STAT_UNLST = 2 ∧ (s0.put R.SAFE_STAT_STATE 4).locked = true ∧
    s0.get R.SAFE_STAT_PURP = 0 ∧ s0.chUp false = true ∧ s0.get R.SAFE_STAT_STATE = 0 ∧ s0.pdRun 1 = true ∧
    (s0.put R.SAFE_STAT_STATE 2).get R.SAFE_STAT_STATE = 2 ∧ sSafe.operate = true ∧ sSafe.sfDem true 7 = true ∧
    sSafe.sfDem false 7 = true ∧ (ran s0 [.pend]).timerAt .pend = some 0 ∧ (ran s0 [.block]).timerAt .block = some 0 ∧
    s0.faultStands = false ∧ s0.lockValid = false ∧ sLockRec.lockValid = true ∧ keyZero (s0.fuseKey 58) = true := by decide +kernel

/-- Lane 31 in message mode, aligned and locked, its peer ready for 256 bytes; lane 23 to a tile, its eye scanned. -/
def sLane : State :=
  { ((((((s0.raise (R.PURLIN_LANE_CFG_EN 31)).put (R.PURLIN_LANE_CFG_MODE 31) 2).raise (R.PURLIN_LANE_STAT_ALIGNED 31)).raise
      (R.PURLIN_LANE_STAT_RXLOCK 31)).raise (R.PURLIN_LANE_CFG_EN 23)).put (R.PURLIN_LANE_CFG_MODE 23) 1) with
    lanes := [(23, { s0.lane 23 with tail := [0, 0, 0, 0, 0, 0, 0, 0], scan := some 0, rxSeq := some 1 }), (31, { s0.lane 31 with free := 1 })] }

/-- The blocks of a frame of a type with SEQ 0, header 0 and a payload of zeros. -/
def frameBlocks (ty blocks : Nat) : List (BitVec 2 × BitVec 64) :=
  let b := frameBody ty 0 0 (List.replicate (8 * blocks) 0)
  [(2, BitVec.ofNat 64 (natLE (0x78 :: b.take 7)))] ++ List.replicate blocks (1, 0) ++
    [(2, BitVec.ofNat 64 (natLE (0x87 :: bytesBE 4 (crc32c b).toNat ++ [0, 0, 0])))]

/-- What arrives for it, and for a lone data block. -/
theorem test_lane_frames : (∀ ty ∈ [4, 5, 6, 7], ∀ n ∈ [0, 5], ∃ f, s0.received 31 0 (lineOf 0 (frameBlocks ty n)) = some (some f) ∧
    frameGood [ty] f false = true) ∧ s0.received 31 0 (lineOf 0 [(1, 0)]) = some none ∧ s0.received 31 0 [] = none := by
  have h : ∀ ty ∈ [4, 5, 6, 7], ∀ n ∈ [0, 5], (match s0.received 31 0 (lineOf 0 (frameBlocks ty n)) with
    | some (some f) => frameGood [ty] f false | _ => false) = true := by decide +kernel
  refine ⟨fun ty a n b => ?_, by decide, by decide⟩
  have := h ty a n b
  split at this
  · next f e => exact ⟨f, e, this⟩
  · exact absurd this (by decide)

theorem witness_LaneCommands : sLane.pdRun 14 = true ∧ s0.on (R.PURLIN_LANE_CFG_EN 31) = false ∧ s0.laneAllowed 31 = true ∧
    (s0.put (R.PURLIN_LANE_CFG_MODE 31) 1).laneAllowed 31 = false ∧ sLane.on (R.PURLIN_LANE_CFG_EN 31) = true ∧
    sLane.get (R.PURLIN_LANE_CFG_MODE 31) = 2 ∧ sLane.on (R.PURLIN_LANE_STAT_ALIGNED 31) = true ∧
    sLane.on (R.PURLIN_LANE_STAT_RXLOCK 31) = true ∧ (sLane.lane 31).unacked.length < (sLane.lane 31).free ∧
    (sLane.lane 23).scan = some 0 ∧ sLane.past (.scan 23) (sLane.scanNs 23 0) = false ∧
    (ran sLane [.scan 23]).past (.scan 23) (sLane.scanNs 23 0) = true ∧ (sLane.lane 23).due = false ∧
    ((sLane.setLane 23 { sLane.lane 23 with due := true }).lane 23).due = true ∧
    (ran sLane [.mid 23]).past (.mid 23) (sLane.nsOfFine ((sLane.brl 138).per / 128 * 64)).toNat = true ∧
    sLane.past (.mid 23) (sLane.nsOfFine ((sLane.brl 138).per / 128 * 64)).toNat = false ∧
    (ran sLane [.dinh 23]).past (.dinh 23) 2000 = true ∧ sLane.past (.dinh 23) 2000 = false ∧ sLane.r45 = true ∧ sLane.get (R.PURLIN_LANE_CFG_MODE 23) = 1 ∧ (sLane.lane 23).tail.length = 8 ∧
    sLane.legsFree = false ∧ ({ sLane with safe := { sLane.safe with pw := true, pf := true } } : State).legsFree = true ∧
    sLane.on (R.PURLIN_LANE_STAT_ALIGNED 23) = false ∧
    (sLane.raise (R.PURLIN_LANE_STAT_ALIGNED 23)).on (R.PURLIN_LANE_STAT_ALIGNED 23) = true ∧
    (∀ c < 11, (sLane.core c).stalled = none) ∧ (sLane.lane 23).rxSeq = some 1 := by decide

/-- MAC 3 works and accepts every address; its rings lie at the start of the shared SRAM, a receive and a send descriptor ready. -/
def sEnet : State :=
  { (((((((s0.raise (R.PURLIN_LANE_CFG_EN 31)).put (R.PURLIN_LANE_CFG_MODE 31) 3).raise (R.ENET_CFG_EN 3)).raise (R.ENET_CFG_PROM 3)).put (R.ENET_RXBASE_BASE 3) 0xA0000).put (R.ENET_TXBASE_BASE 3)
      0xA0010).raise R.RIDGE_STAT_LVL) with
    mem := [(0xA00003, 0x80), (0xA00005, 0x10), (0xA00006, 0xA0), (0xA00103, 0x80)], enets := [(3, ⟨true, []⟩)] }

/-- Sync of a port, one-step, as IEEE 1588 lays it out, and the ROM default program's clock that follows that port. -/
def ptpSyncMsg : List Byte := [0, 2] ++ List.replicate 42 0

def sPtp : State := { s0.raise R.SYSCTL_BOOT_DEF with ptp := { s0.ptp with master := some ([], ptpPort ptpSyncMsg), delay := some 0 } }

theorem witness_NetworkPtp : sPtp.pdRun 3 = true ∧ ptpType ptpSyncMsg = 0 ∧ ptpTwoStep ptpSyncMsg = false ∧ sPtp.ptpFrom ptpSyncMsg = true ∧
    sPtp.ptp.delay = some 0 ∧ sPtp.on R.TIME_STAT_TSTATE = false ∧
    (sPtp.raise R.TIME_STAT_TSTATE).on R.TIME_STAT_TSTATE = true ∧ sPtp.on R.TIME_STAT_BYPT = false ∧ sPtp.ptpRuns = true ∧
    s0.ptpRuns = false ∧ ptpOf (List.replicate 12 0 ++ [0x88, 0xF7] ++ ptpSyncMsg.set 4 254) = some (ptpSyncMsg.set 4 254) := by decide

theorem witness_NetworkCommands : sEnet.macRuns 3 = true ∧ s0.macRuns 3 = false ∧
    (∀ b < 60, sEnet.queueAt (sEnet.get (R.ENET_RXBASE_BASE 3) * 16 + b) = none) ∧
    (ran (s0.raise R.RIDGE_STAT_LVL) [.rtripLow]).past .rtripLow 100000000 = true ∧ s0.past .rtripLow 100000000 = false ∧
    ({ ran s0 [.rtripOn] with ridge := ⟨true, false⟩ } : State).past .rtripOn 1000 = true ∧ sEnet.pdRun 14 = true ∧ sEnet.on (R.ENET_CFG_EN 3) = true ∧ s0.on (R.ENET_CFG_EN 3) = false ∧
    sEnet.macAccepts 3 (List.replicate 60 1) = true ∧ sEnet.safePort 3 = false ∧ sSafe.safePort 1 = true ∧ s0.macAccepts 3 (List.replicate 60 1) = false ∧
    (let a := sEnet.get (R.ENET_RXBASE_BASE 3) * 16 + 16 * sEnet.get (R.ENET_RXIDX_NEXT 3)
     bitAt (sEnet.memWord a) 31 = true ∧ inSram a 16 = true ∧ inSram (sEnet.memWord (a + 4)).toNat 60 = true ∧
       a + 16 ≤ (sEnet.memWord (a + 4)).toNat) ∧
    (let a := sEnet.get (R.ENET_TXBASE_BASE 3) * 16 + 16 * sEnet.get (R.ENET_TXIDX_NEXT 3)
     bitAt (sEnet.memWord a) 31 = true ∧ inSram a 16 = true) ∧ (sEnet.enet 3).kick = true ∧ sEnet.ecc = [] ∧
    s0.on R.RIDGE_CFG_RXEN = true ∧ (s0.clear R.RIDGE_CFG_RXEN).on R.RIDGE_CFG_RXEN = false ∧ sEnet.on R.RIDGE_STAT_LVL = true ∧
    s0.on R.RIDGE_STAT_LVL = false ∧ (s0.raise R.BATTEN_RSYNC_OEN).on R.BATTEN_RSYNC_OEN = true ∧ s0.ridge.stopped = false := by decide

/-- PD0 has no supply from VIO33. -/
def sStore : State := { s0 with eaves := { s0.eaves with vio33 := false } }

/-- A burst of one word in progress and another that waits. -/
def sBurst : State :=
  { s0 with eaves := { s0.eaves with reqs := [⟨.software, 0x00F80000, [1], 0⟩], burst := some ⟨.software, 0x00F80000, [1], 0⟩ } }

theorem witness_EavesCommands : s0.eaves.on = true ∧ ({ s0 with eaves := { s0.eaves with on := false } } : State).eaves.on = false ∧
    s0.eaves.vio33 = true ∧ sStore.eaves.vio33 = false ∧ s0.eaves.burst = none ∧ sBurst.eaves.burst ≠ none ∧ s0.pdRun 3 = true ∧
    sDark.pdRun 3 = false ∧ ((s0.raise R.EAVES_CFG_AUTOTRIM).raise R.TIME_STAT_TSYN).on R.EAVES_CFG_AUTOTRIM = true ∧
    s0.on R.EAVES_STAT_LOSSV = false ∧ (s0.raise R.EAVES_STAT_LOSSV).on R.EAVES_STAT_LOSSV = true ∧
    ((s0.put R.EAVES_TAMP_EN 8).get R.EAVES_TAMP_EN).testBit 3 = true ∧ (s0.get R.EAVES_TAMP_EN).testBit 3 = false ∧
    s0.coveredOpen = false ∧ s0.trimmed = false ∧ (s0.startTimer .hour).trimmed = true ∧ sStore.ckptDue = false ∧
    (ran sStore [.dark0]).ckptDue = true ∧ s0.timerAt .vio33 = none ∧ (ran s0 [.vio33]).past .vio33 1000000000 = true ∧
    s0.lastCkpt = none ∧
    (s0.raise R.EAVES_CFG_ALEN).on R.EAVES_CFG_ALEN = true ∧ s0.eaves.sec % 2 ^ 32 = s0.get R.EAVES_WAKE_ASEC := by decide

/-- Software asks for a burst of one word from the shared SRAM into its own area. -/
def sGo : State := ((s0.put R.EAVES_BCTL_LENW 1).put R.EAVES_BSRC_ADDR 0x280000).put R.EAVES_BDST_ADDR 0x3E0000

theorem witness_Bursts : s0.eaves.on = true ∧ s0.eaves.burst = none ∧ s0.eaves.reqs = [] ∧
    destOk .software 0x00F80000 1 = true ∧ destOk .software 0x01000000 1 = false ∧ (s0.storeSet 3000 3000).mayStart ⟨.software, 0x00F80000, [1], 0⟩ = true ∧
    (sStore.storeSet 0 0).mayStart ⟨.software, 0x00F80000, [1], 0⟩ = false ∧ sBurst.eaves.burst ≠ none ∧ sGo.on R.EAVES_BSTAT_BUSY = false ∧
    (sGo.raise R.EAVES_BSTAT_BUSY).on R.EAVES_BSTAT_BUSY = true ∧ 512 < (s0.put R.EAVES_BCTL_LENW 513).get R.EAVES_BCTL_LENW ∧
    (0 < sGo.get R.EAVES_BCTL_LENW ∧ sGo.get R.EAVES_BCTL_MARK < sGo.get R.EAVES_BCTL_LENW ∧
      inSram (sGo.get R.EAVES_BSRC_ADDR * 4) 4 = true) ∧ destOk .software (sGo.get R.EAVES_BDST_ADDR * 4) 1 = true ∧
    destOk .software (s0.get R.EAVES_BDST_ADDR * 4) 1 = false ∧ sGo.pdRun 3 = true := by decide

/-- One post waits; the log holds a record and a clear is requested. -/
def sLog : State :=
  { (((s0.raise R.THATCH_STAT_VALID).raise R.THATCH_STAT_CLREN).put R.THATCH_STAT_CST 1) with
    thatch := { s0.thatch with fifo := [⟨5, 0, 0, [], 0, 0⟩] } }

theorem witness_ThatchLog : s0.eaves.on = true ∧ s0.thatch.fifo.length < 64 ∧ s0.get R.THATCH_POST0_EVENT < 0x8000 ∧
    0x8000 ≤ (s0.put R.THATCH_POST0_EVENT 0x8000).get R.THATCH_POST0_EVENT ∧ sLog.eaves.burst = none ∧ sLog.thatch.fifo ≠ [] ∧
    sLog.get R.THATCH_STAT_CST = 1 ∧ s0.thatch.fifo = [] ∧ (sStore.burstMeasure 3000 3000).energyOk 9 = true ∧
    (sStore.burstMeasure 0 0).energyOk 1 = false ∧ s0.thatch.lostDue = false ∧ sLog.on R.THATCH_STAT_CLREN = true ∧
    s0.on R.THATCH_STAT_CLREN = false ∧ keyZero (s0.fuseKey 66) = true ∧ (s0.put R.THATCH_STAT_CST 2).get R.THATCH_STAT_CST = 2 ∧
    (s0.put R.THATCH_STAT_CST 3).get R.THATCH_STAT_CST = 3 ∧ sLog.merges ⟨5, 0, 0, [], 0, 0⟩ = false ∧
    s0.past .clrBlock 600000000000 = false ∧ (ran s0 [.clrBlock]).past .clrBlock 600000000000 = true := by decide

/-- Underlay runs and has verified an image. -/
def sUnder : State := { s0.raise R.SYSCTL_BOOT_UND with sys := { s0.sys with verified := true, wdt3 := true } }

theorem witness_ResetSources : Registers.wf s0 ∧ s0.eaves.on = true ∧ s0.pdRun 3 = true ∧ sDark.pdRun 3 = false ∧
    (sUnder.on R.SYSCTL_BOOT_UND = true ∧ sUnder.sys.verified = true ∧ sUnder.sys.wdt3 = true) ∧ s0.on R.SYSCTL_BOOT_UND = false ∧
    (s0.raise R.SYSCTL_BOOT_UND).sys.verified = false ∧ s0.on R.SYSCTL_BOOT_BC = false ∧
    (s0.raise (R.SYSCTL_WDTCFG_EN 1)).on (R.SYSCTL_WDTCFG_EN 1) = true ∧ s0.on (R.SYSCTL_WDTCFG_EN 1) = false ∧
    s0.get R.SYSCTL_MRQSTAT_ST = 0 ∧ (s0.put R.SYSCTL_MRQSTAT_ST 1).get R.SYSCTL_MRQSTAT_ST = 1 ∧
    (s0.put R.SYSCTL_MRQSTAT_ST 3).get R.SYSCTL_MRQSTAT_ST = 3 ∧ keyZero (s0.fuseKey 74) = true ∧
    (∀ k : Fin 2, s0.past (.wdt k) (max 1 (s0.get (R.SYSCTL_WDTCFG_TMO k)) * 1000000) = false ∧
      (ran s0 [.wdt k]).past (.wdt k) (max 1 (s0.get (R.SYSCTL_WDTCFG_TMO k)) * 1000000) = true) ∧
    (s0.sys.wdt3 = true ∧ ¬(s0.timerAt .boot).getD 0 + 2000000000 ≤ s0.upNs ∧
      ((ran s0 []).timerAt .boot).getD 0 + 2000000000 ≤ (ran s0 []).upNs) ∧ s0.past .mrqBlock 600000000000 = false ∧
    (ran s0 [.mrqBlock]).past .mrqBlock 600000000000 = true ∧ s0.coveredOpen = false ∧ s0.get (R.SYSCTL_PD_STATE 13) = 2 ∧
    (s0.setPd 13 0).get (R.SYSCTL_PD_STATE 13) ≠ 2 ∧
    ({ s0 with sys := { s0.sys with recovering := [4] } } : State).coveredOpen = true := by decide

/-- The fuses are loaded and synthesizers 0, 1 and 3 stable; island 12 is held with its clock failed, 13 held, 11 and 15 isolated by a
failure, the clock of 14 stopped. -/
def sIsle : State :=
  { ((((((((s0.setPd 12 1).setPd 13 1).setPd 11 3).setPd 15 3).raise (R.CLK_SYN_STAT_STABLE 0)).raise (R.CLK_SYN_STAT_STABLE 1)).raise
      (R.CLK_SYN_STAT_STABLE 3)).raise (R.SYSCTL_PD_CKH 12)).put R.SYSCTL_WDT2CFG_EN 0xFF with
    sys := { s0.sys with fuseDue := false, failed := [11, 15], stopped := [14] }, cores := [(0, { coreReset with ctx := some 5 })],
    timers := [(.disp 0, 0)], upNs := 10 ^ 14 }

theorem witness_IslandCommands : Registers.wf sIsle ∧ sIsle.sys.fuseDue = false ∧ sIsle.get (R.SYSCTL_PD_STATE 13) = 1 ∧
    sIsle.on (R.SYSCTL_PD_CKH 13) = false ∧ (∀ k < 13, sIsle.get (R.SYSCTL_PD_STATE k) ≠ 1 ∨ sIsle.on (R.SYSCTL_PD_CKH k) = true) ∧
    sIsle.pdRun 3 = true ∧ sIsle.on R.SYSCTL_BOOT_UND = false ∧ sIsle.on (R.CLK_SYN_STAT_STABLE (synOf 13)) = true ∧
    (sIsle.clear (R.CLK_SYN_STAT_STABLE 3)).on (R.CLK_SYN_STAT_STABLE (synOf 13)) = false ∧ 13 ∉ sIsle.sys.restoreDue ∧
    sIsle.on (R.SYSCTL_PD_CKH 12) = true ∧ sIsle.get (R.SYSCTL_PD_STATE 11) = 3 ∧ 11 ∈ sIsle.sys.failed ∧ 15 ∈ sIsle.sys.failed ∧
    sIsle.sys.recovering = [] ∧ 14 ∈ sIsle.sys.stopped ∧ sIsle.get (R.SYSCTL_PD_STATE 4) = 2 ∧
    (sIsle.setPd 4 0).get (R.SYSCTL_PD_STATE 4) = 0 ∧ s0.isOpen 0 = true ∧ (sClosed.isOpen 64 = false) ∧
    s0.regs = [] ∧ (sChan 2).get (chState (.dir 47)) ≠ 0 ∧
    ((sIsle.rd R.SYSCTL_WDT2CFG).getLsbD 24 = true ∧ (sIsle.core 0).ctx ≠ none ∧ sIsle.pdRun 4 = true ∧
      sIsle.past (.disp 0) (max 1 (sIsle.get R.SYSCTL_WDT2CFG_RWTO) * 1000) = true) := by decide

/-- A dispatch of core 0 runs too long, with nothing else wrong. -/
def sLong : State := { ran (s0.put R.SYSCTL_WDT2CFG_EN 0xFF) [.disp 0] with cores := [(0, { coreReset with ctx := some 5 })] }

theorem witness_IslandWatchdog : sLong.pdRun 3 = true ∧ sLong.pdRun 4 = true ∧ sLong.on R.SYSCTL_BOOT_UND = false ∧
    (sLong.rd R.SYSCTL_WDT2CFG).getLsbD 24 = true ∧ (sLong.core 0).ctx ≠ none ∧
    sLong.past (.disp 0) (max 1 (sLong.get R.SYSCTL_WDT2CFG_RWTO) * 1000) = true ∧ sLong.coveredOpen = false ∧ sLong.eaves.on = true ∧
    sLong.rd R.EAVES_VMEAS = 0 ∧ sLong.sys.recovering = [] ∧ sLong.sys.failed = [] ∧ sLong.sys.restoreDue = [] ∧
    (∀ n < 32, (sLong.lane n).burst = false) ∧ sLong.on R.SYSCTL_SUPPLY_EWV = false ∧ sLong.on R.SYSCTL_SUPPLY_EW33 = false ∧
    ∀ n < 4, sLong.on (R.CLK_SYN_STAT_BYP n) = false := by decide

/-- When the next island of a sequence is due, and 5 ms after; what holds PD1 and PD0 back, and when its failure counts. -/
theorem witness_IslandReleases : (let due := max sIsle.sys.due ((sIsle.timerAt (.held 13)).getD 0 + 64 * 100000 / sIsle.get R.CLK_REF_NOM)
      due ≤ sIsle.upNs ∧ due + 5000000 ≤ sIsle.upNs) ∧ sIsle.sys.due = 0 ∧
    (let s : State := { (ran (s0.setPd 1 1) []) with eaves := { s0.eaves with on := false } }
     s.eaves.on = false ∧ s.get (R.SYSCTL_PD_STATE 1) = 1 ∧ s.sys.fuseDue = false ∧ s.on (R.SYSCTL_PD_CKH 0) = false ∧
       s.sys.due + 50000000 ≤ s.upNs ∧ (s.raise (R.SYSCTL_PD_CKH 0)).on (R.SYSCTL_PD_CKH 0) = true) ∧
    s0.host.held = none ∧ (∀ m < 11, (s0.core m).stalled = none) ∧ s0.coveredOpen = false ∧
    (s0.on R.EAVES_STAT_OK45 = true ∨ s0.rd R.EAVES_VMEAS = 0) ∧ s0.sys.failed = [] ∧ s0.sys.recovering = [] ∧ s0.sys.restoreDue = [] ∧
    (∀ n < 32, (s0.lane n).burst = false) ∧ s0.on R.SYSCTL_SUPPLY_EWV = false ∧ s0.on R.SYSCTL_SUPPLY_EW33 = false ∧
    ∀ n < 4, s0.on (R.CLK_SYN_STAT_BYP n) = false := by decide

/-- Core RC0 is being recovered while the lanes of `sLane` run, lane 23 aligned and locked. -/
def sSecond : State :=
  { ((sLane.raise (R.PURLIN_LANE_STAT_ALIGNED 23)).raise (R.PURLIN_LANE_STAT_RXLOCK 23)) with
    sys := { sLane.sys with recovering := [4] } }

theorem witness_SecondFaults : Registers.wf sSecond ∧ sSecond.sys.recovering ≠ [] ∧ sSecond.bypassed 0 = false ∧ 0 ∈ sSecond.refUsers false ∧
    2 ∈ sSecond.refUsers true ∧ sSecond.bypassed 2 = false ∧ sSecond.eaves.on = true ∧ sSecond.pdRun 14 = true ∧
    sSecond.on (R.PURLIN_LANE_CFG_EN 23) = true ∧ sSecond.get (R.PURLIN_LANE_CFG_MODE 23) = 1 ∧
    sSecond.on (R.PURLIN_LANE_STAT_ALIGNED 23) = true ∧ sSecond.on (R.PURLIN_LANE_STAT_RXLOCK 23) = true ∧
    (sSecond.lane 23).burst = false ∧ (∀ c < 11, (sSecond.core c).stalled = none) ∧
    sSecond.received 23 0 (lineOf 0 [(1, 0)]) = some none ∧ s0.r45 = true ∧ s0.storesOk = true ∧
    sIsle.r45 = false ∧ s0.get (R.SYSCTL_PD_STATE 4) = 2 := by decide

/-- A fuse load is due. -/
def sFuse : State := { s0 with sys := { s0.sys with fuseDue := true } }

/-- Underlay runs and a message, INFO or one of no known opcode, waits in Q30; its reply goes to Q31. -/
def sUlQueue (op : Byte) : State :=
  let s := (((sUnder.wr (R.QUEUE_CFG 30) 0xF83F0004).wr (R.QUEUE_BASE 30) 0xA00000).wr (R.QUEUE_RIGHTS 30) 0x07FF07FF)
  (((s.wr (R.QUEUE_CFG 31) 0xF83F0004).wr (R.QUEUE_BASE 31) 0xA10000).wr (R.QUEUE_RIGHTS 31) 0x07FF07FF).setMsgs 30
    [op :: List.replicate 15 0]

theorem witness_BootUnderlay : sUnder.on R.SYSCTL_BOOT_UND = true ∧ sUnder.pdRun 3 = true ∧ sUnder.msgs 30 = [] ∧
    (sUlQueue 1).msgs 30 = [1 :: List.replicate 15 0] ∧ ((sUlQueue 1).qPop .sc0 30 256).2.code = 0 ∧
    ((sUlQueue 1).setMsgs 30 []).msgs 30 = [] ∧ (((sUlQueue 1).clear (R.QUEUE_CFG_EN 30)).qPop .sc0 30 256).2.code ≠ 0 ∧
    (∀ op < 8, msgWord (BitVec.ofNat 8 op :: List.replicate 15 0) 0 % 256 = op ∧
      msgWord (BitVec.ofNat 8 op :: List.replicate 15 0) 3 + 16 = 16) := by decide

set_option maxRecDepth 20000 in
/-- The factory words of `State.reset` check; with one bit more they do not. -/
theorem witness_BootFuses : sFuse.fusesGood = true ∧
    ({ sFuse with sys := { sFuse.sys with fuses := tblSet fuseDefault sFuse.sys.fuses 0 1 } } : State).fusesGood = false := by
  decide +kernel

theorem witness_BootCommands : sFuse.sys.fuseDue = true ∧ sFuse.sys.fuseAt ≤ sFuse.upNs ∧ sIsle.sys.fuseDue = false ∧
    s0.get R.SYSCTL_FUSESTAT_LOADCNT + 1 < 3 ∧
    3 ≤ (s0.put R.SYSCTL_FUSESTAT_LOADCNT 2).get R.SYSCTL_FUSESTAT_LOADCNT + 1 ∧ (s0.pdRun 3 = true ∧ s0.sys.inLoader = true) ∧
    s0.imgCheck 0 false ≠ 0 ∧ s0.imgCheck 1 false ≠ 0 ∧ sDark.pdRun 3 = false ∧
    ((s0.raise R.SYSCTL_BOOT_UND).on R.SYSCTL_BOOT_UND = true ∧ s0.on R.SYSCTL_BOOT_UND = false) ∧ s0.on R.THATCH_STAT_RDEN = false := by
  decide

/-- A SWAP is armed for the next reload; context 255 of core 7 was closed, and core 3 still waits. -/
def sSwap (st : Nat) : State :=
  { ((s0.put R.CFGSET_STAT_STATE st).raise R.CFGSET_CTRL_NEXT) with cfg := { s0.cfg with changed := [255], reclose := [255], cores := [3] } }

/-- An empty set in the shadow area, channel 0 running as the scheduler. -/
def sShadow : State :=
  (((s0.put (R.BATTEN_CH_STAT_STATE 0) 2).setMemWord 0x00AE0000 0x43534554).setMemWord 0x00AE0008 1).setMemWord 0x00AE000C
    (BitVec.ofNat 32 (crc32 []))

theorem witness_ConfigurationSets : s0.pdRun 3 = true ∧ sDark.pdRun 3 = false ∧ s0.get R.CFGSET_STAT_STATE = 0 ∧
    s0.on R.CFGSET_STAT_STU = false ∧ (sSwap 1).get R.CFGSET_STAT_STATE = 1 ∧ (sSwap 1).pdRun 12 = true ∧
    (sSwap 1).on R.CFGSET_CTRL_NEXT = true ∧ (sSwap 2).get R.CFGSET_STAT_STATE = 2 ∧ (sSwap 2).cfg.periodOver = false ∧
    coreOf 255 ∉ (sSwap 2).cfg.cores ∧ s0.newerSet = none ∧ s0.memWord 0x00AE0000 ≠ 0x43534554 ∧
    (sShadow.memWord 0x00AE0000 = 0x43534554 ∧ (sShadow.memWord 0x00AE0004).toNat ≤ 0x1E000) ∧
    (let t : State := { sSwap 2 with cfg := { (sSwap 2).cfg with cores := [], periodOver := true, withImg := true } }
     t.cfg.todo = [] ∧ t.cfg.cores = [] ∧ t.cfg.periodOver = true ∧ t.cfg.withImg = true) ∧ s0.cfg.withImg = false ∧
    (∀ st < 3, (sSwap st).atBoundary = false) ∧ ((ran (sSwap 1) [.armed]).atBoundary = true ∧
      (ran (sSwap 1) [.armed]).past .armed 20000 = true) ∧
    (({ sSwap 2 with cfg := { (sSwap 2).cfg with begun := true } } : State).cfg.begun = true) ∧ s0.timerAt .setRetry = none ∧
    (ran s0 [.setRetry]).past .setRetry 64000000 = true ∧ (s0.startTimer .setRetry).past .setRetry 64000000 = false ∧
    (s0.raise R.CFGSET_STAT_STU).on R.CFGSET_STAT_STU = true ∧ (s0.put R.CFGSET_IMGSTAT_ST 1).get R.CFGSET_IMGSTAT_ST = 1 ∧
    s0.imgCheck 0 true ≠ 0 := by decide

/-- Context 64 is ready by a reload of channel 0 that reached its core, whose background code waits. -/
def sReady : State :=
  ((sCtx.raise (R.RAFTER_CORE_MODE_DSPEN 2)).setBch 0 { sCtx.bch 0 with evReload := 4 }).setCore 2
    { coreReset with survey := false, surveyReq := false, bgWait := true } |>.setCtx 64
      { sCtx.ctx 64 with ready := true, pendClose := true }

theorem witness_Dispatches : sReady.pdRun 6 = true ∧ (sReady.evOf (.dir 0) .reload 2).2 = true ∧ sReady.isCfg 64 = true ∧
    chanOfCode (sReady.df 64 0x0C 31 24) = some (.dir 0) ∧ sReady.df 64 0x0C 23 22 = 0 ∧ sReady.df 64 0x0C 21 16 ≤ (sReady.ctx 64).divCount ∧
    sReady.on (R.RAFTER_CORE_MODE_DSPEN 2) = true ∧ (sReady.core 2).survey = false ∧ (sReady.core 2).lockup = false ∧
    (sReady.core 2).ctx = none ∧ (sReady.core 2).bgWait = true ∧ (sReady.ctx 64).ready = true ∧ sReady.cfgd = [64] ∧
    sReady.descOk 64 = true ∧ (sReady.ctx 64).pendClose = true ∧ (s0.core 2).bgWait = false ∧ (sReady.core 2).surveyReq = false ∧
    (sReady.core 2).stalled = none ∧ sReady.intSeen 2 = false := by decide

/-- The context of the grid law is ready and closed. -/
def sLaw : State :=
  (((sGrid 4).raise (R.RAFTER_CORE_MODE_DSPEN 2)).setCore 2 { coreReset with survey := false, surveyReq := false, bgWait := true } |>.setCtx 64
    { sCtx.ctx 64 with ready := true }).clear (R.RAFTER_CTX_STAT_OPN 64)

/-- A record of the law, by word: the thresholds 0.9 and 1.1 pu with a hysteresis of 0.02, 20 ms, IMAX 1 pu, no hand-over. -/
def parLaw (seqSt now : Nat) : LawPar :=
  { word := fun a => if a = 0x38 then 65536 else if a = 0x5C then 58982 else if a = 0x60 then 72090 else if a = 0x64 then 1311
      else if a = 0x68 then 20 else 0,
    now := now, seqSt := seqSt, pset := 1, qset := 0, ceil := 65536, bias := 3, f0 := 50 }

/-- What a dispatch measures at a voltage, with a disagreement. -/
def measLaw (v d : Nat) : LawMeas := ⟨v, 0, 0, 0, 0, d, 0, 0, 0, 0⟩

/-- The law asked to form the grid. -/
def lawAsked : LawSt := { lawReset with want := true }

theorem witness_DispatchesLaw : sLaw.lawCtx = some 64 ∧ sLaw.pdRun 6 = true ∧ sLaw.descOk 64 = true ∧ sLaw.isCfg 64 = true ∧
    (sLaw.ctx 64).ready = true ∧ (sLaw.ctx 64).pendClose = false ∧ sLaw.isOpen 64 = false ∧
    (sLaw.raise (R.RAFTER_CTX_STAT_FIRST 64)).on (R.RAFTER_CTX_STAT_FIRST 64) = true ∧ sLaw.gprValid 64 = false ∧
    sReady.lawCtx = none := by decide

theorem witness_lawStep : seqConnected 4 = true ∧ lawAsked.ride = false ∧ lawAsked.hand = none ∧ lawAsked.gfm ≠ lawAsked.want ∧
    (lawStep (parLaw 4 9) (measLaw 65536 0) lawAsked).ride = false ∧ (lawStep (parLaw 4 9) (measLaw 65536 0) lawAsked).gfm = true ∧
    (lawStep (parLaw 4 9) (measLaw 65536 1) lawAsked).hand = some ⟨true, 0, 0, 0⟩ ∧
    (lawStep (parLaw 4 9) (measLaw 40000 0) { lawAsked with outRun := 1, hand := some ⟨true, 5, 0, 0⟩ }).ride = true ∧
    (lawStep (parLaw 4 20000009) (measLaw 65536 1) { lawAsked with ride := true, inSince := some 9 }).ride = false ∧
    (lawStep (parLaw 4 9) (measLaw 65536 1) lawAsked).gfm = false ∧ seqConnected 1 = false ∧
    ¬(parLaw 4 9).now < lawAsked.quiet ∧ (parLaw 4 9).now < ({ lawAsked with quiet := 10 } : LawSt).quiet ∧
    lawVmax (parLaw 4 9) lawAsked = 0 ∧ lawVmax { parLaw 4 9 with word := fun _ => 0x10000000 } { lawAsked with last := some 0 } ≠ 0 := by decide

/-- What the maker fuses for MCK0, MD0, XCS_N, SRST_N and MPLS0 (R630), and outputs at rest. -/
theorem test_balls : (s0.ballRest 102, s0.ballRest 110, s0.ballRest 220, s0.ballRest 267, s0.ballRest 271) =
    (.low, .down, .up, .up, .low) ∧ s0.hintBall = .z ∧ s0.rsyncBall = .down ∧ s0.rtripBall = .z ∧ s0.mplsBall 3 = .low := by decide

/-- The real vector of context 64 is complete. -/
def sVec (s : State) (good : Nat) : State := (s.clear (R.MOD_MD_STAT_DCKL 0)).setCtx 64
  { s.ctx 64 with waits := [⟨0, [(0, some 9)], false⟩], good := good }

/-- The same under the feedback flag, held by a prediction. -/
def sLost : State := ((sSpec.raise (R.RAFTER_CTX_STAT_FBL 64)).put (R.RAFTER_CTX_STAT_FBP 64) 3)

theorem witness_VectorsAndFeedback : (sVec sSpec 0).isCfg 64 = true ∧ (sVec sSpec 0).pdRun 6 = true ∧ (sVec sSpec 0).boundInputBad 64 = false ∧
    (sVec sSpec 0).wholeVector 64 = some (⟨0, [(0, some 9)], false⟩, [9]) ∧ ((sVec sSpec 0).ctx 64).dispStamp = 0 ∧ sSpec.wholeVector 64 = none ∧ ((sVec sSpec 0).ctx 64).waits ≠ [] ∧ (sVec sSpec 0).fbl 64 = false ∧ (sVec sLost 7).fbl 64 = true ∧ ((sVec sLost 7).ctx 64).good = 7 ∧
    ((sVec sSpec 0).core 2).region = .spec ∧ ((sVec sSpec 0).core 2).ctx = some 64 ∧ ((sVec sSpec 0).core 2).real = none ∧
    (sVec sLost 7).wholeVector 64 = some (⟨0, [(0, some 9)], false⟩, [9]) ∧ (sVec sLost 7).boundInputBad 64 = false ∧
    (sVec sLost 7).isCfg 64 = true ∧ (sVec sSpec 0).desc 64 0x80 = 0 ∧ descCtx 0x200000 = none ∧ sLost.get (R.RAFTER_CTX_STAT_FBP 64) = 3 ∧
    (sLost.raise (R.MOD_MD_STAT_STKL 0)).boundInputBad 64 = true ∧
    max 1 (sLost.df 64 0 15 8) ≤ ((sLost.setCtx 64 { sLost.ctx 64 with fbCount := 255 }).ctx 64).fbCount ∧ (s0.ctx 64).copy = none ∧
    ((sLost.setCtx 64 { sLost.ctx 64 with copy := some yealmReset }).ctx 64).copy.isSome = true := by decide

/-- Core 2 waits for its restore: context 64 has one marked yealm. -/
def sRest : State :=
  { (sCtx.setPd 6 1).setCtx 64 { sCtx.ctx 64 with yealmA := { yealmReset with marked := true } } with sys := { s0.sys with restoreDue := [6] } }

theorem witness_CoreService : (sClosed.pdRun 6 = true ∧ sClosed.isOpen 64 = false ∧ sClosed.isCfg 64 = true) ∧
    ({ coreRun with reexec := true } : CoreSt).reexec = true ∧ 6 ∈ sRest.sys.restoreDue ∧ Registers.wf sRest ∧
    (∀ s ∈ [sRest, ran sRest []], 6 ∈ s.sys.restoreDue) ∧ sRest.upNs < sRest.heldTill 6 ∧ (ran sRest []).heldTill 6 ≤ (ran sRest []).upNs ∧
    sRest.descOk 64 = true ∧ yealmSlots (sRest.ctx 64) ≠ [] ∧
    (∀ k < 32, s0.isOpen (64 + k) = true) ∧ s0.pdRun 6 = true ∧ (s0.core 2).surveyReq = true ∧ (s0.core 2).ctx = none ∧
    sCtx.on (R.RAFTER_CTX_STAT_PEND 64) = false ∧ sCtx.fbl 64 = false ∧ sClosed.isRunning 64 = true ∧ (s0.setPd 6 1).pdRun 6 = false := by
  decide

/-! ### The queue and what every step keeps -/

theorem witness_StepRunsFront : s0.pending = [] ∧ s0.pdRun 3 = true ∧ sDark.pdRun 3 = false ∧ sDark.eaves.on = true ∧
    sDark.eaves.ticks + 1 < 2 ^ 20 ∧ sDark.eaves.sub < 32768 ∧ sDark.eaves.sec + 1 < 2 ^ 48 := by decide

theorem witness_SoundKept : Sound s0 := ⟨by decide, by decide, by decide⟩

/-- A command in the queue is run by the next step, and leaves it. -/
theorem test_step_front : step { s0 with pending := [.timeSync] } = exec .timeSync s0 := rfl
end

/-!
PROOFS. The base instructions: interrupts taken (R97) and the accumulator group (R65, R78).
-/

namespace Sys2Proof.Proofs.JenmelBase

open Sys2Proof.Machine Sys2Proof.Safety Sys2Proof.Laws

/-! ### Entry into an exception (R96) -/

/-- What the entry leaves in each CSR. -/
theorem csrOf_excEntry (c : CoreSt) (code slot : Nat) (eval epc : Word) (j : Nat) :
    csrOf (excEntry c code slot eval epc) j =
      if j = 0 then (csrOf c 0 &&& ~~~0xC3#32) ||| 0x42#32
      else if j = 4 then eval
      else if j = 3 then BitVec.ofNat 32 (slot * 256 + code)
      else if j = 2 then epc
      else if j = 1 then csrOf c 0
      else csrOf c j := by
  simp only [← csrOf_setCsr]
  rfl

/-- The entry goes on at the vector base, which it leaves alone, plus the offset of INT. -/
theorem pc_excEntry (c : CoreSt) (code slot : Nat) (eval epc : Word) :
    (excEntry c code slot eval epc).pc = csrOf c 5 + if code = 0x10 then 0x80 else 0 := by
  simp [excEntry]

/-- Of a core the entry changes the program counter, CSRs and the region alone. -/
theorem excEntry_only (c : CoreSt) (code slot : Nat) (eval epc : Word) :
    excEntry c code slot eval epc = { c with
      pc := (excEntry c code slot eval epc).pc, csr := (excEntry c code slot eval epc).csr, region := .none } := by
  unfold excEntry setCsr
  rfl

/-- The status during a handler: SUP and HND set, IEN and XLT clear, the other bits as before. -/
theorem getLsbD_handlerStatus (st : Word) (k : Nat) (hk : k < 32) :
    ((st &&& ~~~0xC3#32) ||| 0x42#32).getLsbD k =
      if k = 0 ∨ k = 7 then false else if k = 1 ∨ k = 6 then true else st.getLsbD k := by
  have cleared : (0xC3#32).getLsbD k = decide (k = 0 ∨ k = 7 ∨ k = 1 ∨ k = 6) := by
    revert k; decide
  have raised : (0x42#32).getLsbD k = decide (k = 1 ∨ k = 6) := by
    revert k; decide
  rw [BitVec.getLsbD_or, BitVec.getLsbD_and, BitVec.getLsbD_not, cleared, raised]
  by_cases h1 : k = 0 ∨ k = 7
  · have : ¬ (k = 1 ∨ k = 6) := by omega
    simp [h1, this]
  · by_cases h2 : k = 1 ∨ k = 6 <;> simp [h1, h2, hk]

/-- A core that is given the state of the entry enters the exception, and nothing else changes. -/
theorem enters_setCore_excEntry (u : State) (n code slot : Nat) (eval epc : Word) :
    Enters u (u.setCore n (excEntry (u.core n) code slot eval epc)) n code slot eval epc
      (if code = 0x10 then 0x80 else 0) := by
  unfold Enters
  simp only [core_setCore, if_true, csrOf_excEntry]
  refine ⟨rfl, fun m hm => if_neg hm, ?_, fun j hj => ?_, getLsbD_handlerStatus _, ?_⟩
  · rw [← pc_excEntry]
    exact excEntry_only _ _ _ _ _
  · have h0 : j ≠ 0 ∧ j ≠ 4 ∧ j ≠ 3 ∧ j ≠ 2 ∧ j ≠ 1 := by omega
    simp [h0]
  · simp

/-! ### Interrupts taken (R97) -/

/-- A core that can issue a bundle holds none that waits. -/
theorem retry_of_ready {s u : State} {n : Nat} (h : s.ready n = some u) : s.retry n = s := by
  unfold State.retry
  cases e : (s.core n).stalled with
  | none => rfl
  | some w => simp [State.ready, e] at h

/-- With an interrupt pending on a core that can issue, TAKE_INT enters INT where the core allows it, and else does nothing. -/
theorem interrupt_of_ready {s u : State} {n : Nat} (hp : s.coreInt n = true) (h : s.ready n = some u) :
    ((csrOf (u.core n) 0).getLsbD 0 = true ∧ CanEnter (u.core n) ∧ (u.core n).region ≠ .spec →
      s.interrupt n = u.setCore n (excEntry (u.core n) 0x10 0 0 (u.core n).pc)) ∧
    (¬ ((csrOf (u.core n) 0).getLsbD 0 = true ∧ CanEnter (u.core n) ∧ (u.core n).region ≠ .spec) →
      s.interrupt n = s) := by
  have taken : (bitAt (csrOf (u.core n) 0) 0 && !bitAt (csrOf (u.core n) 0) 1 && decide (csrOf (u.core n) 5 ≠ 0) &&
      decide ((u.core n).region ≠ .spec)) = true ↔
      (csrOf (u.core n) 0).getLsbD 0 = true ∧ CanEnter (u.core n) ∧ (u.core n).region ≠ .spec := by
    simp [bitAt, CanEnter, and_assoc]
  unfold State.interrupt
  simp only [retry_of_ready h, hp, h, if_true]
  exact ⟨fun c => if_pos (taken.mpr c), fun c => if_neg (mt taken.mp c)⟩

/-- Settles O12: a core that can issue holds no waiting bundle, so that TAKE_INT comes down to the conditions of R97. -/
theorem interruptTaken : Obligations.InterruptTaken := by
  unfold Obligations.InterruptTaken
  intro s u n c hp hr
  obtain ⟨taken, pending⟩ := interrupt_of_ready hp hr
  refine ⟨fun ien can live => ⟨s.interrupt n, rfl, ?_⟩, fun blocked => ?_⟩
  · rw [taken ⟨ien, can, live⟩]
    exact enters_setCore_excEntry u n 0x10 0 0 c.pc
  · refine congrArg Host.Outcome.next (pending fun ⟨ien, can, live⟩ => ?_)
    rcases blocked with off | closed | ahead
    · exact Bool.noConfusion (off.symm.trans ien)
    · exact closed can
    · exact live ahead

/-! ### Signed fields and saturation (R14, R65) -/

/-- A number read as two's complement is the signed value of its low bits. -/
theorem sextNat_eq_toInt (n v : Nat) (hn : 0 < n) : sextNat n v = (BitVec.ofNat n v).toInt := by
  obtain ⟨m, rfl⟩ := Nat.exists_eq_succ_of_ne_zero hn.ne'
  have e : 2 ^ (m + 1) = 2 * 2 ^ m := by rw [Nat.pow_succ, Nat.mul_comm]
  rw [BitVec.toInt_eq_toNat_cond, BitVec.toNat_ofNat]
  unfold sextNat
  rw [Nat.succ_eq_add_one, Nat.add_sub_cancel]
  by_cases h : 2 ^ m ≤ v % 2 ^ (m + 1)
  · rw [if_pos h, if_neg (by omega)]
  · rw [if_neg h, if_pos (by omega)]

/-- The field of a number, as a vector of the field's width. -/
theorem ofNat_bitsOf {w : Nat} (z : BitVec w) (hi lo len : Nat) (h : hi + 1 - lo = len) :
    BitVec.ofNat len (bitsOf z.toNat hi lo) = z.extractLsb' lo len := by
  subst h
  apply BitVec.eq_of_toNat_eq
  simp [bitsOf]

/-- Saturation flags exactly what lies outside the signed range. -/
theorem satFlag_eq (n : Nat) (x : Int) :
    satFlag n x = decide (x < -(2 ^ (n - 1) : Nat) ∨ ((2 ^ (n - 1) : Nat) : Int) ≤ x) := by
  have pos : 0 < 2 ^ (n - 1) := Nat.two_pow_pos _
  unfold satFlag satInt clampInt
  generalize 2 ^ (n - 1) = p at pos
  rw [decide_eq_decide]
  by_cases low : x < -(p : Int)
  · rw [if_pos low]; omega
  · rw [if_neg low]
    by_cases high : (p : Int) - 1 < x
    · rw [if_pos high]; omega
    · rw [if_neg high]; omega

/-- The model's saturated result is that of R65, value and flag. -/
theorem qSat_eq (x : Int) : qSat x = ⟨sat32 x, over32 x⟩ := by
  have value : satInt 32 x = max (-2147483648) (min 2147483647 x) := by
    unfold satInt clampInt; omega
  have flag : satFlag 32 x = over32 x := by
    rw [satFlag_eq]; unfold over32; rw [decide_eq_decide]; omega
  unfold qSat wordOfInt sat32
  rw [value, flag]

/-! ### Accumulator results (R65, R78) -/

/-- AV is set exactly when the result lies outside 72 bits. -/
theorem accWrap_eq (v : Int) : accWrap v = ⟨BitVec.ofInt 72 v, decide (v < -2 ^ 71 ∨ 2 ^ 71 ≤ v)⟩ := by
  unfold accWrap
  rw [satFlag_eq]
  norm_num

/-- A result that fits 72 bits wraps nowhere. -/
theorem accWrap_of_fits {v : Int} (lo : -2 ^ 71 ≤ v) (hi : v < 2 ^ 71) : accWrap v = ⟨BitVec.ofInt 72 v, false⟩ := by
  rw [accWrap_eq, decide_eq_false (by omega)]

/-- The dual product of MAC2 and MSU2 in terms of the halfwords. -/
theorem dualProduct_eq (a b : Word) :
    dualProduct a b = ((a.extractLsb' 0 16).toInt * (b.extractLsb' 0 16).toInt +
      (a.extractLsb' 16 16).toInt * (b.extractLsb' 16 16).toInt) * 2 ^ 32 := by
  have low : ∀ w : Word, loHalf w = (w.extractLsb' 0 16).toInt := fun w => sextNat_eq_toInt 16 _ (by decide)
  have high : ∀ w : Word, hiHalf w = (w.extractLsb' 16 16).toInt := fun w => by
    unfold hiHalf
    rw [sextNat_eq_toInt 16 _ (by decide), ← Nat.shiftRight_eq_div_pow]
    rfl
  unfold dualProduct
  rw [low, low, high, high]
  norm_num

/-- MACZ: a product of two words fits. -/
theorem accVal_macz (d z : BitVec 72) (a b : Word) (k : Nat) :
    accVal .macz d z a b k = accWrap (a.toInt * b.toInt) := by
  have lo : -2 ^ 62 ≤ a.toInt * b.toInt := BitVec.le_toInt_mul_toInt
  have hi : a.toInt * b.toInt ≤ 2 ^ 62 := BitVec.toInt_mul_toInt_le
  rw [accWrap_of_fits (by omega) (by omega)]
  rfl

/-- ACCLD: a word times 2^31 fits. -/
theorem accVal_accld (d z : BitVec 72) (a b : Word) (k : Nat) :
    accVal .accld d z a b k = accWrap (a.toInt * 2 ^ 31) := by
  have lo : -2 ^ 31 ≤ a.toInt := BitVec.le_toInt a
  have hi : a.toInt < 2 ^ 31 := BitVec.toInt_lt
  rw [accWrap_of_fits (by omega) (by omega)]
  rfl

/-- What an accumulator holds fits. -/
theorem accWrap_toInt (z : BitVec 72) : accWrap z.toInt = ⟨z, false⟩ := by
  rw [accWrap_of_fits (BitVec.le_toInt z) BitVec.toInt_lt, BitVec.ofInt_toInt]

/-- A shift to the right fits. -/
theorem accWrap_toInt_div (z : BitVec 72) (n : Nat) :
    accWrap (z.toInt / 2 ^ n) = ⟨BitVec.ofInt 72 (z.toInt / 2 ^ n), false⟩ := by
  have lo : -2 ^ 71 ≤ z.toInt := BitVec.le_toInt z
  have hi : z.toInt < 2 ^ 71 := BitVec.toInt_lt
  have pos : (1 : Int) ≤ 2 ^ n := one_le_pow₀ (by decide)
  refine accWrap_of_fits ?_ ?_
  · rw [Int.le_ediv_iff_mul_le (by omega)]
    nlinarith only [lo, pos]
  · rw [Int.ediv_lt_iff_lt_mul (by omega)]
    nlinarith only [hi, pos]

/-- ACCSH: the shift count is the signed s2 field. -/
theorem accVal_accsh (d z : BitVec 72) (a b : Word) (k : BitVec 5) :
    accVal .accsh d z a b k.toNat =
      accWrap (if 0 ≤ k.toInt then d.toInt * 2 ^ k.toInt.toNat else d.toInt / 2 ^ (-k.toInt).toNat) := by
  have count : sextNat 5 k.toNat = k.toInt := by rw [sextNat_eq_toInt 5 _ (by decide), BitVec.ofNat_toNat, BitVec.setWidth_eq]
  unfold accVal
  simp only [count, Nat.cast_pow, Nat.cast_ofNat]
  by_cases left : 0 ≤ k.toInt
  · rw [if_pos left, if_pos left]
  · rw [if_neg left, if_neg left, accWrap_toInt_div]

/-! ### Partial writes and reads of an accumulator (R78) -/

/-- A bit of an accumulator with the bits [hi:lo] replaced. -/
theorem getLsbD_accPut (d : BitVec 72) (hi lo v i : Nat) (h : i < 72) :
    (accPut d hi lo v).getLsbD i = if lo ≤ i ∧ i < hi + 1 then v.testBit (i - lo) else d.getLsbD i := by
  unfold accPut
  rw [BitVec.getLsbD_ofNat, testBit_putBits, decide_eq_true h, Bool.true_and]
  rfl

/-- ACCWL replaces the bits 31 to 0. -/
theorem accPut_low (d : BitVec 72) (a : Word) : accPut d 31 0 a.toNat = d.extractLsb' 32 40 ++ a := by
  refine BitVec.eq_of_getLsbD_eq fun i hi => ?_
  rw [getLsbD_accPut _ _ _ _ _ hi, BitVec.getLsbD_append, BitVec.getLsbD_extractLsb']
  by_cases h : i < 32
  · simp [h, BitVec.getLsbD]
  · have : i - 32 < 40 ∧ 32 + (i - 32) = i := by omega
    simp [h, this]

/-- ACCWH replaces the bits 63 to 32. -/
theorem accPut_high (d : BitVec 72) (a : Word) :
    accPut d 63 32 a.toNat = d.extractLsb' 64 8 ++ a ++ d.extractLsb' 0 32 := by
  refine BitVec.eq_of_getLsbD_eq fun i hi => ?_
  rw [getLsbD_accPut _ _ _ _ _ hi, BitVec.getLsbD_append, BitVec.getLsbD_append, BitVec.getLsbD_extractLsb',
    BitVec.getLsbD_extractLsb']
  by_cases h : i < 32
  · have : ¬ 32 ≤ i := by omega
    simp [h, this]
  · by_cases h' : i < 64
    · have : 32 ≤ i ∧ i - 32 < 32 := by omega
      simp [h, h', this, BitVec.getLsbD]
    · have : ¬ i - 32 < 32 ∧ i - 32 - 32 < 8 ∧ 64 + (i - 32 - 32) = i := by omega
      simp [h, h', this]

/-- ACCWG replaces the guard bits 71 to 64. -/
theorem accPut_guard (d : BitVec 72) (a : Word) :
    accPut d 71 64 (a.toNat % 256) = a.extractLsb' 0 8 ++ d.extractLsb' 0 64 := by
  refine BitVec.eq_of_getLsbD_eq fun i hi => ?_
  rw [getLsbD_accPut _ _ _ _ _ hi, BitVec.getLsbD_append, BitVec.getLsbD_extractLsb', BitVec.getLsbD_extractLsb']
  by_cases h : i < 64
  · have : ¬ 64 ≤ i := by omega
    simp [h, this]
  · have : 64 ≤ i ∧ i - 64 < 8 := by omega
    rw [show (256 : Nat) = 2 ^ 8 from rfl, Nat.testBit_mod_two_pow]
    simp [h, hi, this, BitVec.getLsbD]

/-- ACCR: what R65 rounds, half up, at the bit that the s2 field names. -/
theorem roundShift_accr (v : Int) (k : BitVec 5) :
    roundShift v (31 - k.toNat % 32) =
      (v + (if k = 31 then 0 else 2 ^ (30 - k.toNat))) / 2 ^ (31 - k.toNat) := by
  have lt : k.toNat < 32 := k.isLt
  unfold roundShift
  rw [Nat.mod_eq_of_lt lt]
  by_cases h : k = 31
  · subst h; simp
  · have ne : k.toNat ≠ 31 := fun e => h (BitVec.eq_of_toNat_eq e)
    rw [if_neg (by omega), if_neg h, show 31 - k.toNat - 1 = 30 - k.toNat by omega]
    norm_num

/-- ACCR rounds and saturates. -/
theorem accRead_accr (z : BitVec 72) (k : BitVec 5) :
    accRead .accr z k.toNat =
      ⟨sat32 ((z.toInt + (if k = 31 then 0 else 2 ^ (30 - k.toNat))) / 2 ^ (31 - k.toNat)),
        over32 ((z.toInt + (if k = 31 then 0 else 2 ^ (30 - k.toNat))) / 2 ^ (31 - k.toNat))⟩ := by
  rw [← qSat_eq, ← roundShift_accr]
  rfl

/-- ACCRL: the bits 31 to 0. -/
theorem accRead_accrl (z : BitVec 72) (k : Nat) : accRead .accrl z k = ⟨z.extractLsb' 0 32, false⟩ :=
  congrArg qPlain (ofNat_bitsOf z 31 0 32 rfl)

/-- ACCRH: the bits 63 to 32. -/
theorem accRead_accrh (z : BitVec 72) (k : Nat) : accRead .accrh z k = ⟨z.extractLsb' 32 32, false⟩ :=
  congrArg qPlain (ofNat_bitsOf z 63 32 32 rfl)

/-- ACCRG: the guard bits, sign-extended. -/
theorem accRead_accrg (z : BitVec 72) (k : Nat) :
    accRead .accrg z k = ⟨(z.extractLsb' 64 8).signExtend 32, false⟩ := by
  change qPlain (wordOfInt (sextNat 8 (bitsOf z.toNat 71 64))) = _
  rw [sextNat_eq_toInt 8 _ (by decide), ofNat_bitsOf z 71 64 8 rfl]
  rfl

/-! ### What the group leaves behind -/

/-- Operations of the group that write an accumulator. -/
def accWriteOps : List Op := [.mac, .msu, .macz, .mac2, .msu2, .accld, .accwl, .accwh, .accwg, .accadd, .accsub, .accmv, .accsh,
  .accclr]

/-- Operations of the group that read an accumulator into a general register. -/
def accReadOps : List Op := [.accr, .accrl, .accrh, .accrg]

/-- The effect of the operations that write: the result enters Ad, and AVd takes its flag. -/
theorem apply_accWrite (t : State) (n : Nat) (c : CoreSt) (i : Insn) (h : i.op ∈ accWriteOps) :
    t.apply n c i = t.onCore n (fun y =>
      setCsr (setA y i.d (accVal i.op (aReg c i.d) (aReg c i.s1) (opA c i) (opB c i) i.s2).val) 0x011
        (accstatAv (csrOf y 0x011) i.d (accVal i.op (aReg c i.d) (aReg c i.s1) (opA c i) (opB c i) i.s2).av)) := by
  simp only [accWriteOps, List.mem_cons, List.not_mem_nil, or_false] at h
  unfold State.apply State.doAcc
  rcases h with h | h | h | h | h | h | h | h | h | h | h | h | h | h <;> rw [h]

/-- The effect of the operations that read: the result enters Gd, with QS. -/
theorem apply_accRead (t : State) (n : Nat) (c : CoreSt) (i : Insn) (h : i.op ∈ accReadOps) :
    t.apply n c i = t.putQ n i.d (accRead i.op (aReg c i.s1) i.s2) := by
  simp only [accReadOps, List.mem_cons, List.not_mem_nil, or_false] at h
  unfold State.apply State.doAcc
  rcases h with h | h | h | h <;> rw [h]

section
variable {s u : State} {x : Issue} {f : Rrr} {o : Op}

/-- An operation that writes an accumulator leaves its result and its AV flag. -/
theorem accWrite_leaves {r : AccRes} (ho : o ∈ accWriteOps) (hr : accVal o (aReg (u.core x.core) f.d.toNat)
      (aReg (u.core x.core) f.s1.toNat) (gReg (u.core x.core) f.s1.toNat) (gReg (u.core x.core) f.s2.toNat) f.s2.toNat = r)
    (h : Executes s u x (insnRrr o f)) :
    Leaves u (s.issue x (insnRrr o f)) x.core (((nextRegs (u.core x.core)).setA f.d.toNat r.val).orCsr 0x011
      (if r.av then BitVec.ofNat 32 (2 ^ f.d.toNat) else 0)) := by
  have plain : ∀ o ∈ accWriteOps, o ∈ plainOps := by decide
  subst hr
  rw [issue_plain h (plain o ho), apply_accWrite _ _ _ (insnRrr o f) ho]
  exact setA_leaves _ _ _ _ _

/-- Its exact result is taken modulo 2^72, and AV tells whether it fits. -/
theorem accWrap_leaves {v : Int} (ho : o ∈ accWriteOps) (hv : accVal o (aReg (u.core x.core) f.d.toNat)
      (aReg (u.core x.core) f.s1.toNat) (gReg (u.core x.core) f.s1.toNat) (gReg (u.core x.core) f.s2.toNat) f.s2.toNat =
        accWrap v)
    (h : Executes s u x (insnRrr o f)) :
    Leaves u (s.issue x (insnRrr o f)) x.core (((nextRegs (u.core x.core)).setA f.d.toNat (BitVec.ofInt 72 v)).orCsr 0x011
      (if decide (v < -2 ^ 71 ∨ 2 ^ 71 ≤ v) then BitVec.ofNat 32 (2 ^ f.d.toNat) else 0)) :=
  accWrite_leaves ho (hv.trans (accWrap_eq v)) h

/-- A set of no bits. -/
theorem orCsr_zero (r : Regs) (n : Nat) : r.orCsr n 0 = r := by
  have same : (fun j => if j = n then r.csr n ||| 0 else r.csr j) = r.csr := by
    funext j
    by_cases e : j = n
    · rw [if_pos e, e]; exact BitVec.or_zero
    · rw [if_neg e]
  unfold Regs.orCsr
  rw [same]

/-- A partial write raises no flag. -/
theorem accPart_leaves {v : BitVec 72} (ho : o ∈ accWriteOps) (hv : accVal o (aReg (u.core x.core) f.d.toNat)
      (aReg (u.core x.core) f.s1.toNat) (gReg (u.core x.core) f.s1.toNat) (gReg (u.core x.core) f.s2.toNat) f.s2.toNat =
        ⟨v, false⟩)
    (h : Executes s u x (insnRrr o f)) :
    Leaves u (s.issue x (insnRrr o f)) x.core ((nextRegs (u.core x.core)).setA f.d.toNat v) := by
  have left := accWrite_leaves ho hv h
  rwa [if_neg Bool.false_ne_true, orCsr_zero] at left

/-- An operation that reads an accumulator leaves its result in a general register, with QS. -/
theorem accRead_leaves {r : QRes} (ho : o ∈ accReadOps) (hr : accRead o (aReg (u.core x.core) f.s1.toNat) f.s2.toNat = r)
    (h : Executes s u x (insnRrr o f)) :
    Leaves u (s.issue x (insnRrr o f)) x.core
      (((nextRegs (u.core x.core)).setG f.d.toNat r.val).orCsr 0x011 (if r.qs then 0x100 else 0)) := by
  have plain : ∀ o ∈ accReadOps, o ∈ plainOps := by decide
  subst hr
  rw [issue_plain h (plain o ho), apply_accRead _ _ _ (insnRrr o f) ho]
  exact putQ_leaves _ _ _ _

end

/-- Settles O5: each operation issues as a plain instruction, and its row's result is the model's, the ones that are no sums
because they fit 72 bits. -/
theorem accumulatorResults : Obligations.AccumulatorResults := by
  unfold Obligations.AccumulatorResults
  intro s u x f c a b d z p dual out sh q
  simp only [List.forall_mem_cons, List.not_mem_nil, false_implies, implies_true, and_true]
  refine ⟨⟨?mac, ?msu, ?mac2, ?msu2, ?accadd, ?accsub, ?macz, ?accld, ?accsh, ?accmv, ?accclr⟩,
    ⟨?accwl, ?accwh, ?accwg⟩, ⟨?accr, ?accrl, ?accrh, ?accrg⟩⟩ <;> refine fun h => ⟨_, rfl, ?_⟩
  case mac => exact accWrap_leaves (by decide) rfl h
  case msu => exact accWrap_leaves (by decide) rfl h
  case mac2 => exact accWrap_leaves (by decide) (congrArg (fun v => accWrap (d.toInt + v)) (dualProduct_eq a b)) h
  case msu2 => exact accWrap_leaves (by decide) (congrArg (fun v => accWrap (d.toInt - v)) (dualProduct_eq a b)) h
  case accadd => exact accWrap_leaves (by decide) rfl h
  case accsub => exact accWrap_leaves (by decide) rfl h
  case macz => exact accWrap_leaves (by decide) (accVal_macz d z a b _) h
  case accld => exact accWrap_leaves (by decide) (accVal_accld d z a b _) h
  case accsh => exact accWrap_leaves (by decide) (accVal_accsh d z a b f.s2) h
  case accmv => exact accWrap_leaves (by decide) (accWrap_toInt z).symm h
  case accclr => exact accWrap_leaves (by decide) (accWrap_toInt 0).symm h
  case accwl => exact accPart_leaves (by decide) (congrArg (AccRes.mk · false) (accPut_low d a)) h
  case accwh => exact accPart_leaves (by decide) (congrArg (AccRes.mk · false) (accPut_high d a)) h
  case accwg => exact accPart_leaves (by decide) (congrArg (AccRes.mk · false) (accPut_guard d a)) h
  case accr => exact accRead_leaves (by decide) (accRead_accr z f.s2) h
  case accrl => exact accRead_leaves (by decide) (accRead_accrl z _) h
  case accrh => exact accRead_leaves (by decide) (accRead_accrh z _) h
  case accrg => exact accRead_leaves (by decide) (accRead_accrg z _) h

end Sys2Proof.Proofs.JenmelBase

/-!
PROOFS. The control extensions and the fractional products: SAT and LIMIT (R137), QMUL and QMUL2 (R65), and the frame of the
transforms (R130 to R132).
-/

namespace Sys2Proof.Proofs.JenmelControl

open Sys2Proof.Machine Sys2Proof.Safety Sys2Proof.Laws Sys2Proof.Proofs.JenmelBase

/-! ### Rounded products (R65) -/

/-- Rounding at bit `k + 1`: half of the last kept bit is added. -/
theorem roundShift_succ (v : Int) (k : Nat) : roundShift v (k + 1) = (v + 2 ^ k) / 2 ^ (k + 1) := by
  simp [roundShift]

/-- QMUL rounds the product and saturates it. -/
theorem qmulVal_eq (a b : Word) :
    qmulVal a b = ⟨sat32 ((a.toInt * b.toInt + 2 ^ 30) / 2 ^ 31), over32 ((a.toInt * b.toInt + 2 ^ 30) / 2 ^ 31)⟩ := by
  unfold qmulVal
  rw [qSat_eq, roundShift_succ _ 30]

/-- Saturation to 16 bits, two's complement. -/
def sat16 (v : Int) : BitVec 16 := BitVec.ofInt 16 (max (-32768) (min 32767 v))

/-- The exact result does not fit 16 bits, two's complement. -/
def over16 (v : Int) : Bool := decide (v < -32768 ∨ 32767 < v)

/-- The rounded product of the halfwords of two words at bit `lo`. -/
def halfProduct (a b : Word) (lo : Nat) : Int :=
  ((a.extractLsb' lo 16).toInt * (b.extractLsb' lo 16).toInt + 2 ^ 14) / 2 ^ 15

/-- The model's saturated halfword, as a field. -/
theorem natOfInt_satInt_16 (v : Int) : natOfInt 16 (satInt 16 v) = (sat16 v).toNat := by
  have value : satInt 16 v = max (-32768) (min 32767 v) := by
    unfold satInt clampInt; omega
  rw [value]
  rfl

/-- The model's flag of a halfword. -/
theorem satFlag_16 (v : Int) : satFlag 16 v = over16 v := by
  rw [satFlag_eq]
  unfold over16
  rw [decide_eq_decide]
  omega

/-- The low half of a word is its low halfword. -/
theorem loHalf_eq (a : Word) : loHalf a = (a.extractLsb' 0 16).toInt := sextNat_eq_toInt 16 _ (by decide)

/-- The high half of a word is its high halfword. -/
theorem hiHalf_eq (a : Word) : hiHalf a = (a.extractLsb' 16 16).toInt := by
  unfold hiHalf
  rw [sextNat_eq_toInt 16 _ (by decide), ← Nat.shiftRight_eq_div_pow]
  rfl

/-- Two halfwords side by side. -/
theorem ofNat_halves (h l : BitVec 16) : BitVec.ofNat 32 (h.toNat * 2 ^ 16 + l.toNat) = h ++ l := by
  apply BitVec.eq_of_toNat_eq
  rw [BitVec.toNat_append, ← Nat.shiftLeft_add_eq_or_of_lt l.isLt, Nat.shiftLeft_eq, BitVec.toNat_ofNat]
  omega

/-- QMUL2 rounds and saturates the products of the halfwords. -/
theorem qmul2Val_eq (a b : Word) :
    qmul2Val a b = ⟨sat16 (halfProduct a b 16) ++ sat16 (halfProduct a b 0),
      over16 (halfProduct a b 16) || over16 (halfProduct a b 0)⟩ := by
  have low : qmulHalf (loHalf a) (loHalf b) = halfProduct a b 0 := by
    rw [loHalf_eq, loHalf_eq]; exact roundShift_succ _ 14
  have high : qmulHalf (hiHalf a) (hiHalf b) = halfProduct a b 16 := by
    rw [hiHalf_eq, hiHalf_eq]; exact roundShift_succ _ 14
  unfold qmul2Val
  simp only [low, high, natOfInt_satInt_16, satFlag_16, ofNat_halves]
  rw [Bool.or_comm]

/-! ### Clamps (R137) -/

/-- SAT clamps to n + 1 bits, and QS tells that the value changed. -/
theorem satVal_eq (a : Word) (n : Nat) :
    satVal a n = ⟨BitVec.ofInt 32 (max (-2 ^ n) (min (2 ^ n - 1) a.toInt)),
      decide (max (-2 ^ n) (min (2 ^ n - 1) a.toInt) ≠ a.toInt)⟩ := by
  have pos : (1 : Int) ≤ 2 ^ n := one_le_pow₀ (by decide)
  have value : satInt (n + 1) a.toInt = max (-2 ^ n) (min (2 ^ n - 1) a.toInt) := by
    unfold satInt clampInt
    push_cast [Nat.add_sub_cancel]
    omega
  unfold satVal satFlag wordOfInt
  rw [value]

/-- The smaller of two signed words. -/
theorem toInt_lower (a b : Word) : (if a.slt b then a else b).toInt = min b.toInt a.toInt := by
  by_cases h : a.slt b = true
  · rw [if_pos h, min_eq_right (BitVec.slt_iff_toInt_lt.mp h).le]
  · rw [if_neg h, min_eq_left (not_lt.mp (mt BitVec.slt_iff_toInt_lt.mpr h))]

/-- The greater of two signed words. -/
theorem toInt_upper (a b : Word) : (if a.slt b then b else a).toInt = max b.toInt a.toInt := by
  by_cases h : a.slt b = true
  · rw [if_pos h, max_eq_left (BitVec.slt_iff_toInt_lt.mp h).le]
  · rw [if_neg h, max_eq_right (not_lt.mp (mt BitVec.slt_iff_toInt_lt.mpr h))]

/-- LIMIT clamps between its bounds, the lower one last, and QS tells that the value changed. -/
theorem limitVal_eq (a lo hi : Word) :
    limitVal a lo hi = ⟨BitVec.ofInt 32 (max lo.toInt (min hi.toInt a.toInt)),
      decide (max lo.toInt (min hi.toInt a.toInt) ≠ a.toInt)⟩ := by
  have changed : ∀ r : Word, (r != a) = decide (r.toInt ≠ a.toInt) := fun r => by
    rw [Bool.eq_iff_iff, bne_iff_ne, decide_eq_true_iff, Ne, Ne, BitVec.toInt_inj]
  unfold limitVal
  rw [← toInt_lower, ← toInt_upper, BitVec.ofInt_toInt, ← changed]

/-! ### Registers written one after the other -/

/-- Bits set in a CSR twice. -/
theorem orCsr_orCsr (r : Regs) (n : Nat) (v w : Word) : (r.orCsr n v).orCsr n w = r.orCsr n (v ||| w) := by
  unfold Regs.orCsr
  congr 1
  funext j
  by_cases e : j = n <;> simp [e, BitVec.or_assoc]

/-- QS of two results. -/
theorem qsBit_or (p q : Bool) :
    (if p then 0x100#32 else 0) ||| (if q then 0x100#32 else 0) = if p || q then 0x100#32 else 0 := by
  cases p <;> cases q <;> rfl

/-- A result with its QS flag is written after other registers. -/
theorem leaves_putQ {u t : State} {n : Nat} {r : Regs} (h : Leaves u t n r) (d : Nat) (v : QRes) :
    Leaves u (t.putQ n d v) n ((r.setG d v.val).orCsr 0x011 (if v.qs then 0x100#32 else 0)) := by
  obtain ⟨only, others, own, hg, ha, hf, hk, hc⟩ := h
  refine leaves_of_core (setCsr (setG (t.core n) d v.val) 0x011 (accstatQs (csrOf (t.core n) 0x011) v.qs))
    (only_onCore (only_onCore only _ _) _ _) ?_ ?_ ?_ ?_ ?_ ?_ ?_ ?_
  · unfold State.putQ State.putG
    rw [core_onCore, if_pos rfl, core_onCore, if_pos rfl, csrOf_setG]
  · intro m hm
    unfold State.putQ State.putG
    rw [core_onCore, if_neg hm, core_onCore, if_neg hm, others m hm]
  · rw [own]; unfold setG setCsr; split <;> rfl
  · intro j; rw [gReg_setCsr, gReg_setG, hg]; rfl
  · intro j; rw [aReg_setCsr, aReg_setG, ha]; rfl
  · intro j; rw [fReg_setCsr, fReg_setG, hf]; rfl
  · intro j; rw [kReg_setCsr, kReg_setG, hk]; rfl
  · intro j; rw [csrOf_setCsr, csrOf_setG, accstatQs_or, hc, hc]; rfl

/-- Results are written to consecutive registers: no other one changes, and QS is set when one of the results sets it. -/
theorem leaves_putQs {u : State} {n : Nat} (l : List QRes) : ∀ {t : State} {r : Regs} (d : Nat), Leaves u t n r →
    ∃ g : Nat → Word, (∀ j, j < d ∨ d + l.length ≤ j → g j = r.g j) ∧
      Leaves u (t.putQs n d l) n (({ r with g := g }).orCsr 0x011 (if l.any (·.qs) then 0x100#32 else 0)) := by
  induction l with
  | nil =>
    refine fun {t r} d h => ⟨r.g, fun _ _ => rfl, ?_⟩
    rw [List.any_nil, if_neg Bool.false_ne_true]
    exact (orCsr_zero r 0x011).symm ▸ h
  | cons v l ih =>
    intro t r d h
    obtain ⟨g, frame, left⟩ := ih (d + 1) (leaves_putQ h d v)
    refine ⟨g, fun j hj => ?_, ?_⟩
    · rw [List.length_cons] at hj
      rw [frame j (by omega)]
      exact if_neg (by omega)
    · rw [List.any_cons, ← qsBit_or, ← orCsr_orCsr]
      exact left

/-! ### What the rows leave behind -/

section
variable {s u : State} {x : Issue} {f : Rrr} {o : Op}

/-- A plain instruction that writes one result leaves it, with QS. -/
theorem word_leaves {v : QRes} {w : Word} {q : Bool} (hp : o ∈ plainOps)
    (ha : ∀ t : State, t.apply x.core (u.core x.core) (insnRrr o f) = t.putQ x.core f.d.toNat v) (hv : v = ⟨w, q⟩)
    (h : Executes s u x (insnRrr o f)) :
    Leaves u (s.issue x (insnRrr o f)) x.core
      (((nextRegs (u.core x.core)).setG f.d.toNat w).orCsr 0x011 (if q then 0x100 else 0)) := by
  subst hv
  rw [issue_plain h hp, ha]
  exact putQ_leaves _ _ _ _

/-- A plain instruction that writes `k` results changes no other register, and QS at most. -/
theorem group_leaves {l : List QRes} {k : Nat} (hp : o ∈ plainOps)
    (ha : ∀ t : State, t.apply x.core (u.core x.core) (insnRrr o f) = t.putQs x.core f.d.toNat l)
    (hk : l.length = k) (h : Executes s u x (insnRrr o f)) :
    ∃ g : Nat → Word, (∀ j, j < f.d.toNat ∨ f.d.toNat + k ≤ j → g j = gReg (u.core x.core) j) ∧
      ∃ q : Bool, Leaves u (s.issue x (insnRrr o f)) x.core
        (({ nextRegs (u.core x.core) with g := g }).orCsr 0x011 (if q then 0x100 else 0)) := by
  subst hk
  obtain ⟨g, frame, left⟩ := leaves_putQs l f.d.toNat (pcNext_leaves u x.core)
  rw [issue_plain h hp, ha]
  exact ⟨g, frame, _, left⟩

end

/-- Settles O4: each transform is a plain instruction that writes a group of results; the products and clamps are plain ones
that write one, and the value of each is what its rule says. -/
theorem fractionResults : Obligations.FractionResults := by
  unfold Obligations.FractionResults
  simp only [List.forall_mem_cons, List.not_mem_nil, false_implies, implies_true, and_true]
  refine ⟨fun s u x f => ⟨?clarke, ?clarke3, ?park, ?ipark, ?sincos, ?symcomp⟩,
    fun s u x f => ⟨?qmul, ?qmul2, ?sat, ?limit⟩⟩ <;> refine fun h => ⟨_, rfl, ?_⟩
  case clarke | clarke3 | park | ipark | sincos | symcomp => exact group_leaves (by decide) (fun _ => rfl) rfl h
  case qmul => exact word_leaves (by decide) (fun _ => rfl) (qmulVal_eq _ _) h
  case qmul2 => exact word_leaves (by decide) (fun _ => rfl) (qmul2Val_eq _ _) h
  case sat => exact word_leaves (by decide) (fun _ => rfl) (satVal_eq _ _) h
  case limit => exact word_leaves (by decide) (fun _ => rfl) (limitVal_eq _ _ _) h

end Sys2Proof.Proofs.JenmelControl
